-- ==== Sys2Proof/Word.lean ====
section
/-!
DEFINITION. The word types of the OPX-S960: the 16-bit dictionary word (R11), the byte, the engine's instruction
word (R317) and program address (R316), and the 48 GPIO pins as one word (R439).
-/
namespace Sys2Proof

/-- A dictionary word and an engine register (R11, R316). -/
abbrev Word := BitVec 16

/-- A byte of the NVM and of a frame's payload. -/
abbrev Byte := BitVec 8

/-- An engine instruction word (R317). -/
abbrev InstrWord := BitVec 32

/-- A program address of the engine (R316). -/
abbrev PAddr := BitVec 13

/-- One bit per GPIO pin, pin n at bit n (R439). -/
abbrev Pins := BitVec 48

end Sys2Proof
end

