-- ==== Sys2Proof/Syntax.lean ====
section
/-!
DEFINITION. The commands of the block: one constructor of Instr for each row of spec/opcode_table.json, with the
operands that the step takes from outside the device (a requester, an address and a value, a raw result, a pin
level, the outcome of an NVM write). Five rows take a trailing operand that may be left out; it then stands for the
usual case: both ADDR balls tied low (PLL_LOCK), no silent comparator group (LOGIC_BIST), a disagreement that shows at
no ball (LOCKSTEP_MISMATCH), a whole word with the next one asked for (TWI_WORD_READ), a quiet port (BIST_RUN_START).
-/
namespace Sys2Proof

/-- The four requesters of the dictionary (R57). -/
inductive Requester where
  | cana | canb | twi | eng
  deriving DecidableEq, Repr

/-- The two CAN ports (R393). -/
inductive Port where
  | a | b
  deriving DecidableEq, Repr

/-- The level read at ADDR0 or ADDR1 (R417, R524). -/
inductive Tri where
  | low | open | high
  deriving DecidableEq, Repr

/-- What the comparisons of an ADDR ball show while the device sources 20 µA there, and while it sinks 20 µA: below
0.2 × V33, above 0.8 × V33 (R524). -/
structure AddrSense where
  sourceLow : Bool
  sourceHigh : Bool
  sinkLow : Bool
  sinkHigh : Bool
  deriving DecidableEq, Repr

/-- What both comparisons show of a ball that the board ties low (R524). -/
def AddrSense.tiedLow : AddrSense := { sourceLow := true, sourceHigh := false, sinkLow := true, sinkHigh := false }

/-- The supply whose loss is handled as a collapse (R351). -/
inductive CoreSupply where
  | v33 | v09
  deriving DecidableEq, Repr

/-- A GPIO bank (R439). -/
inductive VioBank where
  | a | b
  deriving DecidableEq, Repr

/-- The three record views (R287). -/
inductive ViewId where
  | kernel | husk | summary
  deriving DecidableEq, Repr

/-- The branch conditions of R319, in code order 0 to 8. -/
inductive Cond where
  | al | eq | ne | lt | ge | lo | hs | mi | pl
  deriving DecidableEq, Repr

/-- The blocks of SUPERVISE whose registers the two copies hold, the parts of the dictionary store among them: active values,
latched values, what it keeps for a requester, the accepted requests and the snapshot banks (R28, R29). -/
inductive SupBlock where
  | mode | chan | conv | pod | entry | dis | margin | crash | line | supply | events
  | dict | latched | requester | queue | snapshot
  deriving DecidableEq, Repr

/-- An output or a register of SUPERVISE at which its two copies stand otherwise (R29, R31): the enable of a rail, the
drive of a margin output, DIS n, SAFE_N, the drive of FLT, or a state-bearing register that shows at no ball. -/
inductive SupPart where
  | enable (c : Nat)
  | margin (c : Nat)
  | dis (n : Nat)
  | safeN
  | flt
  | register (b : SupBlock) (i n v : Nat)
  deriving DecidableEq, Repr

/-- What the supply monitor and the temperature sensor measure (R355, R356, R286). -/
structure Measured where
  /-- VAUX, units of 10 mV. -/
  vaux : Nat
  /-- V33, mV. -/
  v33 : Nat
  /-- V09, mV. -/
  v09 : Nat
  /-- Junction temperature, units of 0.1 °C, two's complement in 16 bits. -/
  tj : Nat
  /-- V_HOLD, units of 0.1 V. -/
  vhold : Nat
  deriving DecidableEq, Repr

/-- The first failing cell of a memory BIST (R496). -/
structure MemCell where
  ram : Nat
  addr : Nat
  bit : Nat
  deriving DecidableEq, Repr

/-- How a logic BIST run ended (R494). -/
structure BistRun where
  /-- The pattern counter at the end of the run. -/
  patterns : Nat
  /-- The MISR at the end of the run. -/
  misr : Nat
  deriving DecidableEq, Repr

/-- The commands: one constructor per row of spec/opcode_table.json, in the table's order. -/
inductive Instr where
  | powerOn
  | resetRelease (addr0 addr1 : AddrSense)
  | resetNAssert
  | pllLockLoss
  | pllLock (addr0 addr1 : AddrSense := AddrSense.tiedLow)
  | crystalCheck (pass : Bool)
  | crystalMonitorGate (edges : Nat)
  | memoryBist (fail : Option MemCell)
  | logicBist (part : Nat) (run copy : BistRun) (silent : List Nat := [])
  | ringScan
  | imageLoad
  | bootStepOverrun (stepNo : Nat)
  | bootComplete
  | frameBoundary (pins : Pins)
  | conversion (slot : Nat) (raws : List Nat) (pins : Pins)
  | judgeSample (slot : Nat)
  | lockstepMismatch (parts : List SupPart := [.register .events 0 0 1])
  | trigEdge (g : Nat) (rising : Bool)
  | urgentReq (r : Requester) (g entry : Nat)
  | dictionaryWrite (r : Requester) (idx sub val : Nat)
  | commit (r : Requester)
  | commitDiscard (r : Requester)
  | word0ShadowRead (r : Requester) (idx sub : Nat)
  | riseRequest (r : Requester) (p : Nat)
  | fallRequest (r : Requester) (p : Nat)
  | landingRelease (r : Requester) (p : Nat)
  | podreqEdge (k : Nat) (rising : Bool)
  | riseDeadlineExpiry (p k : Nat)
  | landingTimeout (p : Nat)
  | retryCooldownExpiry (p : Nat)
  | descentLimitExpiry (p : Nat)
  | disLimitExpiry (c : Nat)
  | crashCmd (r : Requester)
  | clearCrash (r : Requester)
  | autoClear
  | fltQuiet
  | fltFall (tick : Nat)
  | fltPulseEnd (len : Nat)
  | faultRecognition
  | listenWindowExpiry
  | syncSend
  | heartbeatSend
  | syncLoss
  | joinWindowExpiry
  | partnerLost (i : Nat)
  | lineCmdStart (r : Requester)
  | lineCmdStop (r : Requester)
  | lineCommandSend
  | originatorHoldEnd
  | arbitrationStart
  | arbitrationResult (others : BitVec 21)
  | arbitrationAbandon
  | kernelCommitStart
  | kernelCommitEnd (ok : Bool)
  | huskWriteEnd (ok : Bool)
  | summaryWriteStart
  | summaryWriteEnd (ok : Bool)
  | collapse
  | holdLow
  | holdRecover
  | viewSelect (r : Requester) (v : ViewId) (sel : Nat)
  | viewLoadDone (r : Requester) (v : ViewId)
  | marginTarget (r : Requester) (c target : Nat)
  | marginRelease (r : Requester) (c : Nat)
  | pipReq (r : Requester) (c stepVal : Nat)
  | pipBaselineEnd (c : Nat)
  | pipCaptureEnd (c : Nat)
  | illegal
  | nop
  | halt
  | add (rd ra rb : Fin 16)
  | sub (rd ra rb : Fin 16)
  | and (rd ra rb : Fin 16)
  | or (rd ra rb : Fin 16)
  | xor (rd ra rb : Fin 16)
  | shl (rd ra rb : Fin 16)
  | shr (rd ra rb : Fin 16)
  | asr (rd ra rb : Fin 16)
  | mul (rd ra rb : Fin 16)
  | mulh (rd ra rb : Fin 16)
  | cmp (ra rb : Fin 16)
  | ldi (rd : Fin 16) (imm : Word)
  | addi (rd ra : Fin 16) (imm : Word)
  | andi (rd ra : Fin 16) (imm : Word)
  | ori (rd ra : Fin 16) (imm : Word)
  | xori (rd ra : Fin 16) (imm : Word)
  | cmpi (ra : Fin 16) (imm : Word)
  | shli (rd ra : Fin 16) (imm : BitVec 4)
  | shri (rd ra : Fin 16) (imm : BitVec 4)
  | ld (rd ra : Fin 16) (imm : Word)
  | st (rd ra : Fin 16) (imm : Word)
  | drd (rd ra : Fin 16) (imm : Word)
  | dwr (rd ra : Fin 16) (imm : Word)
  | tact (rd ra : Fin 16)
  | b (c : Cond) (target : PAddr)
  | call (target : PAddr)
  | ret
  | jr (ra : Fin 16)
  | fcall
  | fret
  | waitf
  | waitfResume
  | waite
  | ei
  | di
  | reti
  | getev (rd : Fin 16)
  | sigA
  | sigB
  | timeFrameLow (rd : Fin 16)
  | timeFrameHigh (rd : Fin 16)
  | timeTick (rd : Fin 16)
  | interrupt
  | tactFire
  | engineStart
  | engineCommandHalt (r : Requester)
  | engineCommandStart (r : Requester)
  | engineProgClear (r : Requester)
  | engineProgDataWrite (r : Requester) (w : InstrWord)
  | engineProgDataRead (r : Requester)
  | modeReqRise (r : Requester)
  | modeReqFall (r : Requester)
  | modeReqEnterService (r : Requester)
  | modeReqLeaveService (r : Requester)
  | modeReqEnterSleep (r : Requester)
  | modeReqReset (r : Requester)
  | key (r : Requester)
  | keyExpiry (r : Requester)
  | sleepEntryComplete
  | wakeTwoWire (addr : Nat)
  | wakePinEvent (n : Nat) (rising : Bool)
  | wakeTimer
  | wakeReady
  | supplyLoss (which : CoreSupply)
  | venBankChange (g : Nat) (good : Bool)
  | vioBankChange (bank : VioBank) (good : Bool)
  | supplyMeasure (m : Measured)
  | supplyWarning (bit : Nat)
  | supplyWarningClear (bit : Nat)
  | tempWarning
  | tempWarningClear
  | thermalShutdown
  | imageBegin (r : Requester)
  | imageChunk (r : Requester) (bytes : List Byte)
  | imageChunkDone (ok : Bool)
  | imageVerify (r : Requester)
  | imageVerifyDone
  | imageActivate (r : Requester)
  | imageAbort (r : Requester)
  | imageKeyWrite (r : Requester) (keyVal : Nat)
  | authRequiredSet (r : Requester)
  | canRequestReceived (p : Port) (node : Nat) (payload : List Byte)
  | odpServe
  | canFrameSent (p : Port)
  | canHeartbeat (p : Port)
  | eventFrameAssemble (p : Port)
  | publishAssemble (m : Nat)
  | canErrorStateChange (p : Port) (es tec rxe : Nat)
  | twiAddress (addr : Nat) (read : Bool)
  | twiPointerSet (b1 b2 b3 : Byte)
  | twiWordWrite (hi lo : Byte)
  | twiWordRead (low more : Bool := true)
  | twiStoreAccess
  | twiStop
  | twiMidbyteCondition (start : Bool)
  | twiTimeout
  | twiImageChunk (bytes : List Byte)
  | pinOutWrite (r : Requester) (n val : Nat)
  | pinLockSequence (r : Requester)
  | pinEventEdge (n : Nat) (rising : Bool)
  | pinEventDebounced (n : Nat)
  | eventClear (r : Requester) (mask : Nat)
  | evoPulseEnd (k : Nat)
  | counterClearOvf (r : Requester) (k : Nat)
  | counterZero (r : Requester) (k : Nat)
  | counterOverflow (k : Nat)
  | counterDump
  | bistSchedulingPoint
  | bistRunStart (busy : Bool := false)
  | bistSkip
  | bistRunEnd (run : BistRun)
  | testNow (r : Requester) (val : Nat)
  | powerLoss
  | twoWireTargetReady
  | traceRecordSent
  deriving DecidableEq, Repr

end Sys2Proof
end

