-- ==== Sys2Proof/Config.lean ====
section
/-!
DEFINITION. What an implementation fixes and the manual leaves open: values with no body, which no proof can see.
-/
namespace Sys2Proof.Config

/-- IDENTITY.SERIAL, the unique serial number of the device (R380): "per device" (log 9). -/
opaque serial : BitVec 64

/-- The device code, fixed per part (R380). -/
def deviceCode : Nat := 0x0960

/-- What a byte of a record slot holds whose write was abandoned or whose read-back failed: the manual says no more
than that the slot is torn (R262, R268, R269, R271). The arguments are the count of free values used and the
address (log 8). -/
opaque tornByte : Nat → Nat → Byte

/-- By how much the CRC field of a torn slot differs from the right CRC (log 8). -/
opaque tornCrc : Nat → Nat

/-- What a 32-bit count shows beyond its format, where the manual states neither a bound nor a wrap (log 8). -/
opaque beyond32 : Nat → Nat

/-- FRAME of a collapse record when no frame has completed (R284, log 8). -/
opaque openFrame : Nat → Nat

/-- The raw value that a capture holds for a channel whose sample of the deciding frame has not run when the record
starts on hold-up energy (R264, R283, log 8). The arguments are the count of free values used and the channel. -/
opaque openRaw : Nat → Nat → Nat

/-- The expected signature of a self-test partition, fixed per silicon stepping (R493, log 23). -/
opaque expectedSig : Nat → BitVec 32

/-- The PRPG of a self-test partition after a number of patterns, its fixed seed after none: the manual gives neither the
seed nor the polynomial (R493, R494, log 23). -/
opaque prpg : Nat → Nat → BitVec 32

end Sys2Proof.Config
end

