-- ==== Sys2Proof/Machine/State.lean ====
section
/-!
DEFINITION. The state of the device as plain data, its reset value, and the two reason types of a stop.
Tables over channels, pods, dictionary fields and memories are sparse maps in one canonical form.
-/
namespace Sys2Proof.Machine

/-- A sparse table: keys strictly rising, no entry equal to what an unlisted key reads as. -/
abbrev Map (α : Type) := List (Nat × α)

/-! ## Power, reset, clock and mode -/

/-- The major modes of R339, in code order. -/
inductive Mode where
  | boot | standby | ascend | run | descend | crash | service | sleep
  deriving DecidableEq, Repr

/-- Power and reset (R349, R358, R359). -/
structure Power where
  /-- VAUX above 4.0 V: the always-on domain runs. -/
  powered : Bool
  /-- The device is held in reset. -/
  held : Bool
  /-- The sources that hold the reset, one bit per RESET_CAUSE bit (R358). -/
  srcs : Nat
  /-- Every source active during the present reset. -/
  causes : Nat
  /-- MODE_CTRL.RESET_CAUSE. -/
  resetCause : Nat
  /-- V33 and V09 have stayed good since SLEEP entry (R370, R371). -/
  retained : Bool
  deriving DecidableEq, Repr

/-- The clock root and device time (R7, R41 to R49). -/
structure Clock where
  /-- Device time in ticks. -/
  time : Nat
  /-- CLOCK_STATUS.SOURCE: the PLL reference is the crystal. -/
  crystal : Bool
  bootInternal : Bool
  fallback : Bool
  monFail : Bool
  /-- Consecutive failing gates (R43). -/
  failGates : Nat
  pllLocked : Bool
  /-- Device time of the latest entry to STANDBY from BOOT or from SLEEP (R285). -/
  standbyAt : Nat
  /-- Event 42 is to be raised at STANDBY entry (R41). -/
  degraded : Bool
  deriving DecidableEq, Repr

/-- The BOOT steps (R360) and MODE_CTRL.BOOT_INFO (R348). -/
structure Boot where
  hold : Bool
  /-- The BOOT-HOLD cause (R361). -/
  cause : Nat
  crystalDone : Bool
  memDone : Bool
  /-- Bit i: partition i has passed its BOOT run (R494). -/
  logicDone : Nat
  ringDone : Bool
  imageDone : Bool
  /-- Frames still to run before STANDBY: the rest of the frame of the image load, then 16 reference-check frames
  (R136, R360). -/
  refFrames : Nat
  bankB : Bool
  bankFallback : Bool
  auth : Bool
  /-- BOOT_INFO.BOOT_TIME, units of 0.1 ms. -/
  bootTime : Nat
  addrSel : Nat
  deriving DecidableEq, Repr

/-- A wake source with its pin event line (R371). -/
inductive Wake where
  | twoWire
  | pin (n : Nat)
  | timer
  deriving DecidableEq, Repr

/-- SLEEP (R369 to R372). -/
structure Sleep where
  /-- The entry is complete and CLK_CORE is stopped. -/
  entered : Bool
  /-- A wake event has been taken and the device is waking. -/
  wake : Option Wake
  /-- CORE_EN is driven low (R366). -/
  coreLow : Bool
  /-- MODE_CTRL.WAKE_INFO. -/
  wakeInfo : Nat
  deriving DecidableEq, Repr

/-! ## Requesters -/

/-- A requester's key: the sequence half written, or armed since a device time (R345). -/
inductive KeyState where
  | idle
  | half
  | armed (since : Nat)
  deriving DecidableEq, Repr

/-- A view's block buffer (R287, R288). -/
structure View where
  select : Nat
  ready : Bool
  loading : Bool
  valid : Bool
  torn : Bool
  slot : Nat
  seq : Nat
  /-- The loaded block; empty reads 0. -/
  data : List Byte
  deriving DecidableEq, Repr

/-- A word-0 shadow: the field's key, its value and its width in words (R73). -/
structure Shadow where
  key : Nat
  val : Nat
  words : Nat
  deriving DecidableEq, Repr

/-- An open write gather: the field's key and the words so far, first word first (R77). -/
structure Gather where
  key : Nat
  words : List Nat
  deriving DecidableEq, Repr

/-- What the device keeps for one requester (R57, R73, R77, R345, R533). -/
structure ReqState where
  /-- The staging buffer: field key and value, in staging order (R59). -/
  staged : List (Nat × Nat)
  overflow : Bool
  discarded : Bool
  applied : Bool
  /-- Committed sets that await the boundary, oldest first (R62). -/
  sets : List (List (Nat × Nat))
  shadow : Option Shadow
  gather : Option Gather
  key : KeyState
  modeStat : Nat
  cmdStat : Nat
  /-- URGENT_STAT per converter (R116). -/
  urgentStat : Map Nat
  /-- REQ_STAT per pod (R184). -/
  podStat : Map Nat
  /-- REQ_STAT per channel (R308). -/
  marginStat : Map Nat
  /-- PIN_LOCK.MASK (R457). -/
  pinMask : Nat
  /-- 0x4C4B has been written to PIN_LOCK.LOCK (R453). -/
  lockHalf : Bool
  /-- ENGINE_PROG.ADDR (R338). -/
  progAddr : Nat
  /-- GALLERY_RAM.ADDR (R492). -/
  galAddr : Nat
  viewK : View
  viewH : View
  viewS : View
  deriving DecidableEq, Repr

/-- Where a request at an action-queue port came from (R156). -/
inductive Source where
  | pin
  | line
  | port (r : Requester)
  deriving DecidableEq, Repr

/-- What a request asks for (R156). -/
inductive Ask where
  | rise (p : Nat)
  | fall (p : Nat)
  | release (p : Nat)
  | mode (v : Nat)
  | margin (c target : Nat)
  | marginRelease (c : Nat)
  | pip (c stepVal : Nat)
  deriving DecidableEq, Repr

/-- A request accepted in the present frame (R53, R156). -/
structure Request where
  ask : Ask
  src : Source
  /-- The tick of acceptance. -/
  time : Nat
  deriving DecidableEq, Repr

/-! ## SUPERVISE: channels and converters -/

/-- The rail state that the judge sees (R126). -/
inductive Rail where
  | off | rising | running
  deriving DecidableEq, Repr

/-- One channel: its sample and its judgement (R118, R126, R127, R139, R140). -/
structure Chan where
  raw : Nat
  /-- The scaled value of the sample (R94); 0 for unused and logic channels (R118). -/
  scaled : Int
  slot : Nat
  disp : Bool
  kindEff : Nat
  cfgErr : Bool
  /-- ENnn is asserted. -/
  enable : Bool
  st : Rail
  ov : Nat
  uv : Nat
  owc : Nat
  uwc : Nat
  pgc : Nat
  settle : Nat
  chatter : Nat
  ovf : Bool
  uvf : Bool
  ovw : Bool
  uvw : Bool
  pg : Bool
  disch : Bool
  belowDis : Bool
  failedEarly : Bool
  thrErr : Bool
  pairErr : Bool
  pairMm : Bool
  pairCnt : Nat
  pairCompared : Bool
  /-- d of R133, signed. -/
  pairDiff : Int
  /-- The rail was RUNNING when its sample of this frame began to be judged (R135). -/
  wasRunning : Bool
  /-- Frame of a good report that no boundary has taken yet (R129). -/
  good : Option Nat
  /-- Frame of a chatter failure that no boundary has taken yet (R166). -/
  chatFail : Option Nat
  /-- A descent fault waits for its boundary (R196). -/
  descFault : Bool
  deriving DecidableEq, Repr

/-- Who made an urgent request (R104). -/
inductive UrgentSrc where
  | trig
  | servo (c : Nat)
  | port (r : Requester)
  deriving DecidableEq, Repr

/-- An urgent request: its source, the entry it converts and the tick of its recognition (R104, R106). -/
structure Urgent where
  src : UrgentSrc
  entry : Nat
  time : Nat
  deriving DecidableEq, Repr

/-- One converter (R101, R106, R108, R114, R136). -/
structure Conv where
  /-- Result registers 0 to 15 (R117). -/
  regs : Map Nat
  /-- Urgent places of the present frame: slot and request, in slot order (R106). -/
  places : List (Nat × Urgent)
  pend : Option Urgent
  /-- The entry displaced into slot 14, and into slot 15 (R108). -/
  disp14 : Option Nat
  disp15 : Option Nat
  /-- Urgent results of the present frame (R101). -/
  urgentRun : Nat
  overruns : Nat
  /-- CHECK_STATUS: entry 12 and entry 13 failed in the latest frame. -/
  failA : Bool
  failB : Bool
  /-- Consecutive failing frames (R136). -/
  cntA : Nat
  cntB : Nat
  /-- CHECK_A_EXP and CHECK_B_EXP. -/
  expA : Nat
  expB : Nat
  deriving DecidableEq, Repr

/-! ## SUPERVISE: pods, discharge, margins -/

/-- The pod states of R147, in code order. -/
inductive PodSt where
  | off | rising | on | falling | failed | crashed
  deriving DecidableEq, Repr

/-- Why a rise entry failed (R183 FAIL_INFO), in code order from 1. -/
inductive FailCause where
  | deadline | chatter | landingTimeout | childFailed
  deriving DecidableEq, Repr

/-- One flight entry as the pod unit runs it (R161, R165, R178, R186, R199). -/
structure EntrySt where
  reached : Bool
  /-- The wait of R165 is open. -/
  waiting : Bool
  /-- Frame opened by the boundary at which the entry was reached. -/
  start : Nat
  good : Bool
  /-- Switched off in the present descent. -/
  swOff : Bool
  /-- Frame opened by its switch-off boundary (R187). -/
  offFrame : Nat
  /-- Reached discharged in the present descent. -/
  disd : Bool
  /-- Holds an action-queue entry (R178). -/
  queued : Bool
  /-- A descent transition that waits for an action-queue entry (R200). -/
  wantsQ : Bool
  deriving DecidableEq, Repr

/-- One pod (R147 to R183, R188 to R213). -/
structure Pod where
  st : PodSt
  inUse : Bool
  parent : Option Nat
  depth : Nat
  treeErr : Bool
  fc : Nat
  k : Nat
  held : Bool
  hf : Nat
  queueWait : Bool
  latched : Bool
  /-- Frame O at which a retry cooldown began (R170). -/
  cooldown : Option Nat
  retryActive : Bool
  retriesUsed : Nat
  /-- The present descent is a retry descent that found no retry left (R171). -/
  exhausted : Bool
  failCause : Option FailCause
  failEntry : Nat
  failFrame : Nat
  startFrame : Nat
  failedLast : Bool
  ents : Map EntrySt
  dc : Nat
  timeout : Bool
  descFault : Bool
  disFault : Bool
  gate : Nat
  /-- A landing release written while the landing was held (R163): by a host, by the engine. -/
  relHost : Bool
  relEng : Bool
  /-- A line START seen during the closing frame (R163). -/
  relLine : Bool
  /-- The flight was stopped by an ancestor's retry descent (R173). -/
  frozen : Bool
  /-- Frame opened by the boundary at which the latest descent started (R188). -/
  descFrame : Nat
  /-- A failure found in this boundary has not been handled yet (R173); false between steps. -/
  failPend : Bool
  deriving DecidableEq, Repr

/-- A discharge watch (R203, R204). -/
structure Watch where
  /-- A, the watch's first frame. -/
  first : Nat
  ec : Nat
  sup : Bool
  reached : Bool
  deriving DecidableEq, Repr

/-- One channel's discharge member (R185, R203). -/
structure Dis where
  watch : Option Watch
  /-- The output at which the latest watch opened (R203, R205). -/
  out : Option Nat
  /-- The output asserted in a crash tick; its watch opens at the first boundary after the crash (R203). -/
  opening : Bool
  /-- A discharge-only member that is switched off in the present descent. -/
  swOff : Bool
  /-- It counts as reached discharged in the present descent. -/
  disd : Bool
  offFrame : Nat
  deriving DecidableEq, Repr

/-- An asserted DIS output: the channel that asserted it and the pod that owned it then (R202, R207). -/
structure DisOut where
  chan : Nat
  owner : Option Nat
  deriving DecidableEq, Repr

/-- The margin servo states of R307, in code order. -/
inductive Servo where
  | idle | servoing | reached | atLimit | returning | pipBaseline | pipCapture
  deriving DecidableEq, Repr

/-- One channel's margin servo and pip (R289 to R308). -/
structure Margin where
  st : Servo
  /-- DAC code, −512 to +511. -/
  code : Int
  outEn : Bool
  rc : Nat
  target : Nat
  cut : Bool
  /-- The pip resumes REACHED when it ends. -/
  fromReached : Bool
  /-- P, the frame opened by the pip's admission. -/
  pipP : Nat
  pipH : Nat
  pipBand : Nat
  pipGuard : Nat
  pipStep : Int
  pipCode0 : Int
  pipBaseNow : Nat
  /-- Baseline samples, oldest first. -/
  base : List Nat
  /-- Capture samples, oldest first. -/
  caps : List Nat
  /-- A baseline or capture sample lay outside the warning window (R302). -/
  pipOut : Bool
  pipResult : Nat
  pipGain : Nat
  pipBase : Nat
  pipFrame : Nat
  pipStatus : Nat
  deriving DecidableEq, Repr

/-! ## SUPERVISE: crash and fault line -/

/-- The crash latch and its report (R214 to R227, R254). -/
structure Crash where
  latched : Bool
  originator : Bool
  clearing : Bool
  cause : Nat
  source : Nat
  time : Nat
  /-- Deciding frame and slot (R264). -/
  frame : Nat
  slot : Nat
  /-- The device makes no arbitration in this crash (R237, R248). -/
  noArb : Bool
  clearStat : Nat
  autoUsed : Nat
  /-- The running clear is automatic (R227). -/
  auto : Bool
  /-- A lockstep mismatch was found in tick 511: the crash tick is tick 0 of the next frame (R30). -/
  lockNext : Bool
  arbResult : Nat
  arbTime : Nat
  ownTime : Nat
  deriving DecidableEq, Repr

/-- Where the line unit stands (R233 to R236). -/
inductive LineRole where
  | stopped | listening | synced | timekeeper
  deriving DecidableEq, Repr

/-- How far the FAULT of the device's own crash has come (R244 to R247). -/
inductive ArbState where
  | none
  /-- The originators' hold: the line is low since E. -/
  | hold
  /-- The idle gap since the tick in which the line went high. -/
  | gap (h : Nat)
  /-- The level did not stay high for the idle gap: no arbitration word begins (R246, R247). -/
  | broken
  /-- The arbitration word, from tick S. -/
  | running (s : Nat)
  | done
  deriving DecidableEq, Repr

/-- The fault-line unit (R229 to R254). -/
structure Line where
  role : LineRole
  /-- INDEX in effect (R252, R253). -/
  index : Nat
  /-- Device time of line tick 0 of the present line cycle (R231, R232). -/
  base : Nat
  /-- Device time at which the unit last started (R254). -/
  start : Nat
  /-- LINE_CYCLE as it stood at the latest boundary (R254). -/
  age : Nat
  /-- Device time at which listening began (R233). -/
  listenAt : Nat
  /-- First line cycle, by `cycle`, in which the unit sends (R233). -/
  sendFrom : Nat
  /-- Line cycles counted since the unit started. -/
  cycle : Nat
  present : Nat
  /-- Heartbeats accepted in the present line cycle. -/
  seen : Nat
  joined : Nat
  lost : Nat
  absent : Nat
  /-- Heartbeat windows missed in a row, per line index, up to 3 (R239). -/
  misses : Map Nat
  /-- Line indexes whose window of the present line cycle has been judged (R239). -/
  judged : Nat
  /-- Join window per line index: start time and length in line cycles (R238, R253). -/
  joins : Map (Nat × Nat)
  /-- The last three completed line cycles, latest first: the heartbeats accepted, whether a sync pulse was accepted, and
  whether this device sent its heartbeat (R234, R236). -/
  hist : List (Nat × Bool × Bool)
  syncSeen : Bool
  /-- Line cycle in which this device last drove a sync pulse, its heartbeat, a line command (true START) (R231). -/
  syncDrive : Option Nat
  hbDrive : Option Nat
  cmdDrive : Option (Nat × Bool)
  /-- A pending line command: true START, false STOP (R242). -/
  pending : Option Bool
  /-- The requester whose latest write is the pending command, and the line cycle of that write (R242, R254). -/
  cmdReq : Option Requester
  cmdCycle : Nat
  /-- Taken fall of the first command pulse of this slot 15 (R231). -/
  firstPulse : Option Nat
  /-- The present line cycle contains a FAULT or part of an arbitration (R241). -/
  faultCycle : Bool
  low : Bool
  /-- Other devices hold the ball low. -/
  others : Bool
  /-- Consecutive ticks in which the ball has shown the level that is not taken, up to 3 (R229). -/
  wait : Nat
  /-- Taken fall of the present or latest low period. -/
  fall : Nat
  /-- Taken rise of the latest low period. -/
  rise : Nat
  /-- FAULT has been recognised in the present low period. -/
  fault : Bool
  /-- The tick in which the latest FAULT-length low ended (R224). -/
  faultEnd : Nat
  /-- A FAULT-length low was taken in the present frame (R254). -/
  faultFrame : Bool
  /-- E, the fall of the FAULT of the device's own crash (R244). -/
  faultAt : Option Nat
  /-- The device drives FLT low for its crash (R245, R246). -/
  holding : Bool
  /-- The device drives the originator's hold of 4000 ticks (R245). -/
  origHold : Bool
  arb : ArbState
  /-- FLT has been quiet for 3200 ticks while clearing (R224). -/
  quiet : Bool
  /-- The FAULT that cancelled a clearing, which the device takes part in as a non-originator (R225). -/
  rejoin : Bool
  /-- The bit periods of the arbitration in progress whose sample took a low that this device did not drive (R246). -/
  arbLow : Nat
  deriving DecidableEq, Repr

/-- Supplies and temperature as the dictionary presents them (R354 to R356). -/
structure Supply where
  vaux : Nat
  v33 : Nat
  v09 : Nat
  /-- BANK_GOOD: bits 7 to 0 VEN g, bit 8 VIOA, bit 9 VIOB. -/
  banks : Nat
  warn : Nat
  vauxMin : Nat
  tj : Nat
  /-- TJ_MAX as the 16-bit word of R356. -/
  tjMax : Nat
  tempWarn : Bool
  /-- The frame of the latest measurement (R355). -/
  measured : Option Nat
  deriving DecidableEq, Repr

/-- Every value that a snapshot shows (R69, R70). -/
structure Sup where
  mode : Mode
  bootHold : Bool
  chans : Map Chan
  convs : Map Conv
  pods : Map Pod
  dis : Map Dis
  /-- DIS outputs that are asserted (R202). -/
  disOut : Map DisOut
  margins : Map Margin
  crash : Crash
  line : Line
  supply : Supply
  /-- Live event status (R463). -/
  evStatus : Nat
  /-- AQ_FILL as it stood at the end of the frame: entries held and reserved count (R183). -/
  aqHeld : Nat
  aqRes : Nat
  /-- DEV_TIME.LAST_COMMIT and DEV_TIME.BOOT_DONE (R49). -/
  lastCommit : Nat
  bootDone : Nat
  deriving DecidableEq, Repr

/-! ## Records -/

/-- One entry of the husk event history (R273). -/
structure EvStamp where
  ev : Nat
  time : Nat
  deriving DecidableEq, Repr

/-- The capture buffer (R264). -/
structure Capture where
  cause : Nat
  source : Nat
  crashTime : Nat
  frame : Nat
  slot : Nat
  mode : Nat
  chatter : Nat
  podInfo : Nat
  originator : Bool
  later : Bool
  huskPlanned : Bool
  huskSlot : Nat
  episode : Nat
  /-- The boundary that closes the deciding frame has passed. -/
  closed : Bool
  /-- The events of the crash tick have not all been raised yet, so events and counters are still open. -/
  fresh : Bool
  raws : List Nat
  /-- The sixteen frames, oldest first. -/
  frames : List (List Nat)
  pods : List Nat
  events : List EvStamp
  counters : List Nat
  deriving DecidableEq, Repr

/-- The kernel commit (R267). -/
inductive Commit where
  | idle
  /-- The capture is held for arbitration or for its deciding frame. -/
  | waiting
  /-- The slot is being written; second attempt under R269; COLLAPSED set. -/
  | busy (second collapsed : Bool)
  | ended
  deriving DecidableEq, Repr

/-- One record ring as the writer knows it (R260 to R262). -/
structure Ring where
  /-- Slot of the newest valid record. -/
  head : Option Nat
  next : Nat
  seq : Nat
  /-- The slot after the newest record is torn, with the SEQ read there. -/
  torn : Option (Nat × Nat)
  deriving DecidableEq, Repr

/-- An entry of the coalescing table (R276). -/
structure Coal where
  kind : Nat
  cause : Nat
  source : Nat
  count : Nat
  first : Nat
  last : Nat
  ep : Nat
  d0 : Nat
  d1 : Nat
  deriving DecidableEq, Repr

/-- The record writer and its NVM (R255 to R288). -/
structure Rec where
  /-- The NVM's bytes; an unlisted address reads 0xFF (R262). -/
  nvm : List Host.Cell
  kernel : Ring
  husk : Ring
  summary : Ring
  scanned : Bool
  tornFound : Bool
  episode : Nat
  cap : Option Capture
  commit : Commit
  /-- The kernel commit of the current crash has ended (R32 COMMIT_ENDED). -/
  commitEnded : Bool
  /-- SEQ of the kernel record whose husk is being written. -/
  huskBusy : Option Nat
  /-- KIND, CAUSE and SOURCE of the entry whose summary write is in progress; KIND 6 is the report. -/
  sumBusy : Option (Nat × Nat × Nat)
  /-- Start of the previous summary write (R277). -/
  sumStart : Option Nat
  /-- Raw values of the last sixteen closed frames, oldest first (R272). -/
  frames : List (List Nat)
  /-- The husk event history, oldest first, at most 32 (R273). -/
  history : List EvStamp
  coal : List Coal
  /-- The pending coalescing report, with its first frame and its episode (R274, R276). -/
  report : Option (Nat × Nat)
  /-- The kernel record being written, as fixed at the start of its commit (R265, R279). -/
  job : List Byte
  mrg : Nat
  lost : Nat
  lostTotal : Nat
  coalTotal : Nat
  vhold : Nat
  holdLow : Bool
  charged : Bool
  /-- V_HOLD has reached HOLD_WARN since the reset (R285). -/
  reached : Bool
  deriving DecidableEq, Repr

/-! ## The shared store port (R80) -/

/-- What an access does with its last word: a READ or a WRITE of a field, or an image chunk as one write (R77, R389, R404). -/
inductive StoreOp where
  | read (idx sub : Nat)
  | write (idx sub val : Nat)
  | chunk (bytes : List Byte)
  deriving DecidableEq, Repr

/-- An access at the store port that HOSTIF and the engine share, with the words of it that have not been served (R80). -/
structure Access where
  req : Requester
  op : StoreOp
  words : Nat
  deriving DecidableEq, Repr

/-! ## The sequence engine -/

/-- A command of the engine that waits for the store port, or behind one that does: an instruction, or an access (R80, R321). -/
inductive EngRow where
  | instr (i : Instr)
  | access (a : Access)
  deriving DecidableEq, Repr

/-- The engine states of R337, in code order. -/
inductive EngSt where
  | halted | running | waitf | waite | trapped
  deriving DecidableEq, Repr

/-- A held timed action (R323 to R325). -/
structure Tact where
  idx : Nat
  sub : Nat
  val : Nat
  /-- The frame in which it fires. -/
  fire : Nat
  /-- Posted with field privilege. -/
  field : Bool
  deriving DecidableEq, Repr

/-- The sequence engine (R311 to R338). -/
structure Eng where
  st : EngSt
  w : Map Word
  pc : PAddr
  z : Bool
  n : Bool
  c : Bool
  v : Bool
  /-- Return stack, top first (R316). -/
  stack : List PAddr
  fra : PAddr
  fsd : Nat
  /-- Field privilege. -/
  field : Bool
  /-- The engine has started at 0x1000, so that field privilege stands for no field call (R322, R332). -/
  fieldStart : Bool
  inHandler : Bool
  epc : PAddr
  ez : Bool
  en : Bool
  ec : Bool
  ev : Bool
  efield : Bool
  ie : Bool
  evnum : Nat
  pend : Nat
  prog : Map InstrWord
  data : Map Word
  /-- INT_LEN and the initial data block of the active image (R313). -/
  intLen : Nat
  initData : List Word
  trapInfo : Nat
  trapPc : PAddr
  tactStat : Nat
  tactDisc : Nat
  tacts : List Tact
  /-- The engine starts at the next boundary under R332. -/
  startReq : Bool
  /-- Ticks that the instruction in progress still takes (R318, R335). -/
  busy : Nat
  /-- Ticks in which the program does not run yet: tick 0 before a start or the end of a WAITF (R332, R333), and the
  second tick of an interrupt taken in a wait (R329). -/
  stall : Nat
  /-- An interrupt has been recognised, and so many instructions of its skid may still complete (R327). -/
  skid : Option Nat
  /-- HOSTIF has delayed the firing of the next timed action by its tick (R325). -/
  tactWait : Bool
  /-- The word that the DRD in progress has read (R321). -/
  read : Option Nat
  /-- Commands of the engine that wait, oldest first, and the ticks that the first of them still waits (R80, R321; log 14). -/
  rows : List EngRow
  rowWait : Nat
  deriving DecidableEq, Repr

/-! ## CAN and ODP -/

/-- A frame that waits on a port: its identifier and payload (R397, R405). -/
structure Frame where
  id : Nat
  payload : List Byte
  /-- It is the last segment of a response and frees the response buffer (R403). -/
  lastSeg : Bool
  /-- The publish map that made it, if any (R412). -/
  pubMap : Option Nat
  deriving DecidableEq, Repr

/-- One CAN port (R395, R402 to R409). -/
structure CanPort where
  queue : List (List Byte)
  /-- Response buffers in use, 0 to 2 (R403). -/
  bufs : Nat
  out : List Frame
  /-- 0 error active, 1 error passive, 2 bus-off. -/
  err : Nat
  tec : Nat
  rxe : Nat
  /-- A committed set has written CTRL since the port went bus-off (R395). -/
  ctrlSet : Bool
  /-- Device time of the latest announce or heartbeat (R408). -/
  hbLast : Nat
  dropped : Nat
  /-- TAG of the first request dropped since the previous report (R407). -/
  dropTag : Option Nat
  /-- The announce that is the port's first frame has not been sent yet (R372, R374, R408). -/
  announce : Bool
  /-- SLEEP has begun, or CTRL.EN has become 0, and the frame in transmission may still end (R369, R396). -/
  finishing : Bool
  /-- NODE_ID as it was before the latest set that changed the port, for a frame in reception at its boundary (R396). -/
  inRecv : Option Nat
  /-- Pending event bits in increasing event number, each with the time of its latest raise plus 1 (R409). -/
  pend : Map Nat
  merged : Nat
  deriving DecidableEq, Repr

/-- One publish map (R411 to R413). -/
structure Publish where
  seq : Nat
  replaced : Nat
  cfgErr : Bool
  /-- The frame last published. -/
  last : Option Nat
  deriving DecidableEq, Repr

/-- The request in service: its port, VER_OP and TAG, the accesses that remain, the words of the first of them that
have been served, and the READ values so far (R403 to R405). -/
structure OdpJob where
  port : Port
  vo : Nat
  tag : Nat
  work : List StoreOp
  word : Nat
  data : List Byte
  deriving DecidableEq, Repr

/-- The ODP server (R403, R407). -/
structure Odp where
  job : Option OdpJob
  /-- The frame of the latest service instant, plus 1. -/
  frame : Nat
  deriving DecidableEq, Repr

/-! ## The two-wire target -/

/-- The transaction that addresses the target (R421, R423). -/
inductive TwiPhase where
  | idle
  /-- A write transaction, with the data bytes taken so far. -/
  | write (bytes : Nat)
  | read
  deriving DecidableEq, Repr

/-- A written word that waits for its store access: field key, word number and value (R428). -/
structure TwiWrite where
  key : Nat
  wordNo : Nat
  val : Nat
  deriving DecidableEq, Repr

/-- The settings the target uses until a STOP (R420). -/
structure TwiSet where
  ctrl : Nat
  extra0 : Nat
  extra1 : Nat
  extra2 : Nat
  timeout : Nat
  deriving DecidableEq, Repr

/-- A word that an access tick has read for sending, with the candidate shadow of its field (R426, R427). -/
structure TwiFetch where
  time : Nat
  val : Nat
  cand : Option Shadow
  deriving DecidableEq, Repr

/-- The two-wire target (R414 to R438). -/
structure Twi where
  /-- It acknowledges its addresses: STANDBY entered, or woken and ready (R373, R436). -/
  ready : Bool
  phase : TwiPhase
  index : Nat
  sub : Nat
  word : Nat
  /-- The word to be sent next as the last two access ticks read it, latest first (R426). -/
  fetches : List TwiFetch
  /-- The word being sent, fixed with its first bit (R426). -/
  loaded : Option TwiFetch
  /-- The word the target sent last (R423). -/
  sent : Nat
  /-- A transaction has addressed the target, and neither a STOP nor a timeout has ended it (R431). -/
  engaged : Bool
  /-- The latest byte was acknowledged. -/
  ack : Bool
  /-- Writes whose access tick has not come, oldest first (R428). -/
  waiting : List TwiWrite
  /-- The frame of the latest store access, plus 1 (R425). -/
  accessed : Nat
  chunkTx : Bool
  /-- The data bytes of the chunk transaction so far (R437). -/
  chunk : List Byte
  set : TwiSet
  timeouts : Nat
  busyNacks : Nat
  lastRead : Bool
  lastAddr : Nat
  deriving DecidableEq, Repr

/-! ## Image update -/

/-- A chunk write in progress (R389). -/
structure Chunk where
  /-- The NVM address of its first byte. -/
  addr : Nat
  bytes : List Byte
  /-- The update that took it is still the latest one. -/
  own : Bool
  deriving DecidableEq, Repr

/-- IMAGE (R388 to R391) and the loaded image (R380, R385). -/
structure Image where
  addr : Nat
  /-- Bank (true B) and length of the update, as BEGIN took them (R388). -/
  updB : Bool
  updLen : Nat
  chunk : Option Chunk
  busy : Bool
  checking : Bool
  openUpd : Bool
  verified : Bool
  seqErr : Bool
  result : Nat
  /-- An NVM write of this update has failed (R390). -/
  wrFail : Bool
  infoA : Nat
  infoB : Nat
  genA : Nat
  genB : Nat
  /-- The active bank (true B), with its GEN, CRC and IMAGE_ID. -/
  active : Option Bool
  gen : Nat
  crc : Nat
  imageId : Nat
  /-- The CMAC key slot and AUTH_CTRL, in non-volatile cells (R386, R391). -/
  keySlot : Nat
  keySet : Bool
  authReq : Bool
  deriving DecidableEq, Repr

/-! ## Pins and events -/

/-- A function change in progress: the old level that an input function still presents (R446, R447). -/
structure PinHold where
  /-- Device time at which the new function's first level reaches its user. -/
  til : Nat
  level : Bool
  deriving DecidableEq, Repr

/-- What a ball does until its new function takes it, and what SLEEP holds on it (R446, R455). -/
structure Ball where
  /-- Device time at which the new function takes the ball. -/
  til : Nat
  driving : Bool
  level : Bool
  /-- Its drive strength in mA: 4, 12 or 20, and its pull by the code of CFG.PULL (R446, R522). -/
  strength : Nat
  pull : Nat
  deriving DecidableEq, Repr

/-- One pin event line (R458 to R460). -/
structure Pev where
  level : Bool
  cnt : Nat
  deriving DecidableEq, Repr

/-- Pins and the event router's outputs (R439 to R468). -/
structure PinState where
  /-- Synchronised ball levels (R441). -/
  level : Pins
  /-- Which balls the device drove at the latest three CLK_BUS edges, and which of those high, as masks, latest first
  (R441). -/
  driven : List (Nat × Nat)
  /-- The level of PODREQ k at tick 511 of the frame that has closed, at bit k (R163). -/
  podreq : Nat
  /-- Inputs whose function is changing (R447): PODREQ k at k, TRIG g at 16 + g, CHIN of pin n at 32 + n. -/
  hold : Map PinHold
  /-- Balls that keep an earlier function's drive, or that SLEEP holds (R446, R455). -/
  ball : Map Ball
  locked : Nat
  pev : Map Pev
  /-- Device time of the latest pulse-mode raise of EVO k, plus 1 (R466). -/
  evoPulse : Map Nat
  /-- Device time of the CLK_BUS edge from which the pins of bank 8 or 9 take their configured state (R511). -/
  vio : Map Nat
  deriving DecidableEq, Repr

/-! ## Counters and gallery -/

/-- One counter (R472 to R477). -/
structure Ctr where
  count : Nat
  ovf : Bool
  deriving DecidableEq, Repr

/-- The gallery (R480 to R488). -/
structure Gallery where
  ram : Map Word
  ringHead : Nat
  wrapped : Bool
  lost : Nat
  /-- Records dropped since the previous LOSS record (R486). -/
  drops : Nat
  /-- The first record made after an in-service test of the gallery is a LOSS record (R502). -/
  lossFirst : Bool
  fifo : List (List Byte)
  dumpSeq : Nat
  dumpBuf : Nat
  /-- A dump captured at the boundary: its frame and the 42 counters (R480). -/
  dump : Option (Nat × List Ctr)
  /-- The record that the trace port sent last. -/
  sent : List Byte
  deriving DecidableEq, Repr

/-! ## The present tick -/

/-- Where the value of a SAMPLE has gone that the present tick has read (R475). -/
inductive SamplePlace where
  /-- The word-0 shadow of a requester. -/
  | shadow (r : Requester)
  /-- The READ values of the request in service, from a byte on. -/
  | job (at' : Nat)
  /-- A register of the engine, with the word 0 that it took. -/
  | register (rd word : Nat)
  /-- The word that the engine's DRD in progress holds. -/
  | held
  /-- The word that the two-wire target has fetched. -/
  | fetch
  deriving DecidableEq, Repr

/-- A read of word 0 of COUNTER(k).SAMPLE (R475). -/
structure SampleRead where
  counter : Nat
  place : SamplePlace
  deriving DecidableEq, Repr

/-- What the present tick has seen so far; empty when a tick begins. -/
structure Now where
  /-- Events raised in this tick (R464). -/
  raised : Nat
  /-- Pending bits of the engine that were set in this tick; they are recognised from the next one on (R327, R329). -/
  pended : Nat
  /-- HOSTIF has used the shared store port, and the engine has (R80). -/
  hostPort : Bool
  engPort : Bool
  /-- A timed action has fired (R325). -/
  fired : Bool
  /-- EVENT_MASK_HOST and EVENT_MASK_ENGINE as they stood before a write of this tick (R465). -/
  hostMask : Option Nat
  engMask : Option Nat
  /-- HOSTIF and the engine have contended for it (R80, R471). -/
  contended : Bool
  /-- An instruction of the engine has been executed (R327, R335). -/
  ran : Bool
  /-- The values that the engine has written to RW fields (R68). -/
  engWrites : Map Nat
  /-- The mode and the pods as the tick before left them (R265, R272); none: as they stand. -/
  before : Option (Mode × Map Pod)
  /-- Additions to each counter, the counters that have wrapped, and those of them whose event 49 comes as the tick ends
  (R472, R474, R476). -/
  adds : Map Nat
  wraps : Nat
  due : Nat
  /-- Reads of word 0 of a counter's SAMPLE, which show the whole tick (R475). -/
  samples : List SampleRead
  /-- Stream records made in this tick, in the order of R485: the place of its kind, the record, and whether the ring
  and the trace FIFO take it. -/
  recs : List (Nat × List Byte × Bool × Bool)
  deriving DecidableEq, Repr

/-! ## Self-test -/

/-- The PRPG, the MISR and the pattern counter of a partition (R493). -/
structure BistUnit where
  prpg : Nat
  misr : Nat
  count : Nat
  deriving DecidableEq, Repr

/-- Self-test (R493 to R507). -/
structure Bist where
  valid : Bool
  bootCause : Nat
  bootPart : Nat
  bootRes : Nat
  memFail : Nat
  runs : Nat
  fails : Nat
  skips : Nat
  /-- RESULT, DISABLED and BOOT of PART_STATUS(i) as the word of R507 without RUNNING. -/
  part : Map Nat
  /-- MISR of the latest run of a partition (R507). -/
  sig : Map Nat
  /-- The test logic of partition i at i; that of SUPERVISE's second copy at 6 (R493, R495). -/
  units : Map BistUnit
  /-- Partition last taken in the rotation (R498). -/
  rot : Nat
  /-- Partition chosen at a scheduling point, and the time of that point (R499). -/
  sched : Option (Nat × Nat)
  /-- Partition under test and the frame its run started (R500). -/
  run : Option (Nat × Nat)
  /-- The engine and ENGINE_CTRL.CTRL as the run saved them, which ENGINE_CTRL shows until the restore (R502). -/
  saved : Option (Eng × Nat)
  /-- A HALT command waits for the restore of the engine (R502). -/
  halt : Bool
  testNow : Option Nat
  /-- Partition abandoned at SLEEP entry, tested first after the wake (R504). -/
  first : Option Nat
  /-- Device time from which the grid of scheduling points counts, and after which the next point lies (R498). -/
  grid : Nat
  last : Nat
  deriving DecidableEq, Repr

/-! ## The whole device -/

/-- What one copy of SUPERVISE holds: its supervision blocks, and the dictionary store with the active and the latched
values, the snapshot banks, the requesters' staging and outcomes, and the requests accepted (R28, R29). -/
structure Copy where
  sup : Sup
  dict : Map Nat
  latched : Map Nat
  bank0 : Sup
  bank1 : Sup
  bank2 : Sup
  bankCur : Nat
  bankPin : Option Nat
  reqA : ReqState
  reqB : ReqState
  reqT : ReqState
  reqE : ReqState
  accepted : List Request
  deriving DecidableEq, Repr

/-- The device. -/
structure State where
  pwr : Power
  clk : Clock
  boot : Boot
  sleep : Sleep
  /-- The active value of every RW and RWS field, by key index × 256 + subindex (R376). -/
  dict : Map Nat
  /-- The values that SUPERVISE uses in this frame (R51 step 3, R52). -/
  latched : Map Nat
  sup : Sup
  /-- The three snapshot banks (R69). -/
  bank0 : Sup
  bank1 : Sup
  bank2 : Sup
  /-- The bank of the most recent snapshot, and the pinned bank (R69, R71). -/
  bankCur : Nat
  bankPin : Option Nat
  reqA : ReqState
  reqB : ReqState
  reqT : ReqState
  reqE : ReqState
  /-- Requests accepted in the present frame, in order (R53, R156). -/
  accepted : List Request
  /-- The second copy of SUPERVISE where it stands otherwise than the first one, which the fields of the state hold; none: as
  the first one (R29). -/
  twin : Option Copy
  /-- Host accesses that wait for the shared store port, oldest first, the first of them in service (R80). -/
  hostQ : List Access
  recs : Rec
  eng : Eng
  canA : CanPort
  canB : CanPort
  /-- The port served most recently (R403). -/
  lastServed : Port
  odp : Odp
  publish : Map Publish
  twi : Twi
  image : Image
  pins : PinState
  ctrs : Map Ctr
  gal : Gallery
  bist : Bist
  /-- Events of the command in progress that the router has not handled yet (R463); empty between steps. -/
  evq : List Nat
  /-- What the present tick has seen so far. -/
  now : Now
  /-- Crash causes confirmed in the tick of the command in progress (R216); empty between steps. -/
  causes : List (Nat × Nat)
  /-- The model's own count of free values used (log 8); the device has no such register. -/
  fresh : Nat
  /-- The commands that wait, first in, first out. -/
  pending : List Instr
  deriving DecidableEq, Repr

/-- Why a step of the device could stop with a fault: no command of this block does (INVENTORY.md, Faults). -/
inductive Fault where
  deriving DecidableEq, Repr

/-- Why a command has no meaning. -/
inductive Refusal where
  /-- Raised by exec's arm of a command that has no meaning in this model yet; safe: the run stops. -/
  | notModelled (mnemonic : String)
  deriving DecidableEq, Repr

/-! ## Reset values -/

def Chan.reset : Chan where
  raw := 0
  scaled := 0
  slot := 0
  disp := false
  kindEff := 0
  cfgErr := false
  enable := false
  st := .off
  ov := 0
  uv := 0
  owc := 0
  uwc := 0
  pgc := 0
  settle := 0
  chatter := 0
  ovf := false
  uvf := false
  ovw := false
  uvw := false
  pg := false
  disch := false
  belowDis := false
  failedEarly := false
  thrErr := false
  pairErr := false
  pairMm := false
  pairCnt := 0
  pairCompared := false
  pairDiff := 0
  wasRunning := false
  good := none
  chatFail := none
  descFault := false

/-- R101, R114. -/
def Conv.reset : Conv where
  regs := []
  places := []
  pend := none
  disp14 := none
  disp15 := none
  urgentRun := 0
  overruns := 0
  failA := false
  failB := false
  cntA := 0
  cntB := 0
  expA := 27307
  expB := 13653

def EntrySt.reset : EntrySt :=
  { reached := false, waiting := false, start := 0, good := false, swOff := false, offFrame := 0,
    disd := false, queued := false, wantsQ := false }

/-- R183, R213. -/
def Pod.reset : Pod where
  st := .off
  inUse := false
  parent := none
  depth := 0
  treeErr := false
  fc := 0
  k := 0
  held := false
  hf := 0
  queueWait := false
  latched := false
  cooldown := none
  retryActive := false
  retriesUsed := 0
  exhausted := false
  failCause := none
  failEntry := 0
  failFrame := 0
  startFrame := 0
  failedLast := false
  ents := []
  dc := 0
  timeout := false
  descFault := false
  disFault := false
  gate := 0xFF
  relHost := false
  relEng := false
  relLine := false
  frozen := false
  descFrame := 0
  failPend := false

def Dis.reset : Dis := { watch := none, out := none, opening := false, swOff := false, disd := false, offFrame := 0 }

/-- R307. -/
def Margin.reset : Margin where
  st := .idle
  code := 0
  outEn := false
  rc := 0
  target := 0
  cut := false
  fromReached := false
  pipP := 0
  pipH := 0
  pipBand := 0
  pipGuard := 0
  pipStep := 0
  pipCode0 := 0
  pipBaseNow := 0
  base := []
  caps := []
  pipOut := false
  pipResult := 0
  pipGain := 0
  pipBase := 0
  pipFrame := 0
  pipStatus := 0

/-- R254. -/
def Crash.reset : Crash where
  latched := false
  originator := false
  clearing := false
  cause := 0
  source := 0
  time := 0
  frame := 0
  slot := 0
  noArb := false
  clearStat := 0
  autoUsed := 0
  auto := false
  lockNext := false
  arbResult := 0x000F
  arbTime := 0
  ownTime := 0

/-- The line unit before it starts (R233, R251). -/
def Line.reset : Line where
  role := .stopped
  index := 15
  base := 0
  start := 0
  age := 0
  listenAt := 0
  sendFrom := 0
  cycle := 0
  present := 0
  seen := 0
  joined := 0
  lost := 0
  absent := 0
  misses := []
  judged := 0
  joins := []
  hist := []
  syncSeen := false
  syncDrive := none
  hbDrive := none
  cmdDrive := none
  pending := none
  cmdReq := none
  cmdCycle := 0
  firstPulse := none
  faultCycle := false
  low := false
  others := false
  wait := 0
  fall := 0
  rise := 0
  fault := false
  faultEnd := 0
  faultFrame := false
  faultAt := none
  holding := false
  origHold := false
  arb := .none
  quiet := false
  rejoin := false
  arbLow := 0

/-- R355, R356: TJ_MAX is −400 as a 16-bit word. -/
def Supply.reset : Supply where
  vaux := 0
  v33 := 0
  v09 := 0
  banks := 0
  warn := 0
  vauxMin := 0xFFFF
  tj := 0
  tjMax := 0xFE70
  tempWarn := false
  measured := none

/-- Pod 0 is always in use (R141). -/
def Sup.reset : Sup where
  mode := .boot
  bootHold := false
  chans := []
  convs := []
  pods := [(0, { Pod.reset with inUse := true })]
  dis := []
  disOut := []
  margins := []
  crash := Crash.reset
  line := Line.reset
  supply := Supply.reset
  evStatus := 0
  aqHeld := 0
  aqRes := 0
  lastCommit := 0
  bootDone := 0

def View.reset : View where
  select := 0x8000
  ready := false
  loading := false
  valid := false
  torn := false
  slot := 0
  seq := 0
  data := []

def ReqState.reset : ReqState where
  staged := []
  overflow := false
  discarded := false
  applied := false
  sets := []
  shadow := none
  gather := none
  key := .idle
  modeStat := 0
  cmdStat := 0
  urgentStat := []
  podStat := []
  marginStat := []
  pinMask := 0
  lockHalf := false
  progAddr := 0x1000
  galAddr := 0
  viewK := View.reset
  viewH := View.reset
  viewS := View.reset

def Ring.reset : Ring := { head := none, next := 0, seq := 0, torn := none }

/-- The record writer after a reset, over an NVM (R279, R286). -/
def Rec.reset (nvm : List Host.Cell) : Rec where
  nvm := nvm
  kernel := Ring.reset
  husk := Ring.reset
  summary := Ring.reset
  scanned := false
  tornFound := false
  episode := 0
  cap := none
  commit := .idle
  commitEnded := false
  huskBusy := none
  sumBusy := none
  sumStart := none
  frames := []
  history := []
  coal := []
  report := none
  job := []
  mrg := 0
  lost := 0
  lostTotal := 0
  coalTotal := 0
  vhold := 0
  holdLow := false
  charged := false
  reached := false

/-- R316, R337. -/
def Eng.reset : Eng where
  st := .halted
  w := []
  pc := 0
  z := false
  n := false
  c := false
  v := false
  stack := []
  fra := 0
  fsd := 0
  field := false
  fieldStart := false
  inHandler := false
  epc := 0
  ez := false
  en := false
  ec := false
  ev := false
  efield := false
  ie := false
  evnum := 0
  pend := 0
  prog := []
  data := []
  intLen := 0
  initData := []
  trapInfo := 0
  trapPc := 0
  tactStat := 0
  tactDisc := 0
  tacts := []
  startReq := false
  busy := 0
  stall := 0
  skid := none
  tactWait := false
  read := none
  rows := []
  rowWait := 0

def CanPort.reset : CanPort where
  queue := []
  bufs := 0
  out := []
  err := 0
  tec := 0
  rxe := 0
  ctrlSet := false
  hbLast := 0
  dropped := 0
  dropTag := none
  announce := false
  finishing := false
  inRecv := none
  pend := []
  merged := 0

def Odp.reset : Odp := { job := none, frame := 0 }

def Publish.reset : Publish := { seq := 0, replaced := 0, cfgErr := false, last := none }

/-- R424, R438. -/
def Twi.reset : Twi where
  ready := false
  phase := .idle
  index := 0x0100
  sub := 0
  word := 0
  fetches := []
  loaded := none
  chunk := []
  sent := 0
  engaged := false
  ack := false
  waiting := []
  accessed := 0
  chunkTx := false
  set := { ctrl := 0x8000, extra0 := 0, extra1 := 0, extra2 := 0, timeout := 25 }
  timeouts := 0
  busyNacks := 0
  lastRead := false
  lastAddr := 0

/-- IMAGE after a reset; the key slot and AUTH_CTRL are non-volatile (R386). -/
def Image.reset (keySlot : Nat) (keySet authReq : Bool) : Image where
  addr := 0
  updB := false
  updLen := 0
  chunk := none
  busy := false
  checking := false
  openUpd := false
  verified := false
  seqErr := false
  result := 0
  wrFail := false
  infoA := 0
  infoB := 0
  genA := 0
  genB := 0
  active := none
  gen := 0
  crc := 0
  imageId := 0
  keySlot := keySlot
  keySet := keySet
  authReq := authReq

def Pev.reset : Pev := { level := false, cnt := 0 }

def Ctr.reset : Ctr := { count := 0, ovf := false }

def PinState.reset : PinState where
  level := 0
  driven := []
  podreq := 0
  hold := []
  ball := []
  locked := 0
  pev := []
  evoPulse := []
  vio := []

def Gallery.reset : Gallery where
  ram := []
  ringHead := 0
  wrapped := false
  lost := 0
  drops := 0
  lossFirst := false
  fifo := []
  dumpSeq := 0
  dumpBuf := 0
  dump := none
  sent := []

def Now.reset : Now where
  raised := 0
  pended := 0
  hostPort := false
  engPort := false
  fired := false
  hostMask := none
  engMask := none
  contended := false
  ran := false
  engWrites := []
  before := none
  adds := []
  wraps := 0
  due := 0
  samples := []
  recs := []

def Bist.reset : Bist where
  valid := false
  bootCause := 0
  bootPart := 0
  bootRes := 0
  memFail := 0
  runs := 0
  fails := 0
  skips := 0
  part := []
  sig := []
  units := []
  rot := 0
  sched := none
  run := none
  saved := none
  halt := false
  testNow := none
  first := none
  grid := 0
  last := 0

def BistUnit.reset : BistUnit := { prpg := 0, misr := 0, count := 0 }

def Boot.reset (addrSel : Nat) : Boot where
  hold := false
  cause := 0
  crystalDone := false
  memDone := false
  logicDone := 0
  ringDone := false
  imageDone := false
  refFrames := 16
  bankB := false
  bankFallback := false
  auth := false
  bootTime := 0
  addrSel := addrSel

def Clock.reset : Clock where
  time := 0
  crystal := false
  bootInternal := false
  fallback := false
  monFail := false
  failGates := 0
  pllLocked := true
  standbyAt := 0
  degraded := false

def Sleep.reset : Sleep := { entered := false, wake := none, coreLow := false, wakeInfo := 0 }

/-- The device in the first tick after a reset by power-on has been released: tick 0 of frame 0 of BOOT (R48,
R341, R350). -/
def State.reset : State where
  pwr := { powered := true, held := false, srcs := 0, causes := 0, resetCause := 0x0001, retained := true }
  clk := Clock.reset
  boot := Boot.reset 0
  sleep := Sleep.reset
  dict := []
  latched := []
  sup := Sup.reset
  bank0 := Sup.reset
  bank1 := Sup.reset
  bank2 := Sup.reset
  bankCur := 0
  bankPin := none
  reqA := ReqState.reset
  reqB := ReqState.reset
  reqT := ReqState.reset
  reqE := ReqState.reset
  accepted := []
  twin := none
  hostQ := []
  recs := Rec.reset []
  eng := Eng.reset
  canA := CanPort.reset
  canB := CanPort.reset
  lastServed := .b
  odp := Odp.reset
  publish := []
  twi := Twi.reset
  image := Image.reset 0 false false
  pins := PinState.reset
  ctrs := []
  gal := Gallery.reset
  bist := Bist.reset
  evq := []
  now := Now.reset
  causes := []
  fresh := 0
  pending := []

end Sys2Proof.Machine
end

