-- ==== Sys2Proof/Machine/Bits.lean ====
section
/-!
DEFINITION. Sparse tables, bit fields, byte strings and bounded counts: the plain helpers of every meaning.
-/
namespace Sys2Proof.Machine

/-! ## Sparse tables -/

/-- The value a table holds at a key; `d` is what an unlisted key reads as. -/
def get {α : Type} (m : Map α) (d : α) (k : Nat) : α :=
  match m with
  | [] => d
  | (i, v) :: r => if i = k then v else get r d k

/-- The table without a key. -/
def del {α : Type} (m : Map α) (k : Nat) : Map α :=
  m.filter (fun e => !(e.1 == k))

/-- The table with an entry put before the first larger key. -/
def ins {α : Type} (m : Map α) (k : Nat) (v : α) : Map α :=
  match m with
  | [] => [(k, v)]
  | (i, w) :: r => if k < i then (k, v) :: (i, w) :: r else (i, w) :: ins r k v

/-- Write one key; writing what an unlisted key reads as removes the entry. -/
def put {α : Type} [DecidableEq α] (m : Map α) (d : α) (k : Nat) (v : α) : Map α :=
  if v = d then del m k else ins (del m k) k v

/-- Keys strictly rising from `lo` on, and no entry equal to the default. -/
def wfFrom {α : Type} [DecidableEq α] (d : α) (lo : Nat) (m : Map α) : Bool :=
  match m with
  | [] => true
  | (i, v) :: r => decide (lo ≤ i) && !decide (v = d) && wfFrom d (i + 1) r

/-- The canonical form of a table. -/
def wf {α : Type} [DecidableEq α] (d : α) (m : Map α) : Bool := wfFrom d 0 m

/-! ## Bits and fields -/

/-- Bit i of a value. -/
def bit (v i : Nat) : Bool := v.testBit i

/-- The field of w bits whose lowest bit is lo. -/
def fld (v lo w : Nat) : Nat := (v >>> lo) % 2 ^ w

/-- 1 for true. -/
def b2n (b : Bool) : Nat := if b then 1 else 0

/-- A field of one bit at position i. -/
def flg (b : Bool) (i : Nat) : Nat := if b then 2 ^ i else 0

def setBit (v i : Nat) : Nat := v ||| 2 ^ i

def clrBit (v i : Nat) : Nat := if v.testBit i then v - 2 ^ i else v

def putBit (v i : Nat) (b : Bool) : Nat := if b then setBit v i else clrBit v i

/-- The bits of v that m does not have, for values below 2^64. -/
def clrMask (v m : Nat) : Nat := v - (v &&& m)

/-- The number of set bits below bit n. -/
def popCount (v : Nat) : Nat → Nat
  | 0 => 0
  | n + 1 => b2n (v.testBit n) + popCount v n

/-- The lowest set bit below bit n. -/
def lowestBit (v n : Nat) : Option Nat := (List.range n).find? (fun i => v.testBit i)

/-- A 16-bit word read as two's complement (R377). -/
def s16 (v : Nat) : Int := if v % 65536 < 32768 then Int.ofNat (v % 65536) else Int.ofNat (v % 65536) - 65536

/-- A two's complement value in w bits. -/
def tc (w : Nat) (i : Int) : Nat := (i % Int.ofNat (2 ^ w)).toNat

/-- A count that holds at a bound. -/
def incSat (n top : Nat) : Nat := if n < top then n + 1 else top

/-- A 32-bit count as a register shows it; beyond its format the manual states no value (log 8). -/
def show32 (n : Nat) : Nat := if n < 2 ^ 32 then n else Config.beyond32 n % 2 ^ 32

/-- Pod units and discharge units: 16^u frames (R10). -/
def unitLen (u : Nat) : Nat := 16 ^ u

/-! ## Byte strings, most significant byte first (R11, R263) -/

/-- The n bytes of a value. -/
def bytes : Nat → Nat → List Byte
  | 0, _ => []
  | n + 1, v => BitVec.ofNat 8 (v / 256 ^ n) :: bytes n v

/-- The value of a byte string. -/
def nat (bs : List Byte) : Nat := bs.foldl (fun a b => a * 256 + b.toNat) 0

/-- The n bytes at an offset; bytes past the end read 0. -/
def slice (bs : List Byte) (off n : Nat) : List Byte :=
  let r := (bs.drop off).take n
  r ++ List.replicate (n - r.length) 0

/-- The value of the n bytes at an offset. -/
def natAt (bs : List Byte) (off n : Nat) : Nat := nat (slice bs off n)

/-- n zero bytes. -/
def zeros (n : Nat) : List Byte := List.replicate n 0

/-- A byte string padded with zeros to n bytes. -/
def padTo (n : Nat) (bs : List Byte) : List Byte := bs ++ zeros (n - bs.length)

/-- The latest n elements of a history, oldest first. -/
def lastN {α : Type} (n : Nat) (l : List α) : List α := l.drop (l.length - n)

end Sys2Proof.Machine
end

