-- ==== Sys2Proof/Machine/Crypto.lean ====
section
/-!
DEFINITION. CRC-32 of IEEE 802.3 (R263) and AES-128-CMAC (R386, NIST SP 800-38B).
-/
namespace Sys2Proof.Machine

/-! ## CRC-32: polynomial 0x04C1_1DB7, reflected, initial value and final XOR 0xFFFF_FFFF (R263) -/

def crcBit (c : Nat) : Nat := if c % 2 = 1 then (c / 2) ^^^ 0xEDB88320 else c / 2

def crcByte (c b : Nat) : Nat := crcBit (crcBit (crcBit (crcBit (crcBit (crcBit (crcBit (crcBit (c ^^^ b))))))))

def crc32 (bs : List Byte) : Nat := (bs.foldl (fun c b => crcByte c b.toNat) 0xFFFFFFFF) ^^^ 0xFFFFFFFF

/-- The CRC of a record whose four bytes at an offset are the CRC field (R263). -/
def crcSkip (bs : List Byte) (off : Nat) : Nat := crc32 (bs.take off ++ bs.drop (off + 4))

/-- Fill in the CRC field at an offset. -/
def withCrc (bs : List Byte) (off : Nat) : List Byte :=
  bs.take off ++ bytes 4 (crcSkip bs off) ++ bs.drop (off + 4)

def crcOk (bs : List Byte) (off : Nat) : Bool := decide (natAt bs off 4 = crcSkip bs off)

/-! ## AES-128; a block is a list of 16 byte values -/

/-- The S-box as one number: entry i is byte i. -/
def sboxNat : Nat :=
  0x16bb54b00f2d99416842e6bf0d89a18cdf2855cee9871e9b948ed9691198f8e19e1dc186b95735610ef6034866b53e708a8bbd4b1f74dde8c6b4a61c2e2578ba08ae7a65eaf4566ca94ed58d6d37c8e779e4959162acd3c25c2406490a3a32e0db0b5ede14b8ee4688902a22dc4f816073195d643d7ea7c41744975fec130ccdd2f3ff1021dab6bcf5389d928f40a351a89f3c507f02f94585334d43fbaaefd0cf584c4a39becb6a5bb1fc20ed00d153842fe329b3d63b52a05a6e1b1a2c830975b227ebe28012079a059618c323c7041531d871f1e5a534ccf73f362693fdb7c072a49cafa2d4adf04759fa7dc982ca76abd7fe2b670130c56f6bf27b777c63

def sbox (b : Nat) : Nat := (sboxNat >>> (8 * b)) % 256

def xtime (b : Nat) : Nat := if b < 128 then 2 * b else (2 * b) ^^^ 0x11B

def xorBlock (a b : List Nat) : List Nat := List.zipWith (· ^^^ ·) a b

/-- The byte order of ShiftRows on a block stored column by column. -/
def shiftOrder : List Nat := [0, 5, 10, 15, 4, 9, 14, 3, 8, 13, 2, 7, 12, 1, 6, 11]

def subShift (b : List Nat) : List Nat := shiftOrder.map fun i => sbox (b.getD i 0)

def mixCol (a b c d : Nat) : List Nat :=
  let t := a ^^^ b ^^^ c ^^^ d
  [a ^^^ t ^^^ xtime (a ^^^ b), b ^^^ t ^^^ xtime (b ^^^ c), c ^^^ t ^^^ xtime (c ^^^ d), d ^^^ t ^^^ xtime (d ^^^ a)]

def mixColumns : List Nat → List Nat
  | a :: b :: c :: d :: r => mixCol a b c d ++ mixColumns r
  | _ => []

/-- The next round key. -/
def nextKey (k : List Nat) (rcon : Nat) : List Nat :=
  let g := fun i => k.getD i 0
  let w0 := xorBlock (k.take 4) [sbox (g 13) ^^^ rcon, sbox (g 14), sbox (g 15), sbox (g 12)]
  let w1 := xorBlock ((k.drop 4).take 4) w0
  let w2 := xorBlock ((k.drop 8).take 4) w1
  let w3 := xorBlock ((k.drop 12).take 4) w2
  w0 ++ w1 ++ w2 ++ w3

def aesRounds : List Nat → List Nat → List Nat → List Nat
  | [], _, b => b
  | [rc], k, b => xorBlock (subShift b) (nextKey k rc)
  | rc :: r, k, b =>
    let k := nextKey k rc
    aesRounds r k (xorBlock (mixColumns (subShift b)) k)

def aes (key block : List Nat) : List Nat :=
  aesRounds [1, 2, 4, 8, 16, 32, 64, 128, 0x1B, 0x36] key (xorBlock block key)

/-! ## CMAC -/

def blockNat (b : List Nat) : Nat := b.foldl (fun a x => a * 256 + x) 0

def natBlock (v : Nat) : List Nat := (bytes 16 v).map (·.toNat)

/-- Doubling in the field of 2^128 elements. -/
def dbl (v : Nat) : Nat := if v < 2 ^ 127 then 2 * v else (2 * v - 2 ^ 128) ^^^ 0x87

/-- All blocks but the last; fuel is a bound on their number. -/
def cmacChain (key : List Nat) : Nat → List Nat → List Nat → List Nat × List Nat
  | 0, c, m => (c, m)
  | f + 1, c, m => if m.length ≤ 16 then (c, m) else cmacChain key f (aes key (xorBlock c (m.take 16))) (m.drop 16)

/-- AES-128-CMAC of a message under the key slot's value. -/
def cmac (keySlot : Nat) (msg : List Byte) : List Byte :=
  let key := natBlock keySlot
  let k1 := dbl (blockNat (aes key (natBlock 0)))
  let k2 := dbl k1
  let (c, last) := cmacChain key (msg.length / 16 + 1) (natBlock 0) (msg.map (·.toNat))
  let m :=
    if last.length = 16 then xorBlock last (natBlock k1)
    else xorBlock (last ++ 0x80 :: List.replicate (15 - last.length) 0) (natBlock k2)
  (aes key (xorBlock c m)).map (BitVec.ofNat 8 ·)

end Sys2Proof.Machine
end

