-- ==== Sys2Proof/Machine/Dict.lean ====
section
/-!
DEFINITION. The object dictionary: the index map of R379, the subindex maps of every object (width, access,
default), the ranges of R87 and the modes in which each field accepts writes. Also the engine's and the pins'
write rights (R314, R315, R452, R453, R478).
-/
namespace Sys2Proof.Machine

/-- The objects of the index map with their instance numbers (R379). -/
inductive Obj where
  | identity | modeCtrl | devTime | evStatus | evMaskHost | evMaskEng | evClear | supplyLive | tempLive
  | chanCfg (c : Nat) | chanLive (c : Nat) | podCfg (p : Nat) | podFlight (p : Nat) | podLive (p : Nat)
  | margin (c : Nat) | conv (g : Nat) | lineCfg | lineLive | logCtrl | view (v : ViewId) | engCtrl | engProg
  | counter (k : Nat) | galCtrl | galRam | pinCfg (n : Nat) | pevCfg | pinLock | evRoute | can (p : Port)
  | publish (m : Nat) | twowire | bist | image
  deriving DecidableEq, Repr

/-- The access codes of R14; `k` is key-protected. -/
inductive Acc where
  | ro | rw | wo | rws | k
  deriving DecidableEq, Repr

/-- A field: its width in words, its access code and its default. -/
structure Field where
  words : Nat
  acc : Acc
  dflt : Nat
  deriving DecidableEq, Repr

/-- The object at an index (R379); every other index is absent. -/
def objOf (idx : Nat) : Option Obj :=
  if idx = 0x0100 then some .identity
  else if idx = 0x0200 then some .modeCtrl
  else if idx = 0x0210 then some .devTime
  else if idx = 0x0300 then some .evStatus
  else if idx = 0x0301 then some .evMaskHost
  else if idx = 0x0302 then some .evMaskEng
  else if idx = 0x0303 then some .evClear
  else if idx = 0x0400 then some .supplyLive
  else if idx = 0x0401 then some .tempLive
  else if 0x1000 ≤ idx ∧ idx ≤ 0x105F then some (.chanCfg (idx - 0x1000))
  else if 0x1100 ≤ idx ∧ idx ≤ 0x115F then some (.chanLive (idx - 0x1100))
  else if 0x1200 ≤ idx ∧ idx ≤ 0x122F then some (.podCfg (idx - 0x1200))
  else if 0x1240 ≤ idx ∧ idx ≤ 0x126F then some (.podFlight (idx - 0x1240))
  else if 0x1300 ≤ idx ∧ idx ≤ 0x132F then some (.podLive (idx - 0x1300))
  else if 0x1400 ≤ idx ∧ idx ≤ 0x145F then some (.margin (idx - 0x1400))
  else if 0x1500 ≤ idx ∧ idx ≤ 0x1507 then some (.conv (idx - 0x1500))
  else if idx = 0x1600 then some .lineCfg
  else if idx = 0x1601 then some .lineLive
  else if idx = 0x1700 then some .logCtrl
  else if idx = 0x1701 then some (.view .kernel)
  else if idx = 0x1702 then some (.view .husk)
  else if idx = 0x1703 then some (.view .summary)
  else if idx = 0x1800 then some .engCtrl
  else if idx = 0x1801 then some .engProg
  else if 0x1900 ≤ idx ∧ idx ≤ 0x1929 then some (.counter (idx - 0x1900))
  else if idx = 0x1980 then some .galCtrl
  else if idx = 0x1981 then some .galRam
  else if 0x1A00 ≤ idx ∧ idx ≤ 0x1A2F then some (.pinCfg (idx - 0x1A00))
  else if idx = 0x1A40 then some .pevCfg
  else if idx = 0x1A41 then some .pinLock
  else if idx = 0x1B00 then some .evRoute
  else if idx = 0x1C00 then some (.can .a)
  else if idx = 0x1C01 then some (.can .b)
  else if 0x1C10 ≤ idx ∧ idx ≤ 0x1C1F then some (.publish (idx - 0x1C10))
  else if idx = 0x1D00 then some .twowire
  else if idx = 0x1E00 then some .bist
  else if idx = 0x1F00 then some .image
  else none

/-- HIGHEST of each object (R376 and the subindex maps). -/
def highest : Obj → Nat
  | .identity => 8
  | .modeCtrl => 11
  | .devTime => 4
  | .evStatus | .evMaskHost | .evMaskEng | .evClear => 1
  | .supplyLive => 6
  | .tempLive => 4
  | .chanCfg _ => 32
  | .chanLive _ => 10
  | .podCfg _ => 15
  | .podFlight _ => 63
  | .podLive _ => 15
  | .margin _ => 19
  | .conv _ => 31
  | .lineCfg => 7
  | .lineLive => 13
  | .logCtrl => 12
  | .view _ => 143
  | .engCtrl => 31
  | .engProg => 5
  | .counter _ => 3
  | .galCtrl => 12
  | .galRam => 143
  | .pinCfg _ => 4
  | .pevCfg => 9
  | .pinLock => 4
  | .evRoute => 65
  | .can _ => 9
  | .publish _ => 31
  | .twowire => 9
  | .bist => 37
  | .image => 43

/-- Default SEL of counter k (R471). -/
def defaultSel (k : Nat) : Nat :=
  if k < 16 then (if k % 2 = 0 then 0x02 else 0x03)
  else ([0x05, 0x04, 0x07, 0x03, 0x01, 0x02, 0x06, 0x08, 0x01, 0x02, 0x05, 0x07, 0x01, 0x02, 0x02, 0x03, 0x02, 0x03,
    0x01, 0x03, 0x03, 0x07, 0x58, 0x6F, 0x03, 0x04] : List Nat).getD (k - 16) 0


/-- A read-only field of w words. -/
def fRO (w d : Nat) : Option Field := some { words := w, acc := .ro, dflt := d }

/-- An immediate field of w words. -/
def fRW (w d : Nat) : Option Field := some { words := w, acc := .rw, dflt := d }

/-- A staged field of w words. -/
def fRWS (w d : Nat) : Option Field := some { words := w, acc := .rws, dflt := d }

/-- A write-only field of w words. -/
def fWO (w : Nat) : Option Field := some { words := w, acc := .wo, dflt := 0 }

/-- A key-protected field of w words. -/
def fK (w : Nat) : Option Field := some { words := w, acc := .k, dflt := 0 }

/-- "OPX-S960" with its padding, as the number its eight words spell (R380). -/
def nameWords : Nat := 0x4F50582D53393630 * 2 ^ 64

/-- The subindexes above 0 of each object, by the subindex maps of its chapter. -/
def bodyOf (o : Obj) (sub : Nat) : Option Field :=
  match o with
  | .identity =>                                                        -- R380
    match sub with
    | 1 => fRO 1 0x5358
    | 2 => fRO 1 Config.deviceCode
    | 3 => fRO 1 0x0001
    | 4 => fRO 4 0
    | 5 => fRO 8 nameWords
    | 6 | 7 => fRO 2 0
    | 8 => fRO 1 0
    | _ => none
  | .modeCtrl =>                                                        -- R348
    match sub with
    | 1 | 6 | 8 | 11 => fRO 1 0
    | 7 => fRO 1 1
    | 2 | 3 => fWO 1
    | 4 => fRW 1 0
    | 5 => fK 1
    | 9 => fRWS 1 0x4000
    | 10 => fRWS 1 100
    | _ => none
  | .devTime =>                                                         -- R49
    match sub with
    | 1 | 3 | 4 => fRO 4 0
    | 2 => fRO 1 0
    | _ => none
  | .evStatus => if sub = 1 then fRO 4 0 else none                      -- R469
  | .evMaskHost => if sub = 1 then fRW 4 0 else none
  | .evMaskEng => if sub = 1 then fRW 4 0 else none
  | .evClear => if sub = 1 then fWO 4 else none
  | .supplyLive =>                                                      -- R355
    if 1 ≤ sub ∧ sub ≤ 5 then fRO 1 0 else if sub = 6 then fRO 1 0xFFFF else none
  | .tempLive =>                                                        -- R356
    match sub with
    | 1 | 4 => fRO 1 0
    | 2 => fRO 1 0xFE70
    | 3 => fRWS 1 1400
    | _ => none
  | .chanCfg _ =>                                                       -- R88, R124, R211
    match sub with
    | 1 | 7 | 9 | 12 => fRWS 1 0
    | 2 => fRWS 1 0x007F
    | 3 => fRWS 1 375
    | 4 => fRWS 1 8192
    | 5 => fRWS 1 0xFFFD
    | 6 | 8 | 10 => fRWS 1 0xFFFE
    | 11 => fRWS 1 0x0800
    | 13 => fRWS 1 0x0400
    | 14 => fRWS 1 2
    | 15 => fRWS 1 8
    | 16 => fRWS 1 16
    | 17 => fRWS 1 4
    | 18 => fRWS 2 100
    | 19 => fRWS 1 3
    | 20 => fRWS 1 0x0006
    | 24 => fRWS 4 0
    | _ => if 25 ≤ sub ∧ sub ≤ 32 then fRWS 2 0 else none
  | .chanLive _ =>                                                      -- R118, R139
    match sub with
    | 2 | 9 => fRO 2 0
    | _ => if 1 ≤ sub ∧ sub ≤ 10 then fRO 1 0 else none
  | .podCfg _ =>                                                        -- R181, R212
    match sub with
    | 1 | 9 => fRWS 1 0
    | 2 => fRWS 1 16
    | 3 => fRWS 1 0x00FF
    | 4 => fRWS 1 0x000C
    | 8 => fRWS 1 65535
    | _ => none
  | .podFlight _ =>                                                     -- R182
    if sub = 1 then fRWS 1 0 else if 32 ≤ sub ∧ sub ≤ 63 then fRWS 4 0 else none
  | .podLive _ =>                                                       -- R183, R213
    match sub with
    | 1 => fWO 1
    | 2 | 3 | 4 | 7 | 8 | 12 | 15 => fRO 1 0
    | 5 | 6 | 13 => fRO 2 0
    | 9 | 10 => fRO 4 0
    | 11 => fRO 1 0x007F
    | 14 => fRO 1 0x00FF
    | _ => none
  | .margin _ =>                                                        -- R307
    match sub with
    | 1 => fRWS 1 0x0031
    | 2 => fRWS 1 128
    | 3 | 4 => fRWS 1 16
    | 5 => fRWS 1 256
    | 6 => fRWS 1 64
    | 7 => fRWS 1 8
    | 8 | 9 | 10 => fWO 1
    | 11 | 12 | 13 | 14 | 17 | 19 => fRO 1 0
    | 15 | 16 => fRO 2 0
    | 18 => fRO 4 0
    | _ => none
  | .conv _ =>                                                          -- R114
    match sub with
    | 1 => fRWS 1 0
    | 2 => fWO 1
    | 3 | 4 | 8 => fRO 1 0
    | 5 => fRO 1 27307
    | 6 => fRO 1 13653
    | 7 => fRWS 1 256
    | _ => if 16 ≤ sub ∧ sub ≤ 31 then fRO 2 0 else none
  | .lineCfg =>                                                         -- R252
    match sub with
    | 1 => fRWS 1 0x000F
    | 2 | 4 => fRWS 1 0
    | 3 => fRWS 1 15625
    | 5 => fRWS 1 96
    | 6 | 7 => fWO 1
    | _ => none
  | .lineLive =>                                                        -- R254
    match sub with
    | 1 | 7 => fRO 1 0x000F
    | 6 => fRO 4 0
    | 13 => fRO 2 0
    | _ => if 1 ≤ sub ∧ sub ≤ 12 then fRO 1 0 else none
  | .logCtrl =>                                                         -- R286
    match sub with
    | 1 => fRWS 1 10
    | 2 => fRWS 1 7
    | 3 => fRWS 1 55
    | 4 => fRWS 1 90
    | 5 | 6 => fRO 1 0
    | 7 | 8 | 9 => fRO 1 0xFFFF
    | 10 | 11 | 12 => fRO 2 0
    | _ => none
  | .view _ =>                                                          -- R287
    match sub with
    | 1 => fRW 1 0x8000
    | 2 => fRO 1 0
    | 3 => fRO 2 0
    | _ => if 16 ≤ sub ∧ sub ≤ 143 then fRO 1 0 else none
  | .engCtrl =>                                                         -- R337
    match sub with
    | 1 => fRWS 1 1
    | 2 => fWO 1
    | 3 | 4 | 5 | 6 | 7 | 8 | 9 => fRO 1 0
    | 10 | 12 | 13 => fRO 2 0
    | 11 => fRO 1 0x00FF
    | _ => if 16 ≤ sub ∧ sub ≤ 31 then fRO 1 0 else none
  | .engProg =>                                                         -- R338
    match sub with
    | 1 => fRW 1 0x1000
    | 2 => fRW 2 0
    | 3 => fRW 1 0
    | 4 => fRO 2 0xFFFFFFFF
    | 5 => fWO 1
    | _ => none
  | .counter k =>                                                       -- R479
    match sub with
    | 1 => if k = 28 then fRO 1 1 else fRWS 1 (defaultSel k)
    | 2 => fRO 4 0
    | 3 => fWO 1
    | _ => none
  | .galCtrl =>                                                         -- R491
    match sub with
    | 1 => fRWS 1 0x7003
    | 2 => fRWS 1 0x0009
    | 3 | 4 | 5 | 6 => fRWS 1 0
    | 7 => fRWS 4 0xFFFFFFFFFFFFFFFF
    | 8 | 11 | 12 => fRO 1 0
    | 9 | 10 => fRO 2 0
    | _ => none
  | .galRam =>                                                          -- R492
    if sub = 1 then fRW 1 0 else if 16 ≤ sub ∧ sub ≤ 143 then fRO 1 0 else none
  | .pinCfg n =>                                                        -- R456
    match sub with
    | 1 => fRWS 1 (if n < 6 then 0x8000 else 0)
    | 2 => fRWS 1 0
    | 3 => fRW 1 0
    | 4 => fRO 1 0
    | _ => none
  | .pevCfg => if 1 ≤ sub ∧ sub ≤ 8 then fRWS 1 0 else if sub = 9 then fRO 1 0 else none   -- R461
  | .pinLock =>                                                         -- R457
    match sub with
    | 1 => fRW 4 0
    | 2 => fWO 1
    | 3 => fRO 4 0
    | 4 => fRWS 1 0
    | _ => none
  | .evRoute =>                                                         -- R470
    if 1 ≤ sub ∧ sub ≤ 64 then fRWS 1 0xE000 else if sub = 65 then fRWS 1 0 else none
  | .can _ =>                                                           -- R396
    match sub with
    | 1 => fRWS 1 0x00E0
    | 2 => fRWS 1 0x0070
    | 3 => fRWS 2 0x034F1414
    | 4 => fRWS 2 0x03130505
    | 5 => fRWS 1 0x8050
    | 6 => fRWS 1 100
    | 7 | 9 => fRO 2 0
    | 8 => fRO 1 0
    | _ => none
  | .publish _ =>                                                       -- R413
    match sub with
    | 1 | 3 | 4 => fRWS 1 0
    | 2 => fRWS 1 391
    | 5 => fRO 2 0
    | _ => if 16 ≤ sub ∧ sub ≤ 31 then fRWS 2 0 else none
  | .twowire =>                                                         -- R438
    match sub with
    | 1 => fRWS 1 0x8000
    | 2 | 3 | 4 => fRWS 1 0
    | 5 => fRWS 1 25
    | 6 => fRO 1 0
    | 7 => fRO 2 0x01000000
    | 8 | 9 => fRO 2 0
    | _ => none
  | .bist =>                                                            -- R507
    match sub with
    | 1 => fRWS 1 0x921F
    | 2 => fRWS 1 100
    | 3 => fWO 1
    | 4 => fRO 1 0
    | 5 | 6 | 7 | 8 => fRO 2 0
    | _ => if 16 ≤ sub ∧ sub ≤ 21 then fRO 1 0 else if 32 ≤ sub ∧ sub ≤ 37 then fRO 2 0 else none
  | .image =>                                                           -- R391
    match sub with
    | 1 => fWO 1
    | 2 => fRW 1 0
    | 3 => fRW 2 0
    | 4 | 8 | 9 => fRO 2 0
    | 5 | 6 | 7 => fRO 1 0
    | 10 => fK 8
    | 11 => fK 1
    | _ => if 16 ≤ sub ∧ sub ≤ 43 then fWO 1 else none

/-- The field at an index and a subindex; none where R376 and R379 make it absent. -/
def fieldOf (idx sub : Nat) : Option Field :=
  match objOf idx with
  | none => none
  | some o => if sub = 0 then fRO 1 (highest o) else if highest o < sub then none else bodyOf o sub

/-- The width in words with which a subindex counts: an absent one counts as one word (R401, R422). -/
def widthOf (idx sub : Nat) : Nat :=
  match fieldOf idx sub with
  | some f => f.words
  | none => 1

/-- The key of a field in the store. -/
def keyOf (idx sub : Nat) : Nat := idx * 256 + sub

/-- What the store holds for a field that nothing has written (R376 to R379). -/
def defaultOf (key : Nat) : Nat :=
  match fieldOf (key / 256) (key % 256) with
  | some f => f.dflt
  | none => 0

/-- The codes in a counter block's list (R471); code 0 stops any counter. -/
def selInList (k sel : Nat) : Bool :=
  sel = 0 ||
  (if k < 16 then decide (1 ≤ sel ∧ sel ≤ 9)
   else if k < 20 then decide (1 ≤ sel ∧ sel ≤ 8)
   else if k < 28 then decide (1 ≤ sel ∧ sel ≤ 9)
   else if k = 28 then decide (sel = 1)
   else if k = 29 then decide (2 ≤ sel ∧ sel ≤ 7)
   else if k < 34 then decide (1 ≤ sel ∧ sel ≤ 8)
   else if k < 36 then decide (1 ≤ sel ∧ sel ≤ 6)
   else if k < 38 then decide (1 ≤ sel ∧ sel ≤ 8)
   else if k < 40 then decide ((1 ≤ sel ∧ sel ≤ 8) ∨ (0x40 ≤ sel ∧ sel ≤ 0x7F))
   else decide (1 ≤ sel ∧ sel ≤ 8))

/-- NOM_BT and DATA_BT: the limits of R394 that concern one field. -/
def btOk (data : Bool) (v : Nat) : Bool :=
  let brp := fld v 24 8
  let t1 := fld v 16 8
  let t2 := fld v 8 8
  let sjw := fld v 0 8
  let len := (brp + 1) * (1 + t1 + t2)
  decide (sjw ≤ t2) && decide (1 ≤ sjw) && decide (1 ≤ t2) &&
  (if data then decide (brp ≤ 31) && decide (1 ≤ t1 ∧ t1 ≤ 63) && decide (t2 ≤ 31) && decide (sjw ≤ 31) && decide (25 ≤ len)
   else decide (2 ≤ t1) && decide (t2 ≤ 127) && decide (sjw ≤ 127) && decide (200 ≤ len ∧ len ≤ 1600))

/-- The pins that AF code 8 may be selected on (R443). -/
def fixedPin (n : Nat) : Bool := decide (n < 6 ∨ (19 ≤ n ∧ n ≤ 23) ∨ (32 ≤ n ∧ n ≤ 35) ∨ n = 46 ∨ n = 47)

/-- The value lies inside the range that the manual states for the field (R87); a reserved bit is 0 (R12).
`image` tells a record of an image from a write, since only an image may set OWNER to 3 (R452). -/
def inRange (image : Bool) (o : Obj) (sub v : Nat) : Bool :=
  match o with
  | .modeCtrl =>
    match sub with
    | 2 => decide (1 ≤ v ∧ v ≤ 6)
    | 9 => v &&& 0x1F00 = 0
    | 10 => decide (1 ≤ v)
    | _ => true
  | .tempLive => if sub = 3 then decide (800 ≤ v ∧ v ≤ 1500) else true
  | .chanCfg _ =>
    match sub with
    | 1 => decide (v &&& 0x01F8 = 0 ∧ fld v 10 6 ≤ 47)
    | 2 => decide (v ≤ 95 ∨ v = 127)
    | 4 => decide (1 ≤ v)
    | 5 => decide (v ≤ 3 ∨ (0xFFF7 ≤ v ∧ v ≤ 0xFFFF))
    | 12 => decide (v ≤ 4095)
    | 14 | 15 | 19 => decide (1 ≤ v ∧ v ≤ 16)
    | 16 => decide (1 ≤ v ∧ v ≤ 255)
    | 17 => decide (v ≤ 255)
    | 18 => decide (v ≤ 2147483647)
    | 20 => v &&& 0xFFF1 = 0
    | 24 => decide (v &&& 0xFFF8 = 0 ∧ fld v 26 6 ≤ 47 ∧ fld v 18 4 ≤ 8)
    | _ => true
  | .podCfg _ =>
    match sub with
    | 1 => v &&& 0xF03C = 0
    | 3 => decide (v ≤ 15 ∨ v = 255)
    | 4 => decide (v ≤ 15)
    | 8 => decide (1 ≤ v)
    | 9 => decide (v ≤ 1)
    | _ => true
  | .podFlight _ => if sub = 1 then decide (v ≤ 32) else true
  | .podLive _ => if sub = 1 then decide (1 ≤ v ∧ v ≤ 3) else true
  | .margin _ =>
    match sub with
    | 1 => decide (v ≤ 63)
    | 2 => decide (1 ≤ v ∧ v ≤ 511)
    | 3 => decide (1 ≤ v)
    | 4 => decide (1 ≤ v ∧ v ≤ 1024)
    | 5 => decide (v ≤ 8192)
    | 6 => decide (16 ≤ v ∧ v ≤ 128)
    | 7 => decide (1 ≤ v ∧ v ≤ 4095)
    | 10 => decide ((1 ≤ v ∧ v ≤ 63) ∨ (0xFFC1 ≤ v ∧ v ≤ 0xFFFF))
    | _ => true
  | .conv _ =>
    match sub with
    | 1 => decide (v &&& 0xFF10 = 0 ∧ fld v 5 2 ≠ 3 ∧ fld v 0 4 ≤ 13)
    | 2 => decide (v ≤ 13)
    | 7 => decide (32 ≤ v ∧ v ≤ 2048)
    | _ => true
  | .lineCfg =>
    match sub with
    | 1 => decide (v ≤ 63)
    | 2 => decide (v ≤ 0x7FFF)
    | 3 | 5 => decide (1 ≤ v)
    | 4 => v &&& 0xF0FC = 0
    | 6 => decide (1 ≤ v ∧ v ≤ 2)
    | _ => true
  | .logCtrl =>
    match sub with
    | 1 => decide (1 ≤ v ∧ v ≤ 1000)
    | 2 => decide (v ≤ 7)
    | 3 => decide (45 ≤ v ∧ v ≤ 200)
    | 4 => decide (50 ≤ v ∧ v ≤ 150)
    | _ => true
  | .view w =>
    if sub = 1 then
      match w with
      | .kernel => decide (fld v 11 4 = 0 ∧ fld v 0 11 ≤ 511)
      | .husk => decide (fld v 0 11 ≤ 63)
      | .summary => decide (fld v 11 4 = 0)
    else true
  | .engCtrl => if sub = 1 then v &&& 0xF1FC = 0 else true
  | .engProg =>
    match sub with
    | 1 => decide (0x1000 ≤ v ∧ v ≤ 0x1FFF)
    | 3 => decide (v ≤ 4096)
    | _ => true
  | .counter k => if sub = 1 then selInList k v else true
  | .galCtrl =>
    match sub with
    | 1 => decide (v &&& 0x00E0 = 0 ∧ 8 ≤ fld v 8 5 ∧ fld v 8 5 ≤ 20)
    | 2 => decide (v ≤ 15 ∧ fld v 0 2 ≠ 3 ∧ fld v 2 2 ≠ 3)
    | 3 | 4 | 5 | 6 => decide (v ≤ 255 ∧ fld v 0 7 ≤ 95)
    | _ => true
  | .galRam => if sub = 1 then decide (v ≤ 4095) else true
  | .pinCfg n =>
    match sub with
    | 1 => decide (v &&& 0x000F = 0 ∧ fld v 8 2 ≠ 3 ∧ fld v 4 3 ≤ 5 ∧
        (fld v 12 4 ≤ 6 ∨ (fld v 12 4 = 8 ∧ fixedPin n = true)))
    | 2 => decide (v ≤ 2 ∨ (v = 3 ∧ image = true))
    | 3 => decide (v ≤ 1)
    | _ => true
  | .pevCfg => decide (v &&& 0x1800 = 0 ∧ fld v 13 2 ≠ 3 ∧ fld v 8 3 ≤ 5)
  | .pinLock =>
    match sub with
    | 1 => decide (v < 2 ^ 48)
    | 4 => v &&& 0x7F00 = 0
    | _ => true
  | .evRoute => if sub = 65 then decide (v ≤ 255) else v &&& 0x1F00 = 0
  | .can _ =>
    match sub with
    | 1 => v &&& 0xFF0F = 0
    | 2 => decide (1 ≤ v ∧ v ≤ 127)
    | 3 => btOk false v
    | 4 => btOk true v
    | 5 => v &&& 0x7F00 = 0
    | 6 => decide (v ≤ 10000)
    | _ => true
  | .publish _ =>
    match sub with
    | 1 => v &&& 0x7CFE = 0
    | 2 => decide (8 ≤ v)
    | 4 => decide (v ≤ 16)
    | _ => if 16 ≤ sub then v &&& 0xFF = 0 else true
  | .twowire =>
    match sub with
    | 1 => v &&& 0x7EE8 = 0
    | 2 | 3 | 4 => decide (v ≤ 127)
    | 5 => decide (5 ≤ v ∧ v ≤ 100)
    | _ => true
  | .bist =>
    match sub with
    | 1 => v &&& 0x61E0 = 0
    | 2 => decide (20 ≤ v ∧ v ≤ 10000)
    | _ => true
  | .image =>
    match sub with
    | 2 => decide (v ≤ 1)
    | 11 => v &&& 0xFFFC = 0
    | _ => true
  | _ => true

/-- STANDBY or SERVICE, the modes in which most configuration accepts writes. -/
def standbyOrService (m : Mode) : Bool := decide (m = .standby ∨ m = .service)

/-- The field accepts writes in the mode (R86, R123, R145, R210, R252, R286, R306, R337, R348, R356, R387, R396,
R413, R438, R451, R452, R461, R470, R507); elsewhere it is a locked field under R15. `hold` is BOOT-HOLD and
`cause` its cause (R361). -/
def modeAccepts (m : Mode) (hold : Bool) (cause : Nat) (o : Obj) (sub : Nat) : Bool :=
  match o with
  | .modeCtrl => if sub = 9 ∨ sub = 10 then standbyOrService m else true
  | .tempLive => if sub = 3 then standbyOrService m else true
  | .chanCfg _ =>
    if 6 ≤ sub ∧ sub ≤ 23 then standbyOrService m || decide (m = .run) else standbyOrService m
  | .podCfg _ | .podFlight _ => standbyOrService m
  | .margin _ =>
    if sub = 1 then standbyOrService m
    else if 2 ≤ sub ∧ sub ≤ 7 then standbyOrService m || decide (m = .run) else true
  | .lineCfg => if sub ≤ 5 then standbyOrService m else true
  | .logCtrl => standbyOrService m
  | .engCtrl => if sub = 1 then standbyOrService m else true
  | .engProg => decide (m = .service)
  | .pinCfg _ =>
    if sub = 2 then decide (m = .service)
    else decide (m = .standby ∨ m = .ascend ∨ m = .run ∨ m = .descend ∨ m = .crash ∨ m = .service)
  | .pevCfg => standbyOrService m
  | .pinLock => if sub = 4 then standbyOrService m else true
  | .evRoute => standbyOrService m
  | .can _ | .publish _ => standbyOrService m
  | .twowire => standbyOrService m
  | .bist => if sub = 1 ∨ sub = 2 then standbyOrService m else !hold
  | .image =>
    decide (m = .service) || (hold && decide (cause = 3 ∨ cause = 4) && !decide (sub = 10 ∨ sub = 11))
  | _ => true

/-- In BOOT-HOLD only BIST, IDENTITY and, with cause 3 or 4, IMAGE are reachable (R361, R362, R380). -/
def holdReaches (cause : Nat) (o : Obj) : Bool :=
  match o with
  | .bist | .identity => true
  | .image => decide (cause = 3 ∨ cause = 4)
  | _ => false

/-- The targets that field code may write, by F_POD, F_URGENT and F_MARGIN of ENGINE_CTRL.CTRL, and a counter's SEL and
CLEAR as COUNTER_ACCESS allows (R314, R478). -/
def fieldMayWrite (ctrl counterCode : Nat) (o : Obj) (sub : Nat) : Bool :=
  match o with
  | .counter _ => decide (sub = 1 ∨ sub = 3) && decide (counterCode = 2)
  | .podLive _ => decide (sub = 1) && bit ctrl 9
  | .conv _ => decide (sub = 2) && bit ctrl 10
  | .margin _ => decide (8 ≤ sub ∧ sub ≤ 10) && bit ctrl 11
  | _ => false

/-- The fields that the engine never writes (R315, R452, R491) and those it writes as COUNTER_ACCESS allows (R478). -/
def engineMayWrite (counterCode : Nat) (o : Obj) (sub : Nat) : Bool :=
  match o with
  | .modeCtrl => !decide (sub = 3 ∨ sub = 5)
  | .engCtrl | .engProg | .image | .galCtrl | .galRam => false
  | .counter _ => decide (counterCode = 2)
  | .pinCfg _ => !decide (sub = 2)
  | _ => true

/-- The engine may read the object: COUNTER and GALLERY_RAM as COUNTER_ACCESS allows (R478). -/
def engineMayRead (counterCode : Nat) (o : Obj) : Bool :=
  match o with
  | .counter _ | .galRam => decide (counterCode = 1 ∨ counterCode = 2)
  | _ => true

/-- The pin's owner admits the writer to CFG and OUT; a locked pin admits nobody to CFG, OWNER and OUT (R452, R453). -/
def pinAdmits (owner : Nat) (locked isEngine : Bool) (sub : Nat) : Bool :=
  if sub = 1 ∨ sub = 3 then
    !locked && (decide (owner = 0) || (decide (owner = 1) && !isEngine) || (decide (owner = 2) && isEngine))
  else if sub = 2 then !locked && !decide (owner = 3)
  else true

end Sys2Proof.Machine
end

