-- ==== Sys2Proof/Machine/Ops.lean ====
section
/-!
DEFINITION. The named operations over the state: device time, the dictionary store, requesters, the NVM, counters,
the gallery stream, the event router (R463), the mode change (R340, R65) and the action queue's fill (R178, R179).
-/
namespace Sys2Proof.Machine

/-! ## Device time (R6, R7) -/

def frameOf (t : Nat) : Nat := t / 512
def slotOf (t : Nat) : Nat := t % 512 / 32
def frame (s : State) : Nat := frameOf s.clk.time

/-- The instant at a tick of the present frame. -/
def inFrame (s : State) (tick : Nat) : Nat := frame s * 512 + tick

/-- The device is powered, out of reset and its CLK_CORE runs (R47, R349, R359, R369). -/
def running (s : State) : Bool := s.pwr.powered && !s.pwr.held && !decide (s.sup.mode = .sleep)

/-- A command that needs a running device does nothing otherwise (log 1). -/
def whenRunning (s : State) (f : State → State) : State := if running s then f s else s

/-! ## The dictionary store -/

/-- The active value of a field. -/
def act (s : State) (idx sub : Nat) : Nat := get s.dict (defaultOf (keyOf idx sub)) (keyOf idx sub)

/-- The value that SUPERVISE uses in the present frame (R51 step 3, R52). -/
def cfg (s : State) (idx sub : Nat) : Nat := get s.latched (defaultOf (keyOf idx sub)) (keyOf idx sub)

def setField (s : State) (key v : Nat) : State := { s with dict := put s.dict (defaultOf key) key v }

/-- A write of an event mask leaves the router the mask of this tick (R465). -/
def holdMask (s : State) (key : Nat) : State :=
  if key = keyOf 0x0301 1 then { s with now := { s.now with hostMask := some (s.now.hostMask.getD (act s 0x0301 1)) } }
  else if key = keyOf 0x0302 1 then { s with now := { s.now with engMask := some (s.now.engMask.getD (act s 0x0302 1)) } }
  else s

def chanCfg (s : State) (c sub : Nat) : Nat := cfg s (0x1000 + c) sub
def podCfg (s : State) (p sub : Nat) : Nat := cfg s (0x1200 + p) sub
def marginCfg (s : State) (c sub : Nat) : Nat := cfg s (0x1400 + c) sub
def convCfg (s : State) (g sub : Nat) : Nat := cfg s (0x1500 + g) sub
def lineCfg (s : State) (sub : Nat) : Nat := cfg s 0x1600 sub

/-! ## Requesters (R57) -/

def req (s : State) : Requester → ReqState
  | .cana => s.reqA
  | .canb => s.reqB
  | .twi => s.reqT
  | .eng => s.reqE

def setReq (s : State) (r : Requester) (q : ReqState) : State :=
  match r with
  | .cana => { s with reqA := q }
  | .canb => { s with reqB := q }
  | .twi => { s with reqT := q }
  | .eng => { s with reqE := q }

def modReq (s : State) (r : Requester) (f : ReqState → ReqState) : State := setReq s r (f (req s r))

def requesters : List Requester := [.cana, .canb, .twi, .eng]

/-- A host is every requester but the engine. -/
def isHost (r : Requester) : Bool := !decide (r = .eng)

/-- The requester of a CAN port. -/
def portReq : Port → Requester
  | .a => .cana
  | .b => .canb

/-! ## SUPERVISE tables -/

def chan (s : State) (c : Nat) : Chan := get s.sup.chans Chan.reset c
def setChan (s : State) (c : Nat) (v : Chan) : State :=
  { s with sup := { s.sup with chans := put s.sup.chans Chan.reset c v } }
def modChan (s : State) (c : Nat) (f : Chan → Chan) : State := setChan s c (f (chan s c))

def conv (s : State) (g : Nat) : Conv := get s.sup.convs Conv.reset g
def setConv (s : State) (g : Nat) (v : Conv) : State :=
  { s with sup := { s.sup with convs := put s.sup.convs Conv.reset g v } }
def modConv (s : State) (g : Nat) (f : Conv → Conv) : State := setConv s g (f (conv s g))

def pod (s : State) (p : Nat) : Pod := get s.sup.pods Pod.reset p
def setPod (s : State) (p : Nat) (v : Pod) : State :=
  { s with sup := { s.sup with pods := put s.sup.pods Pod.reset p v } }
def modPod (s : State) (p : Nat) (f : Pod → Pod) : State := setPod s p (f (pod s p))

def ent (s : State) (p k : Nat) : EntrySt := get (pod s p).ents EntrySt.reset k
def modEnt (s : State) (p k : Nat) (f : EntrySt → EntrySt) : State :=
  modPod s p fun q => { q with ents := put q.ents EntrySt.reset k (f (get q.ents EntrySt.reset k)) }

def dis (s : State) (c : Nat) : Dis := get s.sup.dis Dis.reset c
def setDis (s : State) (c : Nat) (v : Dis) : State :=
  { s with sup := { s.sup with dis := put s.sup.dis Dis.reset c v } }
def modDis (s : State) (c : Nat) (f : Dis → Dis) : State := setDis s c (f (dis s c))

def margin (s : State) (c : Nat) : Margin := get s.sup.margins Margin.reset c
def setMargin (s : State) (c : Nat) (v : Margin) : State :=
  { s with sup := { s.sup with margins := put s.sup.margins Margin.reset c v } }
def modMargin (s : State) (c : Nat) (f : Margin → Margin) : State := setMargin s c (f (margin s c))

def modCrash (s : State) (f : Crash → Crash) : State := { s with sup := { s.sup with crash := f s.sup.crash } }
def modLine (s : State) (f : Line → Line) : State := { s with sup := { s.sup with line := f s.sup.line } }
def modSupply (s : State) (f : Supply → Supply) : State := { s with sup := { s.sup with supply := f s.sup.supply } }

def port (s : State) : Port → CanPort
  | .a => s.canA
  | .b => s.canB

def modPort (s : State) (p : Port) (f : CanPort → CanPort) : State :=
  match p with
  | .a => { s with canA := f s.canA }
  | .b => { s with canB := f s.canB }

/-- Run an operation for each element of a list, in order. -/
def each {α : Type} (l : List α) (s : State) (f : State → α → State) : State := l.foldl f s

def channels : List Nat := List.range 96
def podNums : List Nat := List.range 48
def converters : List Nat := List.range 8

/-! ## The NVM (R255, R262, R263) -/

/-- A byte of the NVM; an address that nothing has written reads 0xFF (R262). -/
def nvmByte (m : Map Byte) (a : Nat) : Byte := get m 0xFF a

/-- The n bytes from an address on. -/
def nvmBytes (m : Map Byte) (a n : Nat) : List Byte := (List.range n).map fun i => nvmByte m (a + i)

/-- Write bytes from an address on. -/
def nvmPut (m : Map Byte) (a : Nat) : List Byte → Map Byte
  | [] => m
  | b :: r => nvmPut (put m 0xFF a b) (a + 1) r

/-- The canonical form of the NVM: addresses strictly rising, no byte equal to 0xFF, all inside 1 MiB. -/
def nvmWf (m : Map Byte) : Bool := wf 0xFF m && m.all fun e => decide (e.1 < 0x100000)

def setNvm (s : State) (m : Map Byte) : State := { s with recs := { s.recs with nvm := m } }

/-! ## Self-test status that other blocks read (R502, R505, R507) -/

def partDisabled (s : State) (i : Nat) : Bool := bit (get s.bist.part 0 i) 11

/-- The partition under in-service test. -/
def testing (s : State) (i : Nat) : Bool :=
  match s.bist.run with
  | some (j, _) => decide (j = i)
  | none => false

/-- The self-test partition of a port (R493). -/
def portPart : Port → Nat
  | .a => 3
  | .b => 4

def portIdx : Port → Nat
  | .a => 0x1C00
  | .b => 0x1C01

/-- CTRL.EN of the port is 1 and the port is not disabled (R409, R505). -/
def portOn (s : State) (p : Port) : Bool := bit (act s (portIdx p) 1) 7 && !partDisabled s (portPart p)

/-! ## The gallery stream (R484 to R488) -/

def galCtrl (s : State) : Nat := act s 0x1980 1

/-- Ring record bytes into the gallery RAM, two bytes a word (R482). -/
def galStore (m : Map Word) (wordAddr : Nat) : List Byte → Map Word
  | hi :: lo :: r => galStore (put m 0 wordAddr (BitVec.ofNat 16 (hi.toNat * 256 + lo.toNat))) (wordAddr + 1) r
  | _ => m

/-- A LOSS record (R486). -/
def lossRecord (g : Gallery) : List Byte := bytes 1 0xA7 ++ bytes 1 0 ++ bytes 2 (min g.drops 0xFFFF) ++ bytes 4 g.lost

/-- A LOSS record goes ahead of any other record as soon as there is room for it (R488). -/
def pushLoss (g : Gallery) : Gallery :=
  if 0 < g.drops ∧ g.fifo.length < 64 then { g with fifo := g.fifo ++ [lossRecord g], drops := 0 } else g

/-- The place of a record's kind in the order of R485: FRAME, CHANNEL, EVENT by its number, MODE, COUNTER, then the
records of a pip. -/
def recordRank (rec8 : List Byte) : Nat :=
  match (rec8.getD 0 0).toNat % 16 with
  | 0 => 0
  | 3 => 1
  | 1 => 2 + (rec8.getD 1 0).toNat
  | 2 => 66
  | 4 => 67
  | _ => 68

/-- A record behind every record of this tick that comes no later (R485). -/
def insertRec (r : Nat × List Byte × Bool × Bool) : List (Nat × List Byte × Bool × Bool) → List (Nat × List Byte × Bool × Bool)
  | [] => [r]
  | x :: l => if r.1 < x.1 then r :: x :: l else x :: insertRec r l

/-- A record at RING_HEAD (R482, R484). -/
def ringPut (g : Gallery) (rec8 : List Byte) : Gallery :=
  { g with ram := galStore g.ram (0x200 + 4 * g.ringHead) rec8
           ringHead := (g.ringHead + 1) % 896
           wrapped := g.wrapped || decide (g.ringHead = 895) }

/-- The LOSS record that is the first one after a test goes into the ring too, and without the trace FIFO it is the one
that reports the drops (R486, R502). -/
def firstLoss (g : Gallery) (ring trace : Bool) : Gallery :=
  if g.lossFirst then
    let g1 := if ring then ringPut g (lossRecord g) else g
    { g1 with lossFirst := false, drops := if ring && !trace then 0 else g.drops }
  else g

/-- A record goes into the ring, and into the trace FIFO (R484, R488). -/
def putRecord (g : Gallery) (r : Nat × List Byte × Bool × Bool) : Gallery :=
  let rec8 := r.2.1
  let g := if r.2.2.1 || r.2.2.2 then firstLoss g r.2.2.1 r.2.2.2 else g
  let g := if r.2.2.1 then ringPut g rec8 else g
  if r.2.2.2 then
    let g := pushLoss g
    if g.fifo.length < 64 then { g with fifo := g.fifo ++ [rec8] }
    else { g with lost := g.lost + 1, drops := g.drops + 1 }
  else g

/-- The gallery with the records of the present tick in their places. -/
def galNow (s : State) : Gallery := s.now.recs.foldl putRecord s.gal

/-- The records of the tick so far take their places for good. -/
def settle (s : State) : State := { s with gal := galNow s, now := { s.now with recs := [] } }

/-- Make one stream record (R484, R485). While the gallery is under test no record is made and each one adds to LOST
(R502); a disabled gallery has TRACE_EN = RING_EN = 0 (R505). -/
def record (s : State) (rec8 : List Byte) : State :=
  if testing s 5 then
    { s with gal := { s.gal with lost := s.gal.lost + 1, drops := s.gal.drops + 1, lossFirst := true } }
  else if partDisabled s 5 then s
  else
    { s with now := { s.now with
        recs := insertRec (recordRank rec8, rec8, bit (galCtrl s) 13, bit (galCtrl s) 15) s.now.recs } }

/-! ## Events (R462 to R466) and counters (R471 to R477) -/

/-- ROUTE(e) of EVENT_ROUTE (R463, R470). -/
def routeOf (s : State) (e : Nat) : Nat := act s 0x1B00 (1 + e)

/-- The live STATUS bit of an event (R463). -/
def markStatus (s : State) (e : Nat) : State := { s with
  sup := { s.sup with evStatus := setBit s.sup.evStatus e }
  now := { s.now with raised := setBit s.now.raised e } }

/-- The masks as the router uses them: a write takes effect in the tick after its acceptance (R465). -/
def hostMask (s : State) : Nat := s.now.hostMask.getD (act s 0x0301 1)
def engMask (s : State) : Nat := s.now.engMask.getD (act s 0x0302 1)

/-- The engine's pending bit, where EVENT_MASK_ENGINE admits the event (R327, R463). -/
def markEngine (s : State) (e : Nat) : State :=
  if bit (engMask s) e then { s with
    eng := { s.eng with pend := setBit s.eng.pend e }
    now := { s.now with pended := if bit s.eng.pend e then s.now.pended else setBit s.now.pended e } }
  else s

/-- A pending event of a port: set with its time, or merged with the one that waits (R409). The table keeps time + 1. -/
def pendEvent (e time : Nat) (c : CanPort) : CanPort :=
  { c with
    pend := put c.pend 0 e (time + 1)
    merged := if get c.pend 0 e = 0 then c.merged else incSat c.merged 255 }

/-- The route to a CAN port, by its bit of ROUTE (R409, R463). -/
def routePort (s : State) (p : Port) (b e : Nat) : State :=
  if bit (routeOf s e) b && portOn s p then modPort s p (pendEvent e s.clk.time) else s

/-- An event stamp before those of its tick that have a larger number (R273). The list has the latest stamp first. -/
def insertStamp (x : EvStamp) : List EvStamp → List EvStamp
  | [] => [x]
  | y :: l => if x.time = y.time ∧ x.ev < y.ev then y :: insertStamp x l else x :: y :: l

/-- The route to the husk's event history, the latest 32 (R273, R463). -/
def routeHusk (s : State) (e : Nat) : State :=
  if bit (routeOf s e) 13 then
    { s with recs := { s.recs with
        history := lastN 32 (insertStamp { ev := e, time := s.clk.time } s.recs.history.reverse).reverse } }
  else s

/-- The route to EVO k in pulse mode (R463, R466). -/
def routeEvo (e : Nat) (s : State) (k : Nat) : State :=
  if bit (routeOf s e) k && !bit (act s 0x1B00 65) k then
    { s with pins := { s.pins with evoPulse := put s.pins.evoPulse 0 k (s.clk.time + 1) } }
  else s

/-- The EVENT record of the stream (R484, R485). -/
def routeStream (s : State) (e : Nat) : State :=
  if bit (galCtrl s) 0 && bit (act s 0x1980 7) e then record s (bytes 1 0xA1 ++ bytes 1 e ++ bytes 6 s.clk.time) else s

/-- The routes of one raise, but for the counters (R463). -/
def routeEvent (s : State) (e : Nat) : State :=
  let s := routePort (routePort (markEngine (markStatus s e) e) .a 15 e) .b 14 e
  routeStream (each (List.range 8) (routeHusk s e) (routeEvo e)) e

/-- SEL in effect of a counter (R471, R477). -/
def selOf (s : State) (k : Nat) : Nat := if k = 28 then 1 else fld (act s (0x1900 + k) 1) 0 8

/-- Add n occurrences to counter k when its selection is the code. A count that wraps sets OVF; its event 49 comes as
the tick ends, because a zeroing write of this tick takes effect before the additions (R472, R474, R476). -/
def bump (s : State) (k code n : Nat) : State :=
  if selOf s k = code ∧ code ≠ 0 then
    let c := get s.ctrs Ctr.reset k
    let v := c.count + n
    let w := decide (2 ^ 32 ≤ v)
    { s with
      ctrs := put s.ctrs Ctr.reset k { count := v % 2 ^ 32, ovf := c.ovf || w }
      now := { s.now with
        adds := put s.now.adds 0 k (get s.now.adds 0 k + n)
        wraps := if w then setBit s.now.wraps k else s.now.wraps
        due := if w then setBit s.now.due k else s.now.due } }
  else s

/-- The pin-block counters take an event (R463, R471). -/
def offer (s : State) (e : Nat) : State := bump (bump s 38 (0x40 + e) 1) 39 (0x40 + e) 1

/-- The router handles events, which come sorted by number (R463). -/
def route (l : List Nat) (s : State) : State := l.foldl (fun s e => offer (routeEvent s e) e) s

/-- Raise an event in the present tick; the router handles it when the command ends, in increasing event number
among the events of the tick (R463). -/
def raise (s : State) (e : Nat) : State := { s with evq := s.evq ++ [e] }

/-- Insert an event number behind every smaller or equal one. -/
def insertEv (e : Nat) : List Nat → List Nat
  | [] => [e]
  | x :: r => if e < x then e :: x :: r else x :: insertEv e r

/-- Event numbers in increasing order, equal ones in the order of their raises. -/
def sortEv (l : List Nat) : List Nat := l.foldl (fun a e => insertEv e a) []

/-- The capture buffer takes the event history and the counters as long as the crash tick lasts (R264, R272). -/
def captureTick (s : State) : State :=
  match s.recs.cap with
  | some c =>
    if c.fresh ∨ c.crashTime = s.clk.time then
      { s with recs := { s.recs with cap := some { c with
          fresh := false, events := s.recs.history
          counters := (List.range 42).map fun k => (get s.ctrs Ctr.reset k).count } } }
    else s
  | none => s

/-- The router handles the events raised since it last did (R463). -/
def flush (s : State) : State := captureTick (route (sortEv s.evq) { s with evq := [] })

/-- Event 49 for each counter that has wrapped in the tick, and again for those that its own count makes wrap: each of the
two can wrap once, which bounds the rounds (R463, R474). -/
def overflows : Nat → State → State
  | 0, s => s
  | n + 1, s =>
    if s.now.due = 0 then s
    else
      let l := (List.range 42).filter (bit s.now.due)
      overflows n (flush (each l { s with now := { s.now with due := 0 } } fun s _ => raise s 49))

/-- COUNTER(k).SAMPLE (R475, R479). -/
def sampleWord (s : State) (k : Nat) : Nat :=
  let c := get s.ctrs Ctr.reset k
  flg c.ovf 63 + selOf s k * 2 ^ 32 + c.count

/-- A SAMPLE that the tick has read shows what the whole tick has added (R475). -/
def wholeSample (s : State) (x : SampleRead) : State :=
  let v := sampleWord s x.counter
  let key := keyOf (0x1900 + x.counter) 2
  match x.place with
  | .shadow r =>
    match (req s r).shadow with
    | some h => if h.key = key then modReq s r fun q => { q with shadow := some { h with val := v } } else s
    | none => s
  | .job a =>
    { s with odp := { s.odp with job := s.odp.job.map fun j => { j with
        data := j.data.take a ++ bytes 8 v ++ j.data.drop (a + 8) } } }
  | .register rd w =>
    if (get s.eng.w 0 rd).toNat = w then
      let x : Word := BitVec.ofNat 16 (v / 2 ^ 48)
      { s with eng := { s.eng with
          w := put s.eng.w 0 rd x
          z := if s.eng.z = decide (w = 0) then decide (x = 0) else s.eng.z
          n := if s.eng.n = w.testBit 15 then x.msb else s.eng.n } }
    else s
  | .held => { s with eng := { s.eng with read := s.eng.read.map fun _ => v / 2 ^ 48 } }
  | .fetch =>
    { s with twi := { s.twi with fetches := s.twi.fetches.map fun w =>
        if w.time = s.clk.time then
          { w with val := v / 2 ^ 48, cand := w.cand.map fun h => { h with val := v } }
        else w } }

/-- The present tick is over: its overflow events have been raised, and what it has read of a counter shows all of its
additions (R474, R475). -/
def closeTick (s : State) : State :=
  let s := overflows 4 (flush s)
  each s.now.samples s wholeSample

/-- Add occurrences of a code to the counters lo to lo + n − 1 of a block (R471, R472). -/
def occ (s : State) (lo n code times : Nat) : State := each (List.range n) s fun s i => bump s (lo + i) code times

/-- The events of a command have been handled, no crash cause waits, and the queue is the one the command was given. -/
def finish (s t : State) : Host.Outcome State Fault Refusal :=
  .next { flush t with causes := [], pending := s.pending }

def occConv (s : State) (g code n : Nat) : State := occ s (2 * g) 2 code n
def occJudge (s : State) (code : Nat) : State := occ s 16 4 code 1
def occPod (s : State) (code : Nat) : State := occ s 20 4 code 1
def occEng (s : State) (code n : Nat) : State := occ s 24 4 code n
def occDict (s : State) (code n : Nat) : State := occ s 29 1 code n
def occTwi (s : State) (code : Nat) : State := occ s 34 2 code 1
def occNvm (s : State) (code : Nat) : State := occ s 36 2 code 1
def occPins (s : State) (code : Nat) : State := occ s 38 2 code 1
def occLine (s : State) (code : Nat) : State := occ s 40 2 code 1
def occPort (s : State) (p : Port) (code n : Nat) : State :=
  match p with
  | .a => occ s 30 2 code n
  | .b => occ s 32 2 code n

/-- HOSTIF and the engine contend for the store port in this tick (R80, R471). -/
def contend (s : State) : State :=
  if s.now.contended then s else occDict { s with now := { s.now with contended := true } } 4 1

/-- The mode and the pods as the tick before left them (R265, R272). -/
def prior (s : State) : Mode × Map Pod := s.now.before.getD (s.sup.mode, s.sup.pods)

/-- An access that breaks rights or a range leaves only its count (R15, R87). -/
def violation (s : State) : State := occ s 28 1 1 1

/-! ## Mode changes -/

def modeCode : Mode → Nat
  | .boot => 0
  | .standby => 1
  | .ascend => 2
  | .run => 3
  | .descend => 4
  | .crash => 5
  | .service => 6
  | .sleep => 7

/-- Discard one requester's staging buffer and unapplied sets (R65). -/
def discardReq (s : State) (r : Requester) : State :=
  let q := req s r
  if q.staged.isEmpty && q.sets.isEmpty then s
  else
    let s := setReq s r { q with staged := [], sets := [], discarded := true }
    if q.sets.isEmpty then s else occDict s 6 q.sets.length

/-- An open image update ends as if ABORT had been written (R392). -/
def imageEnd (s : State) : State := { s with image := { s.image with openUpd := false, verified := false } }

/-- Change the major mode: event 25 (R340), the MODE record (R485), the discard of R65, the new episode of R258 and
the end of an open image update on leaving SERVICE (R392). -/
def setMode (s : State) (m : Mode) : State :=
  if s.sup.mode = m then s
  else
    let old := s.sup.mode
    let s := { s with sup := { s.sup with mode := m } }
    let s := if old = .standby then { s with recs := { s.recs with episode := (s.recs.episode + 1) % 2 ^ 32 } } else s
    let s := if old = .service then imageEnd s else s
    let s := raise s 25
    let s :=
      if bit (galCtrl s) 1 then
        record s (bytes 1 0xA2 ++ bytes 1 (modeCode old * 16 + modeCode m) ++ bytes 6 s.clk.time)
      else s
    each requesters s discardReq

/-- STANDBY, ASCEND, RUN, DESCEND, CRASH or SERVICE. -/
def serviceable (m : Mode) : Bool :=
  match m with
  | .boot | .sleep => false
  | _ => true

/-- The dictionary is reachable: after STANDBY entry, or in BOOT-HOLD (R361, R373, R374). -/
def reachable (s : State) : Bool := running s && (serviceable s.sup.mode || (decide (s.sup.mode = .boot) && s.boot.hold))

/-! ## The action queue (R178, R179) -/

/-- The flight entry k of a pod as SUPERVISE uses it (R182). -/
def entryOf (s : State) (p k : Nat) : Nat := cfg s (0x1240 + p) (32 + k)
def flightCount (s : State) (p : Nat) : Nat := cfg s (0x1240 + p) 1
def entType (e : Nat) : Nat := fld e 62 2
def entRel (e : Nat) : Nat := fld e 59 3
def entArg (e : Nat) : Nat := fld e 48 8
def entOn (e : Nat) : Nat := fld e 32 16
def entOff (e : Nat) : Nat := fld e 16 16
def entDl (e : Nat) : Nat := fld e 0 16

/-- The entries of a pod's flight, by index. -/
def entries (s : State) (p : Nat) : List (Nat × Nat) := (List.range (flightCount s p)).map fun k => (k, entryOf s p k)

def podUnit (s : State) (p : Nat) : Nat := unitLen (fld (podCfg s p 1) 0 2)

/-- Entries that a pod's transitions and landings hold. -/
def podHeld (q : Pod) : Nat := (q.ents.filter fun e => e.2.queued).length

/-- Entries that a converter's host and engine urgent requests hold until their result is ready (R105). -/
def convHeld (v : Conv) : Nat :=
  ((v.places.drop v.urgentRun).filter fun e => match e.2.src with | .port _ => true | _ => false).length +
  (match v.pend with
   | some u => (match u.src with | .port _ => 1 | _ => 0)
   | none => 0)

/-- Entries that a channel's margin and pip hold (R294, R299). -/
def marginHeld (m : Margin) : Nat :=
  match m.st with
  | .idle => 0
  | .pipBaseline | .pipCapture => if m.fromReached then 2 else 1
  | _ => 1

/-- Action-queue entries held (R178). -/
def aqHeld (s : State) : Nat :=
  (s.sup.pods.map fun e => podHeld e.2).sum + (s.sup.convs.map fun e => convHeld e.2).sum +
  (s.sup.margins.map fun e => marginHeld e.2).sum + s.eng.tacts.length

/-- The reserved count of R179: rail entries of RISING and FALLING pods whose transition has neither taken a queue
entry nor been completed or abandoned. -/
def podReserved (s : State) (p : Nat) : Nat :=
  let q := pod s p
  if !q.inUse then 0
  else
    ((entries s p).filter fun (k, e) =>
      decide (entType e = 1) &&
      (let x := get q.ents EntrySt.reset k
       match q.st with
       | .rising => (!x.reached || q.cooldown.isSome) && !x.queued && !q.frozen
       | .falling => ((x.reached && !x.swOff) || x.wantsQ) && !x.queued
       | _ => false)).length

def aqReserved (s : State) : Nat := (podNums.map (podReserved s)).sum

def aqFree (s : State) : Nat := 96 - aqHeld s

/-- An action that is not a pod-unit action is admitted only when the free entries exceed the reserved count (R179). -/
def aqAdmits (s : State) : Bool := decide (aqReserved s < aqFree s)

end Sys2Proof.Machine
end

