-- ==== Sys2Proof/Machine/Lockstep.lean ====
section
/-!
DEFINITION. The second copy of SUPERVISE (R29): its registers, what makes it stand otherwise than the first, and the
comparison. A register is named by its block, the block's number and its place in the structure of State.
-/
namespace Sys2Proof.Machine

/-! ## One register stands otherwise -/

/-- A register of a channel. -/
def upsetChan (x : Chan) (n v : Nat) : Chan :=
  match n with
  | 0 => { x with raw := x.raw ^^^ v }
  | 1 => { x with scaled := x.scaled + Int.ofNat v }
  | 2 => { x with slot := x.slot ^^^ v }
  | 3 => { x with disp := !x.disp }
  | 4 => { x with kindEff := x.kindEff ^^^ v }
  | 5 => { x with cfgErr := !x.cfgErr }
  | 6 => { x with enable := !x.enable }
  | 7 => { x with st := if x.st = .off then .rising else .off }
  | 8 => { x with ov := x.ov ^^^ v }
  | 9 => { x with uv := x.uv ^^^ v }
  | 10 => { x with owc := x.owc ^^^ v }
  | 11 => { x with uwc := x.uwc ^^^ v }
  | 12 => { x with pgc := x.pgc ^^^ v }
  | 13 => { x with settle := x.settle ^^^ v }
  | 14 => { x with chatter := x.chatter ^^^ v }
  | 15 => { x with ovf := !x.ovf }
  | 16 => { x with uvf := !x.uvf }
  | 17 => { x with ovw := !x.ovw }
  | 18 => { x with uvw := !x.uvw }
  | 19 => { x with pg := !x.pg }
  | 20 => { x with disch := !x.disch }
  | 21 => { x with belowDis := !x.belowDis }
  | 22 => { x with failedEarly := !x.failedEarly }
  | 23 => { x with thrErr := !x.thrErr }
  | 24 => { x with pairErr := !x.pairErr }
  | 25 => { x with pairMm := !x.pairMm }
  | 26 => { x with pairCnt := x.pairCnt ^^^ v }
  | 27 => { x with pairCompared := !x.pairCompared }
  | 28 => { x with pairDiff := x.pairDiff + Int.ofNat v }
  | 29 => { x with wasRunning := !x.wasRunning }
  | 30 => { x with good := if x.good.isSome then none else some v }
  | 31 => { x with chatFail := if x.chatFail.isSome then none else some v }
  | 32 => { x with descFault := !x.descFault }
  | _ => x

/-- A register of a flight entry. -/
def upsetEntrySt (x : EntrySt) (n v : Nat) : EntrySt :=
  match n with
  | 0 => { x with reached := !x.reached }
  | 1 => { x with waiting := !x.waiting }
  | 2 => { x with start := x.start ^^^ v }
  | 3 => { x with good := !x.good }
  | 4 => { x with swOff := !x.swOff }
  | 5 => { x with offFrame := x.offFrame ^^^ v }
  | 6 => { x with disd := !x.disd }
  | 7 => { x with queued := !x.queued }
  | 8 => { x with wantsQ := !x.wantsQ }
  | _ => x

/-- A register of a converter. -/
def upsetConv (x : Conv) (n v : Nat) : Conv :=
  match n with
  | 0 => { x with regs := put x.regs 0 v (get x.regs 0 v ^^^ 1) }
  | 1 => { x with disp14 := if x.disp14.isSome then none else some v }
  | 2 => { x with disp15 := if x.disp15.isSome then none else some v }
  | 3 => { x with urgentRun := x.urgentRun ^^^ v }
  | 4 => { x with overruns := x.overruns ^^^ v }
  | 5 => { x with failA := !x.failA }
  | 6 => { x with failB := !x.failB }
  | 7 => { x with cntA := x.cntA ^^^ v }
  | 8 => { x with cntB := x.cntB ^^^ v }
  | 9 => { x with expA := x.expA ^^^ v }
  | 10 => { x with expB := x.expB ^^^ v }
  | _ => x

/-- A register of a pod. -/
def upsetPod (x : Pod) (n v : Nat) : Pod :=
  match n with
  | 0 => { x with st := if x.st = .off then .rising else .off }
  | 1 => { x with inUse := !x.inUse }
  | 2 => { x with parent := if x.parent.isSome then none else some v }
  | 3 => { x with depth := x.depth ^^^ v }
  | 4 => { x with treeErr := !x.treeErr }
  | 5 => { x with fc := x.fc ^^^ v }
  | 6 => { x with k := x.k ^^^ v }
  | 7 => { x with held := !x.held }
  | 8 => { x with hf := x.hf ^^^ v }
  | 9 => { x with queueWait := !x.queueWait }
  | 10 => { x with latched := !x.latched }
  | 11 => { x with cooldown := if x.cooldown.isSome then none else some v }
  | 12 => { x with retryActive := !x.retryActive }
  | 13 => { x with retriesUsed := x.retriesUsed ^^^ v }
  | 14 => { x with exhausted := !x.exhausted }
  | 15 => { x with failCause := if x.failCause.isSome then none else some .deadline }
  | 16 => { x with failEntry := x.failEntry ^^^ v }
  | 17 => { x with failFrame := x.failFrame ^^^ v }
  | 18 => { x with startFrame := x.startFrame ^^^ v }
  | 19 => { x with failedLast := !x.failedLast }
  | 20 => { x with dc := x.dc ^^^ v }
  | 21 => { x with timeout := !x.timeout }
  | 22 => { x with descFault := !x.descFault }
  | 23 => { x with disFault := !x.disFault }
  | 24 => { x with gate := x.gate ^^^ v }
  | 25 => { x with relHost := !x.relHost }
  | 26 => { x with relEng := !x.relEng }
  | 27 => { x with relLine := !x.relLine }
  | 28 => { x with frozen := !x.frozen }
  | 29 => { x with descFrame := x.descFrame ^^^ v }
  | 30 => { x with failPend := !x.failPend }
  | _ => x

/-- A register of a discharge member. -/
def upsetDis (x : Dis) (n v : Nat) : Dis :=
  match n with
  | 0 => { x with opening := !x.opening }
  | 1 => { x with swOff := !x.swOff }
  | 2 => { x with disd := !x.disd }
  | 3 => { x with offFrame := x.offFrame ^^^ v }
  | 4 => { x with out := if x.out.isSome then none else some v }
  | _ => x

/-- A register of a margin servo. -/
def upsetMargin (x : Margin) (n v : Nat) : Margin :=
  match n with
  | 0 => { x with st := if x.st = .idle then .servoing else .idle }
  | 1 => { x with code := x.code + Int.ofNat v }
  | 2 => { x with outEn := !x.outEn }
  | 3 => { x with rc := x.rc ^^^ v }
  | 4 => { x with target := x.target ^^^ v }
  | 5 => { x with cut := !x.cut }
  | 6 => { x with fromReached := !x.fromReached }
  | 7 => { x with pipP := x.pipP ^^^ v }
  | 8 => { x with pipH := x.pipH ^^^ v }
  | 9 => { x with pipBand := x.pipBand ^^^ v }
  | 10 => { x with pipGuard := x.pipGuard ^^^ v }
  | 11 => { x with pipStep := x.pipStep + Int.ofNat v }
  | 12 => { x with pipCode0 := x.pipCode0 + Int.ofNat v }
  | 13 => { x with pipBaseNow := x.pipBaseNow ^^^ v }
  | 14 => { x with base := v :: x.base }
  | 15 => { x with caps := v :: x.caps }
  | 16 => { x with pipOut := !x.pipOut }
  | 17 => { x with pipResult := x.pipResult ^^^ v }
  | 18 => { x with pipGain := x.pipGain ^^^ v }
  | 19 => { x with pipBase := x.pipBase ^^^ v }
  | 20 => { x with pipFrame := x.pipFrame ^^^ v }
  | 21 => { x with pipStatus := x.pipStatus ^^^ v }
  | _ => x

/-- A register of the crash latch. -/
def upsetCrash (x : Crash) (n v : Nat) : Crash :=
  match n with
  | 0 => { x with latched := !x.latched }
  | 1 => { x with originator := !x.originator }
  | 2 => { x with clearing := !x.clearing }
  | 3 => { x with cause := x.cause ^^^ v }
  | 4 => { x with source := x.source ^^^ v }
  | 5 => { x with time := x.time ^^^ v }
  | 6 => { x with frame := x.frame ^^^ v }
  | 7 => { x with slot := x.slot ^^^ v }
  | 8 => { x with noArb := !x.noArb }
  | 9 => { x with clearStat := x.clearStat ^^^ v }
  | 10 => { x with autoUsed := x.autoUsed ^^^ v }
  | 11 => { x with auto := !x.auto }
  | 12 => { x with lockNext := !x.lockNext }
  | 13 => { x with arbResult := x.arbResult ^^^ v }
  | 14 => { x with arbTime := x.arbTime ^^^ v }
  | 15 => { x with ownTime := x.ownTime ^^^ v }
  | _ => x

/-- A register of the fault-line unit. -/
def upsetLine (x : Line) (n v : Nat) : Line :=
  match n with
  | 0 => { x with role := if x.role = .stopped then .listening else .stopped }
  | 1 => { x with index := x.index ^^^ v }
  | 2 => { x with base := x.base ^^^ v }
  | 3 => { x with start := x.start ^^^ v }
  | 4 => { x with age := x.age ^^^ v }
  | 5 => { x with listenAt := x.listenAt ^^^ v }
  | 6 => { x with sendFrom := x.sendFrom ^^^ v }
  | 7 => { x with cycle := x.cycle ^^^ v }
  | 8 => { x with present := x.present ^^^ v }
  | 9 => { x with seen := x.seen ^^^ v }
  | 10 => { x with joined := x.joined ^^^ v }
  | 11 => { x with lost := x.lost ^^^ v }
  | 12 => { x with absent := x.absent ^^^ v }
  | 13 => { x with misses := put x.misses 0 v (get x.misses 0 v ^^^ 1) }
  | 14 => { x with judged := x.judged ^^^ v }
  | 15 => { x with syncSeen := !x.syncSeen }
  | 16 => { x with syncDrive := if x.syncDrive.isSome then none else some v }
  | 17 => { x with hbDrive := if x.hbDrive.isSome then none else some v }
  | 18 => { x with pending := if x.pending.isSome then none else some true }
  | 19 => { x with cmdCycle := x.cmdCycle ^^^ v }
  | 20 => { x with firstPulse := if x.firstPulse.isSome then none else some v }
  | 21 => { x with faultCycle := !x.faultCycle }
  | 22 => { x with low := !x.low }
  | 23 => { x with others := !x.others }
  | 24 => { x with wait := x.wait ^^^ v }
  | 25 => { x with fall := x.fall ^^^ v }
  | 26 => { x with rise := x.rise ^^^ v }
  | 27 => { x with fault := !x.fault }
  | 28 => { x with faultEnd := x.faultEnd ^^^ v }
  | 29 => { x with faultFrame := !x.faultFrame }
  | 30 => { x with faultAt := if x.faultAt.isSome then none else some v }
  | 31 => { x with holding := !x.holding }
  | 32 => { x with origHold := !x.origHold }
  | 33 => { x with arb := if x.arb = .none then .hold else .none }
  | 34 => { x with quiet := !x.quiet }
  | 35 => { x with rejoin := !x.rejoin }
  | 36 => { x with arbLow := x.arbLow ^^^ v }
  | _ => x

/-- A register of the supply monitor. -/
def upsetSupply (x : Supply) (n v : Nat) : Supply :=
  match n with
  | 0 => { x with vaux := x.vaux ^^^ v }
  | 1 => { x with v33 := x.v33 ^^^ v }
  | 2 => { x with v09 := x.v09 ^^^ v }
  | 3 => { x with banks := x.banks ^^^ v }
  | 4 => { x with warn := x.warn ^^^ v }
  | 5 => { x with vauxMin := x.vauxMin ^^^ v }
  | 6 => { x with tj := x.tj ^^^ v }
  | 7 => { x with tjMax := x.tjMax ^^^ v }
  | 8 => { x with tempWarn := !x.tempWarn }
  | 9 => { x with measured := if x.measured.isSome then none else some v }
  | _ => x

/-- Another mode, in the mode register of one copy. -/
def otherMode (m : Mode) : Mode := if m = .crash then .standby else .crash

/-- A register of the mode control, or of the values that the store presents with it. -/
def upsetMode (u : Sup) (n v : Nat) : Sup :=
  match n with
  | 0 => { u with mode := otherMode u.mode }
  | 1 => { u with bootHold := !u.bootHold }
  | 2 => { u with aqHeld := u.aqHeld ^^^ v }
  | 3 => { u with aqRes := u.aqRes ^^^ v }
  | 4 => { u with lastCommit := u.lastCommit ^^^ v }
  | 5 => { u with bootDone := u.bootDone ^^^ v }
  | _ => u

/-- A register of a supervision block. -/
def upsetSup (u : Sup) (b : SupBlock) (i n v : Nat) : Sup :=
  match b with
  | .mode => upsetMode u n v
  | .chan => { u with chans := put u.chans Chan.reset i (upsetChan (get u.chans Chan.reset i) n v) }
  | .conv => { u with convs := put u.convs Conv.reset i (upsetConv (get u.convs Conv.reset i) n v) }
  | .pod => { u with pods := put u.pods Pod.reset i (upsetPod (get u.pods Pod.reset i) n v) }
  | .entry =>
    let q := get u.pods Pod.reset (i / 32)
    let ents := put q.ents EntrySt.reset (i % 32) (upsetEntrySt (get q.ents EntrySt.reset (i % 32)) n v)
    { u with pods := put u.pods Pod.reset (i / 32) { q with ents := ents } }
  | .dis => { u with dis := put u.dis Dis.reset i (upsetDis (get u.dis Dis.reset i) n v) }
  | .margin => { u with margins := put u.margins Margin.reset i (upsetMargin (get u.margins Margin.reset i) n v) }
  | .crash => { u with crash := upsetCrash u.crash n v }
  | .line => { u with line := upsetLine u.line n v }
  | .supply => { u with supply := upsetSupply u.supply n v }
  | .events => { u with evStatus := u.evStatus ^^^ v }
  | .dict | .latched | .requester | .queue | .snapshot => u

/-- What the store keeps for a requester. -/
def upsetReq (q : ReqState) (n v : Nat) : ReqState :=
  match n with
  | 0 => { q with overflow := !q.overflow }
  | 1 => { q with discarded := !q.discarded }
  | 2 => { q with applied := !q.applied }
  | 3 => { q with staged := (v, 1) :: q.staged }
  | 4 => { q with sets := [] :: q.sets }
  | 5 => { q with shadow := if q.shadow.isSome then none else some { key := v, val := 0, words := 2 } }
  | 6 => { q with gather := if q.gather.isSome then none else some { key := v, words := [0] } }
  | 7 => { q with key := if q.key = .idle then .half else .idle }
  | 8 => { q with modeStat := q.modeStat ^^^ v }
  | 9 => { q with cmdStat := q.cmdStat ^^^ v }
  | 10 => { q with urgentStat := put q.urgentStat 0 v (get q.urgentStat 0 v ^^^ 1) }
  | 11 => { q with podStat := put q.podStat 0 v (get q.podStat 0 v ^^^ 1) }
  | 12 => { q with marginStat := put q.marginStat 0 v (get q.marginStat 0 v ^^^ 1) }
  | 13 => { q with pinMask := q.pinMask ^^^ v }
  | 14 => { q with lockHalf := !q.lockHalf }
  | 15 => { q with progAddr := q.progAddr ^^^ v }
  | 16 => { q with galAddr := q.galAddr ^^^ v }
  | 17 => { q with viewK := { q.viewK with select := q.viewK.select ^^^ v } }
  | 18 => { q with viewH := { q.viewH with select := q.viewH.select ^^^ v } }
  | 19 => { q with viewS := { q.viewS with select := q.viewS.select ^^^ v } }
  | _ => q

/-- A bank of the snapshot, its current one or its pinned one. -/
def upsetSnapshot (u : Copy) (n v : Nat) : Copy :=
  match n with
  | 0 => { u with bank0 := { u.bank0 with evStatus := u.bank0.evStatus ^^^ v } }
  | 1 => { u with bank1 := { u.bank1 with evStatus := u.bank1.evStatus ^^^ v } }
  | 2 => { u with bank2 := { u.bank2 with evStatus := u.bank2.evStatus ^^^ v } }
  | 3 => { u with bankCur := (u.bankCur + 1) % 3 }
  | 4 => { u with bankPin := if u.bankPin.isSome then none else some (v % 3) }
  | _ => u

/-- A register of a block of SUPERVISE. -/
def upsetRegister (u : Copy) (b : SupBlock) (i n v : Nat) : Copy :=
  match b with
  | .dict => { u with dict := put u.dict (defaultOf i) i (get u.dict (defaultOf i) i ^^^ v) }
  | .latched => { u with latched := put u.latched (defaultOf i) i (get u.latched (defaultOf i) i ^^^ v) }
  | .requester =>
    match i with
    | 0 => { u with reqA := upsetReq u.reqA n v }
    | 1 => { u with reqB := upsetReq u.reqB n v }
    | 2 => { u with reqT := upsetReq u.reqT n v }
    | _ => { u with reqE := upsetReq u.reqE n v }
  | .queue =>
    { u with accepted := if u.accepted.isEmpty then [{ ask := .rise (v % 48), src := .pin, time := 0 }] else u.accepted.drop 1 }
  | .snapshot => upsetSnapshot u n v
  | b => { u with sup := upsetSup u.sup b i n v }

/-- An output of one copy stands the other way. -/
def upsetOutput (u : Sup) : SupPart → Sup
  | .enable c =>
    let ch := get u.chans Chan.reset c
    { u with chans := put u.chans Chan.reset c { ch with enable := !ch.enable } }
  | .margin c =>
    let m := get u.margins Margin.reset c
    { u with margins := put u.margins Margin.reset c { m with outEn := !m.outEn } }
  | .dis n =>
    let out := u.disOut.any fun e => decide (e.1 = n)
    { u with disOut := if out then del u.disOut n else ins u.disOut n { chan := 0, owner := none } }
  | .safeN => { u with mode := otherMode u.mode }
  | .flt => { u with line := { u.line with holding := !u.line.holding } }
  | .register _ _ _ _ => u

/-- An output of one copy stands the other way, or one of its registers does. -/
def upset (u : Copy) (x : SupPart) : Copy :=
  match x with
  | .register b i n v => upsetRegister u b i n v
  | _ => { u with sup := upsetOutput u.sup x }

/-! ## The two copies (R29) -/

/-- What the first copy of SUPERVISE holds. -/
def firstCopy (s : State) : Copy where
  sup := s.sup
  dict := s.dict
  latched := s.latched
  bank0 := s.bank0
  bank1 := s.bank1
  bank2 := s.bank2
  bankCur := s.bankCur
  bankPin := s.bankPin
  reqA := s.reqA
  reqB := s.reqB
  reqT := s.reqT
  reqE := s.reqE
  accepted := s.accepted

/-- The second copy of SUPERVISE. -/
def secondCopy (s : State) : Copy := s.twin.getD (firstCopy s)

/-- The device with another copy in the place of the first one, which takes the place of the second. -/
def swapCopy (s : State) (u : Copy) : State := { s with
  sup := u.sup
  dict := u.dict
  latched := u.latched
  bank0 := u.bank0
  bank1 := u.bank1
  bank2 := u.bank2
  bankCur := u.bankCur
  bankPin := u.bankPin
  reqA := u.reqA
  reqB := u.reqB
  reqT := u.reqT
  reqE := u.reqE
  accepted := u.accepted
  twin := some (firstCopy s) }

/-- The second copy, with the registers listed standing otherwise. -/
def upsetCopy (s : State) (l : List SupPart) : State := { s with twin := some (l.foldl upset (secondCopy s)) }

/-- What the first copy does, `f`, the second does on the same inputs; a reset leaves both alike (R29, R48). What lies outside
SUPERVISE follows the first copy. -/
def bothCopies (s : State) (f : State → State) : State :=
  let t := f s
  match s.twin, t.twin with
  | some v, some _ => { t with twin := some (firstCopy (flush (f (swapCopy s v)))) }
  | _, _ => t

/-- A disagreement found in a tick, noted in one copy (R30). -/
def noteMismatch (u : Sup) : Sup := { u with crash := { u.crash with lockNext := true } }

/-- The comparison of a tick (R29): as long as one output or register of the second copy stands otherwise the copies
disagree, and the device crashes in the next tick (R30); in BOOT and SLEEP nothing begins a crash (R215). -/
def compareCopies (s : State) : State :=
  match s.twin with
  | none => s
  | some v =>
    let s := flush s
    if v = firstCopy s then { s with twin := none }
    else if s.sup.mode = .boot ∨ s.sup.mode = .sleep then s
    else { s with sup := noteMismatch s.sup, twin := some { v with sup := noteMismatch v.sup } }

/-- What every meaning answers: a next state in which both copies of SUPERVISE have done the same, in which the tick's
events have been handled and no crash cause waits, and whose queue is the one it was given. No command of this block
stops. -/
def done (s : State) (f : State → State) : Host.Outcome State Fault Refusal := finish s (bothCopies s f)

end Sys2Proof.Machine
end

