-- ==== Sys2Proof/Machine/Rings.lean ====
section
/-!
DEFINITION. The three record rings as places in the NVM (R255), torn slots (R262), and the coalescing table of
summary candidates (R274 to R278).
-/
namespace Sys2Proof.Machine

/-! ## Slots (R255) -/

def kernelAddr (n : Nat) : Nat := 0x40000 + 256 * n
def huskAddr (n : Nat) : Nat := 0x60000 + 4096 * n
def sumAddr (n : Nat) : Nat := 0xA0000 + 32 * n

def modRec (s : State) (f : Rec → Rec) : State := { s with recs := f s.recs }

/-- Write bytes into the NVM (R255). -/
def store (s : State) (addr : Nat) (bs : List Byte) : State := setNvm s (nvmPut s.recs.nvm addr bs)

/-- The bytes of a slot whose write did not verify: the first `keep` bytes are the record's, the CRC field is wrong
and the rest is open (R262, log 8). -/
def tornRecord (fresh addr : Nat) (r : List Byte) (keep crcOff : Nat) : List Byte :=
  let body := r.take keep ++ (List.range (r.length - keep)).map fun i => Config.tornByte fresh (addr + keep + i)
  body.take crcOff ++ bytes 4 (crcSkip body crcOff ^^^ (1 + Config.tornCrc fresh % (2 ^ 32 - 1))) ++
    body.drop (crcOff + 4)

/-- Leave a slot torn (R262, R268, R269, R271). -/
def storeTorn (s : State) (addr : Nat) (r : List Byte) (keep crcOff : Nat) : State :=
  { store s addr (tornRecord s.fresh addr r keep crcOff) with fresh := s.fresh + 1 }

/-- A husk write in progress is abandoned and its slot left torn (R268, R271). The slot is the husk ring's next. -/
def abandonHusk (s : State) : State :=
  match s.recs.huskBusy with
  | none => s
  | some _ =>
    let s := storeTorn s (huskAddr s.recs.husk.next) (bytes 2 0x4801 ++ zeros 4094) 2 0xFFC
    modRec s fun r => { r with huskBusy := none }

/-- A chunk write that has not ended leaves its bytes open (R389, log 8). -/
def tornChunk (s : State) : State :=
  match s.image.chunk with
  | none => s
  | some c =>
    let bs := (List.range c.bytes.length).map fun i => Config.tornByte s.fresh (c.addr + i)
    { store s c.addr bs with fresh := s.fresh + 1, image := { s.image with chunk := none } }

/-- DESIGN CHOICE: a record write that a reset other than a collapse cuts leaves every byte of its slot open (R269, R271,
R277 and R358 do not speak of it; log 8, log 19). -/
def cutWrite (s : State) (addr n : Nat) : State :=
  { store s addr ((List.range n).map fun i => Config.tornByte s.fresh (addr + i)) with fresh := s.fresh + 1 }

/-! ## Summary candidates (R276) -/

/-- LOG_SEL admits the kind (R259, R286). -/
def kindOn (s : State) (kind : Nat) : Bool :=
  if kind = 3 then bit (act s 0x1700 2) 0 else if kind = 4 then bit (act s 0x1700 2) 1 else true

/-- The coalescing report becomes pending, with event 38 (R276). -/
def noteReport (s : State) (frame : Nat) : State :=
  match s.recs.report with
  | some _ => s
  | none => raise (modRec s fun r => { r with report := some (frame, r.episode) }) 38

def sameKey (e : Coal) (kind cause source : Nat) : Bool :=
  decide (e.kind = kind ∧ e.cause = cause ∧ e.source = source)

/-- The count and the latest frame of a merged entry; the data of the first occurrence stay (R276). -/
def merge (frame : Nat) (e : Coal) : Coal := { e with count := incSat e.count 65535, last := frame }

/-- One summary candidate (R276). -/
def candidate (s : State) (kind cause source frame d0 d1 : Nat) : State :=
  if !kindOn s kind then s
  else
    let r := s.recs
    if r.coal.any fun e => sameKey e kind cause source then
      let s := modRec s fun r => { r with
        coal := r.coal.map fun e => if sameKey e kind cause source then merge frame e else e
        mrg := incSat r.mrg 0xFFFFFFFF
        coalTotal := r.coalTotal + 1 }
      noteReport (occNvm s 7) frame
    else if r.coal.length < 32 then
      modRec s fun r => { r with coal := r.coal ++ [{
        kind := kind, cause := cause, source := source, count := 1, first := frame, last := frame,
        ep := r.episode, d0 := d0, d1 := d1 }] }
    else
      let s := modRec s fun r => { r with lost := incSat r.lost 0xFFFFFFFF, lostTotal := r.lostTotal + 1 }
      noteReport (occNvm s 8) frame

/-- The raw value of a channel in the high half of DATA0 (R275). -/
def rawHigh (s : State) (c : Nat) : Nat := (chan s c).raw * 65536

/-- A KIND 1 candidate: a later fault of the episode (R216, R259, R275). -/
def laterFault (s : State) (cause source : Nat) : State :=
  candidate s 1 cause source (frame s) (if cause ≤ 3 then rawHigh s source else 0) 0

/-- DATA0 of a KIND 2 candidate (R275). -/
def faultData (raw pod cause : Nat) : Nat := raw * 65536 + pod * 256 + cause

end Sys2Proof.Machine
end

