-- ==== Sys2Proof/Machine/Discharge.lean ====
section
/-!
DEFINITION. The rails of the pod tree and active discharge: DIS outputs, watches and discharge faults
(R142, R201 to R209).
-/
namespace Sys2Proof.Machine

/-- The pods in use, in increasing number (R141). -/
def podsInUse (s : State) : List Nat := podNums.filter fun p => (pod s p).inUse

/-- The rail entries of a pod's flight, as entry index and channel (R182). -/
def railEntries (s : State) (p : Nat) : List (Nat × Nat) :=
  (entries s p).filterMap fun (k, e) => if entType e = 1 then some (k, entArg e) else none

/-- The child-pod entries of a pod's flight, as entry index and pod (R182). -/
def childEntries (s : State) (p : Nat) : List (Nat × Nat) :=
  (entries s p).filterMap fun (k, e) => if entType e = 2 then some (k, entArg e) else none

/-- The pod in use whose flight names the channel as a rail (R142). -/
def railOwner (s : State) (c : Nat) : Option Nat :=
  (podsInUse s).find? fun p => (railEntries s p).any fun e => decide (e.2 = c)

/-! ## DIS_CFG (R211) -/

def disCfg (s : State) (c : Nat) : Nat := chanCfg s c 24
def disEn (v : Nat) : Bool := bit v 0
def disSupervised (v : Nat) : Bool := bit v 1
def disOnCrash (v : Nat) : Bool := bit v 2
def disUnitOf (v : Nat) : Nat := unitLen (fld v 16 2)
def disEnvCount (v : Nat) : Nat := fld v 18 4
def disOutOf (v : Nat) : Nat := fld v 22 4
def disPodOf (v : Nat) : Nat := fld v 26 6
def disOffDelay (v : Nat) : Nat := fld v 32 16
def disLimit (v : Nat) : Nat := fld v 48 16

/-- The owning pod of a channel's DIS output: the pod whose flight names the channel, or DIS_POD (R202). -/
def disOwner (s : State) (c : Nat) : Nat :=
  match railOwner s c with
  | some p => p
  | none => disPodOf (disCfg s c)

/-- The discharge-only members of a pod, in increasing channel number (R185). -/
def disOnly (s : State) (p : Nat) : List Nat :=
  channels.filter fun c =>
    let v := disCfg s c
    disEn v && decide (disPodOf v = p) && (railOwner s c).isNone

/-! ## Outputs -/

/-- What an output that is not asserted reads as. -/
def noOut : DisOut := { chan := 96, owner := none }

def disOut (s : State) (n : Nat) : DisOut := get s.sup.disOut noOut n

def setDisOut (s : State) (n : Nat) (v : DisOut) : State :=
  { s with sup := { s.sup with disOut := put s.sup.disOut noOut n v } }

/-- Output n is asserted (R202). -/
def asserted (s : State) (n : Nat) : Bool := !decide (disOut s n = noOut)

/-- Open a watch whose first frame is A (R203, R204). -/
def openWatch (s : State) (c a : Nat) : State :=
  modDis s c fun d => { d with
    watch := some { first := a, ec := 0, sup := disSupervised (disCfg s c), reached := false }, opening := false }

def closeWatch (s : State) (c : Nat) : State := modDis s c fun d => { d with watch := none, opening := false }

/-- The output asserted by a channel's member takes its new owner; the earlier one loses its watch (R202, R207). -/
def assertOut (s : State) (c : Nat) : State :=
  let n := disOutOf (disCfg s c)
  let old := disOut s n
  let s := if old = noOut ∨ old.chan = c then s else closeWatch s old.chan
  setDisOut (modDis s c fun d => { d with out := some n }) n { chan := c, owner := some (disOwner s c) }

/-- A channel's DIS output asserts at a boundary and its watch opens (R202, R203). -/
def assertDis (s : State) (c a : Nat) : State := openWatch (assertOut s c) c a

/-- The same for an output that is not asserted yet (R192). -/
def assertDisNew (s : State) (c a : Nat) : State :=
  if asserted s (disOutOf (disCfg s c)) then s else assertDis s c a

/-- A flagged DIS output asserts in the crash tick, and one that is asserted stays so; the watch waits for the first
boundary after the crash (R198, R203, R217). -/
def assertAtCrash (s : State) (c : Nat) : State :=
  let v := disCfg s c
  if disEn v && disOnCrash v && !asserted s (disOutOf v) then modDis (assertOut s c) c fun d => { d with opening := true }
  else s

/-- The watches of a crash open at the boundary that opens frame a (R203). -/
def openCrashWatches (s : State) (a : Nat) : State :=
  each channels s fun s c => if (dis s c).opening then openWatch s c a else s

/-- An output is released and its channel's watch closes without a result (R202, R206). DESIGN CHOICE: so it does where the
channel has asserted another output since, which stays asserted (R207; log 34). -/
def releaseDis (s : State) (n : Nat) : State :=
  if asserted s n then closeWatch (setDisOut s n noOut) (disOut s n).chan else s

/-- Every output is released (R201, R37). -/
def releaseAllDis (s : State) : State := each (List.range 16) s releaseDis

/-- A common start of a pod releases the outputs that it owned when they asserted (R202, R206, R207). -/
def releaseOwned (s : State) (p : Nat) : State :=
  each (List.range 16) s fun s n => if asserted s n && decide ((disOut s n).owner = some p) then releaseDis s n else s

/-! ## Discharge supervision (R204, R205) -/

/-- The pod that DIS_FAULT marks: the owner when the output of the watch asserted (R205, R207). -/
def faultPod (s : State) (c : Nat) : Nat :=
  match (dis s c).out.bind (disOut s · |>.owner) with
  | some p => p
  | none => disOwner s c

/-- A discharge fault: cause 1 ENVELOPE or 2 LIMIT, attributed to a frame (R205, R259, R275). -/
def disFault (s : State) (c cause f : Nat) : State :=
  let p := faultPod s c
  let s := raise s 5
  let s := if p < 48 then modPod s p fun q => { q with disFault := true } else s
  candidate s 2 15 c f (faultData (chan s c).raw p cause) 0

def setWatch (s : State) (c : Nat) (w : Watch) : State := modDis s c fun d => { d with watch := some w }

/-- The highest raw value that the envelope allows x frames after A (R204). -/
def envLimit (s : State) (c x : Nat) : Nat :=
  let v := disCfg s c
  let i := ((List.range (disEnvCount v)).filter fun i =>
    decide (fld (chanCfg s c (25 + i)) 16 16 * disUnitOf v ≤ x)).getLastD 0
  fld (chanCfg s c (25 + i)) 0 16

/-- DISCHARGED as it applies: 1 for a logic channel (R121). -/
def disLevel (s : State) (c : Nat) : Nat := if (chan s c).kindEff = 2 then 1 else chanCfg s c 13

/-- The discharge judgement of a scheduled sample (R204, R207). DESIGN CHOICE: where SUPERVISED is cleared and set again
during one watch, the checks resume with the count they had (log 34). -/
def disJudge (s : State) (c raw f : Nat) : State :=
  match (dis s c).watch with
  | none => s
  | some w =>
    if w.reached then s
    else if raw < disLevel s c then setWatch s c { w with reached := true }
    else
      let v := disCfg s c
      if w.sup && disSupervised v && decide (0 < disEnvCount v) then
        let ec := if envLimit s c (f - w.first) < raw then incSat w.ec 16 else 0
        if chanCfg s c 14 ≤ ec then disFault (setWatch s c { w with ec := ec, sup := false }) c 1 f
        else setWatch s c { w with ec := ec }
      else s

/-- The limit of a watch has passed when frame b opens (R204). -/
def disLimitDue (s : State) (c b : Nat) : Bool :=
  match (dis s c).watch with
  | none => false
  | some w =>
    let v := disCfg s c
    !w.reached && w.sup && disSupervised v && decide (w.first + disLimit v * disUnitOf v ≤ b)

/-- The limit check of one channel at the boundary that opens frame b (R204). -/
def disBoundary (s : State) (c b : Nat) : State :=
  if disLimitDue s c b then
    match (dis s c).watch with
    | some w => disFault (setWatch s c { w with sup := false }) c 2 (b - 1)
    | none => s
  else s

end Sys2Proof.Machine
end

