-- ==== Sys2Proof/Machine/Crash.lean ====
section
/-!
DEFINITION. The crash tick: causes in their order, the latch, the released outputs and the capture (R214 to R218,
R176, R264, R303, R326).
-/
namespace Sys2Proof.Machine

/-! ## What the records show of a pod (R183) -/

def podCode : PodSt → Nat
  | .off => 0
  | .rising => 1
  | .on => 2
  | .falling => 3
  | .failed => 4
  | .crashed => 5

/-- POD_LIVE.STATE (R183). -/
def podWord (q : Pod) : Nat :=
  flg q.inUse 10 + flg q.treeErr 9 + flg q.failedLast 8 + flg q.queueWait 7 + flg q.latched 6 +
  flg q.cooldown.isSome 5 + flg q.retryActive 4 + flg q.held 3 + podCode q.st

/-- The pod whose flight names the source channel, or the source pod (R265). -/
def podOfSource (s : State) (code src : Nat) : Option Nat :=
  if 1 ≤ code ∧ code ≤ 3 then railOwner s src
  else if code = 6 ∨ code = 7 then some (src - 0x80)
  else none

/-- POD_INFO of a kernel record (R265). -/
def podInfo (s : State) (pods : Map Pod) (code src : Nat) : Nat :=
  match podOfSource s code src with
  | some p => p * 256 + podCode (get pods Pod.reset p).st
  | none => 0xFF00

/-! ## What a crash releases -/

/-- The partner of an analog paired channel (R88). -/
def partner (s : State) (c : Nat) : Option Nat :=
  let v := chanCfg s c 2
  if (chan s c).kindEff = 3 ∧ v < 96 then some v else none

/-- Forget the mismatch count of a pair half (R135, R140). -/
def clearPair (ch : Chan) : Chan := { ch with pairCnt := 0, pairMm := false }

/-- A rail's enable is released and its rail state becomes OFF (R126, R135). -/
def releaseRail (s : State) (c : Nat) : State :=
  let ch := chan s c
  if ch.enable || !decide (ch.st = .off) then
    let s := modChan s c fun ch => { clearPair ch with
      enable := false, st := .off, good := none, descFault := false }
    match partner s c with
    | some b => modChan s b clearPair
    | none => s
  else s

/-- A rail in the crash tick: no chatter failure of it waits for a boundary any more (R176). -/
def dropRail (s : State) (c : Nat) : State :=
  let s := releaseRail s c
  if (chan s c).chatFail.isSome then modChan s c fun ch => { ch with chatFail := none } else s

/-- A margin or pip is cut short in the crash tick: MGnn high impedance, code 0, no event (R217, R298, R303). -/
def crashMargin (m : Margin) : Margin :=
  let m :=
    match m.st with
    | .pipBaseline | .pipCapture => { m with pipStatus := 2 ^ 12 + m.caps.length }
    | _ => m
  { m with st := .idle, code := 0, outEn := false, rc := 0, target := 0, fromReached := false, base := [],
           caps := [], pipOut := false }

/-- The same of a channel's margin; a code that was not 0 changes (R471). -/
def cutMargin (s : State) (c : Nat) : State :=
  let s := if (margin s c).code = 0 then s else occPod s 9
  modMargin s c crashMargin

/-- The channels whose margin is active. -/
def activeMargins (s : State) : List Nat :=
  (s.sup.margins.filter fun e => !decide (e.2.st = .idle)).map (·.1)

/-- A pod stops where it stands (R176). -/
def stopPod (q : Pod) : Pod :=
  { q with held := false, hf := 0, queueWait := false, latched := false, cooldown := none, retryActive := false,
           exhausted := false, frozen := false, failPend := false, ents := [], gate := 0xFF,
           relHost := false, relEng := false, relLine := false }

/-- Change a pod's state; a change raises event 24 (R149). -/
def setPodSt (s : State) (p : Nat) (st : PodSt) : State :=
  if (pod s p).st = st then s else occPod (raise (modPod s p fun q => { q with st := st }) 24) 1

/-- Held timed actions are discarded without a write (R326). -/
def discardTacts (s : State) : State :=
  { s with eng := { s.eng with tacts := [], tactDisc := s.eng.tactDisc + s.eng.tacts.length, tactWait := false } }

/-! ## Entry (R217) -/

/-- What the crash does to the line unit: an indexed originator drives its hold, a standalone device and one that
crashed on entry to a line in FAULT drive for the whole crash, and any other device waits for the arbitration
(R237, R245, R248). The unit stops sending (R218) and keeps its count. A non-originator crashes in the tick in which
FAULT is recognised, so that its E is the fall of that low period (R244). The unit keeps its role, for R236 makes no
exception for a crash. -/
def crashLine (s : State) (orig noArb : Bool) : State :=
  modLine s fun l => { l with
    holding := noArb
    origHold := orig && !noArb
    arb := if noArb then .done else .hold
    faultAt := if noArb || orig then none else some l.fall
    syncDrive := none
    hbDrive := none
    cmdDrive := none
    quiet := false
    rejoin := false }

/-- The capture buffer in the crash tick; `before` is the mode and the pods as the tick before left them (R264, R265,
R271, R272). DESIGN CHOICE: HUSK_SLOT is the husk ring's next slot also where HUSK_PLANNED is 0 (R265; log 19). -/
def capture (s : State) (before : Mode × Map Pod) (code src : Nat) (later : Bool) : Capture where
  cause := code
  source := src
  crashTime := s.clk.time
  frame := frame s
  slot := slotOf s.clk.time
  mode := modeCode before.1
  chatter := if 1 ≤ code ∧ code ≤ 3 then (chan s src).chatter else 0
  podInfo := podInfo s before.2 code src
  originator := !decide (code = 8)
  later := later
  huskPlanned := bit (act s 0x1700 2) 2
  huskSlot := s.recs.husk.next
  episode := s.recs.episode
  closed := false
  fresh := true
  raws := []
  frames := []
  pods := podNums.map fun p => podWord (get before.2 Pod.reset p)
  events := []
  counters := []

/-- The crash tick (R176, R217, R249, R268, R303, R326). `entry` is
true for a crash on entry to a line in FAULT (R248). A standalone device that crashes on entry fits two rows of R249's
table; DESIGN CHOICE: it takes the row of the entry (log 20). -/
def enterCrash (s : State) (code src : Nat) (later entry : Bool) : State :=
  let before := prior s
  let standalone := decide (s.sup.line.index = 15)
  let orig := !decide (code = 8)
  let s := abandonHusk (setMode s .crash)
  let s := modRec s fun r => { r with
    cap := some (capture s before code src later), commit := .waiting, commitEnded := false }
  let s := modCrash s fun k => { k with
    latched := true, originator := orig, clearing := false, auto := false, cause := code, source := src, time := s.clk.time
    frame := frame s, slot := slotOf s.clk.time, noArb := standalone || entry
    arbResult := if standalone && !entry then 0x100F else 0x000F, arbTime := 0, ownTime := 0 }
  let s := each channels s dropRail
  let s := each (activeMargins s) s cutMargin
  let s := each (podsInUse s) s fun s p => setPodSt (modPod s p stopPod) p .crashed
  let s := each channels s assertAtCrash
  let s := discardTacts s
  let s := crashLine s orig (standalone || entry)
  raise s 0

/-- A condition confirmed while the device is in CRASH, or after the first of the crash tick, is a later fault
(R215, R216, R266). -/
def addLater (s : State) (k : Nat × Nat) : State :=
  let s := laterFault s k.1 k.2
  match s.recs.cap with
  | some c =>
    if c.crashTime = s.clk.time then { s with recs := { s.recs with cap := some { c with later := true } } } else s
  | none => s

/-- T of an originator that crashed in tick c, when the line fell in tick e: c − e + 256 in 16 bits (R245). -/
def ownTimeOf (c e : Nat) : Nat := (c + 65536 + 256 - e % 65536) % 65536

/-- The place of a cause code in the order of R216. -/
def causeRank (code : Nat) : Nat :=
  match code with
  | 5 => 0
  | 1 | 2 | 3 | 4 => 1
  | 6 => 2
  | 7 => 3
  | 9 => 4
  | 10 => 5
  | 12 => 6
  | 11 => 7
  | _ => 8

/-- The device has crashed in the present tick. -/
def crashTick (s : State) : Bool := s.sup.crash.latched && decide (s.sup.crash.time = s.clk.time)

/-- A cause of the crash tick that R216 puts before the one that crashed the device takes its place, and that one
becomes a later fault. -/
def takeFirst (s : State) (code src : Nat) : State :=
  let k := s.sup.crash
  let s := addLater s (k.cause, k.source)
  let s := modCrash s fun k => { k with cause := code, source := src, originator := !decide (code = 8) }
  let s := modRec s fun r => { r with cap := r.cap.map fun c => { c with
    cause := code, source := src, originator := !decide (code = 8)
    chatter := if 1 ≤ code ∧ code ≤ 3 then (chan s src).chatter else 0
    podInfo := match podOfSource s code src with
      | some p => p * 256 + c.pods.getD p 0 % 8
      | none => 0xFF00 } }
  if k.originator then s
  else
    let e := s.sup.line.faultAt
    let s := crashLine s true k.noArb
    match e with
    | some t =>
      modLine (modCrash s fun k => { k with ownTime := ownTimeOf k.time t }) fun l => { l with faultAt := some t }
    | none => s

/-- A cause confirmed in CRASH: one of the crash tick is ranked with the causes of that tick, every other is a later
fault of the episode (R215, R216). -/
def causeInCrash (s : State) (k : Nat × Nat) : State :=
  if crashTick s && decide (causeRank k.1 < causeRank s.sup.crash.cause) then takeFirst s k.1 k.2 else addLater s k

/-- The crash causes of one command, in the order of R216: the first decides, the others are later faults; in BOOT and
SLEEP nothing begins a crash (R215). -/
def crash (s : State) (causes : List (Nat × Nat)) : State :=
  match causes with
  | [] => s
  | (code, src) :: rest =>
    match s.sup.mode with
    | .crash => each causes s causeInCrash
    | .boot | .sleep => s
    | _ => each rest (enterCrash s code src false false) addLater

end Sys2Proof.Machine
end

