-- ==== Sys2Proof/Machine/Words.lean ====
section
/-!
DEFINITION. The words in which SUPERVISE shows itself: MODE (R348), LINE_STATUS and CRASH_INFO (R254). A function of
a snapshot, so that one definition serves the live values and the frame snapshot (R70).
-/
namespace Sys2Proof.Machine

/-- MODE_CTRL.MODE (R348). -/
def modeWord (u : Sup) : Nat :=
  flg u.bootHold 15 + flg (get u.pods Pod.reset 0).retryActive 14 + modeCode u.mode

def isTk (l : Line) : Bool := decide (l.role = .timekeeper)
def isSynced (l : Line) : Bool := decide (l.role = .synced ∨ l.role = .timekeeper)
def arbBusy (l : Line) : Bool :=
  match l.arb with
  | .hold | .gap _ | .broken | .running _ => true
  | _ => false

/-- TK_INDEX (R254). -/
def tkIndex (l : Line) : Nat :=
  if isTk l then l.index
  else if isSynced l && !decide (l.index = 15) then (lowestBit l.present 15).getD 15
  else 15

/-- LINE_LIVE.LINE_STATUS (R254). -/
def lineStatus (l : Line) : Nat :=
  flg (arbBusy l) 10 + flg l.faultFrame 9 + flg (l.holding || l.origHold) 8 + flg (isSynced l) 7 + flg (isTk l) 6 +
  tkIndex l

/-- LINE_LIVE.CRASH_INFO (R254). -/
def crashInfo (k : Crash) : Nat :=
  flg k.latched 15 + flg k.originator 14 + flg k.clearing 13 + k.cause * 256 + k.source

end Sys2Proof.Machine
end

