-- ==== Sys2Proof/Machine/CanTx.lean ====
section
/-!
DEFINITION. Frames that a CAN port has made and offers to the bus (R397, R399), and the announce frame (R408).
-/
namespace Sys2Proof.Machine

/-- NODE_ID of a port (R396). -/
def nodeId (s : State) (p : Port) : Nat := fld (act s (portIdx p) 2) 0 7

/-- An ODP identifier (R397). -/
def odpId (s : State) (p : Port) (function : Nat) : Nat := function * 128 + nodeId s p

/-- Waiting frames lie in increasing identifier, frames of one function in the order in which they were made (R399). -/
def insertFrame (f : Frame) : List Frame → List Frame
  | [] => [f]
  | x :: r => if f.id < x.id then f :: x :: r else x :: insertFrame f r

/-- A frame waits on its port. -/
def queueFrame (s : State) (p : Port) (f : Frame) : State := modPort s p fun c => { c with out := insertFrame f c.out }

/-- The FUNCTION of a waiting frame (R397). -/
def functionOf (f : Frame) : Nat := f.id / 128

/-- The frame that the port sends next, and those that stay: the announce of STANDBY entry first, then by increasing
identifier (R374, R399, R408). -/
def nextFrame (c : CanPort) : Option (Frame × List Frame) :=
  let first := if c.announce then c.out.reverse.find? fun f => decide (functionOf f = 3 ∧ natAt f.payload 0 1 = 0) else none
  match first, c.out with
  | some f, l => some (f, l.erase f)
  | none, f :: rest => some (f, rest)
  | none, [] => none

/-- CTRL.EN takes effect as 0, or the port is disabled: the port forgets its pending events, and after it is enabled
again it reports none of before (R409, R505). `ends`: the frame in transmission is finished (R396). -/
def portStops (s : State) (p : Port) (ends : Bool) : State :=
  modPort s p fun c =>
    let last := if ends then (nextFrame c).map (·.1) else none
    { c with
      pend := [], merged := 0, finishing := last.isSome
      out := c.out.filter fun f => !decide (functionOf f = 2) || decide (last = some f) }

/-- A port makes a frame; a port that is off makes none (R396, R505). -/
def makeFrame (s : State) (p : Port) (function : Nat) (payload : List Byte) (lastSeg : Bool) (map : Option Nat) :
    State :=
  if portOn s p then queueFrame s p { id := odpId s p function, payload := payload, lastSeg := lastSeg, pubMap := map }
  else s

/-- The payload of an announce (KIND 0) or a heartbeat (KIND 1) (R408). -/
def announcePayload (s : State) (p : Port) (kind : Nat) : List Byte :=
  bytes 1 kind ++ bytes 1 (match p with | .a => 0 | .b => 1) ++ bytes 2 (modeWord s.sup) ++
  bytes 2 Config.deviceCode ++ bytes 2 (lineStatus s.sup.line) ++ bytes 8 Config.serial.toNat ++
  bytes 4 s.image.crc ++ bytes 4 s.recs.episode ++ bytes 8 s.clk.time

/-- An announce or a heartbeat; the heartbeat period counts from it (R408). -/
def announce (s : State) (p : Port) (kind : Nat) : State :=
  modPort (makeFrame s p 3 (announcePayload s p kind) false none) p fun c => { c with hbLast := s.clk.time }

/-- Both ports announce the device; the announce is the first frame that a port sends from then on (R372, R374, R408). -/
def announceBoth (s : State) : State :=
  each [Port.a, Port.b] s fun s p => modPort (announce s p 0) p fun c => { c with announce := portOn s p }

end Sys2Proof.Machine
end

