-- ==== Sys2Proof/Machine/Hold.lean ====
section
/-!
DEFINITION. BOOT-HOLD (R361, R362).
-/
namespace Sys2Proof.Machine

/-- NODE_ID of both ports defaults to 0x70 + ADDR_SEL (R396). -/
def nodeDefaults (s : State) : State :=
  setField (setField s (keyOf 0x1C00 2) (0x70 + s.boot.addrSel)) (keyOf 0x1C01 2) (0x70 + s.boot.addrSel)

/-- The object belongs to a pin, a CAN port or the two-wire target. -/
def portOrPin (o : Option Obj) : Bool :=
  match o with
  | some (.pinCfg _) | some (.can _) | some .twowire => true
  | _ => false

/-- Pins return to their reset state, no pin is seized any more, and the ports run with the defaults of their objects
(R362). -/
def holdDefaults (s : State) : State :=
  let d := s.dict.filter fun e => !portOrPin (objOf (e.1 / 256)) && !decide (e.1 = keyOf 0x1A41 4)
  let s := nodeDefaults { s with dict := d }
  { s with latched := s.dict, twi := { s.twi with ready := true, set := Twi.reset.set } }

/-- BOOT-HOLD begins with a cause in the tick in which it is found; each CAN port sends one announce (R361, R362). -/
def enterHold (s : State) (cause : Nat) : State :=
  if s.sup.mode = .boot ∧ s.boot.hold = false then
    let s := { s with
      boot := { s.boot with hold := true, cause := cause }
      sup := { s.sup with bootHold := true }
      bist := { s.bist with valid := true, bootCause := cause } }
    announceBoth (holdDefaults s)
  else s

end Sys2Proof.Machine
end

