-- ==== Sys2Proof/Machine/PinFn.lean ====
section
/-!
DEFINITION. Pin functions: which pin supplies an input function, the level that its user sees, what each ball
drives, and the timeline of a function change (R353, R439 to R450, R455, R465 to R467).
-/
namespace Sys2Proof.Machine

/-- AF of a pin (R442). -/
def pinAf (s : State) (n : Nat) : Nat := fld (act s (0x1A00 + n) 1) 12 4

/-- PIN_LOCK.COMPAT (R457). -/
def compat (s : State) : Nat := act s 0x1A41 4

/-- The COMPAT bit of the peripheral that can seize a pin (R449). -/
def seizeBit (n : Nat) : Option Nat :=
  match n with
  | 8 | 9 => some 7
  | 10 | 11 => some 6
  | 12 => some 5
  | 13 => some 4
  | 14 => some 3
  | 15 => some 2
  | 16 => some 1
  | 17 => some 0
  | _ => none

/-- The pin is seized (R449). -/
def seized (s : State) (n : Nat) : Bool :=
  match seizeBit n with
  | some b => bit (compat s) 15 && bit (compat s) b
  | none => false

/-- The bank of a pin is good (R353, R355). -/
def pinBank (n : Nat) : Nat := if n < 24 then 8 else 9
def bankGood (s : State) (n : Nat) : Bool := bit s.sup.supply.banks (pinBank n)

/-- The next CLK_BUS edge, one in four ticks (R40). -/
def busEdge (t : Nat) : Nat := (t / 4 + 1) * 4

/-- The pins of a bank that has become good take their configured state at the first CLK_BUS edge after it (R511). -/
def bankDriven (s : State) (n : Nat) : Bool :=
  bankGood s n && decide (get s.pins.vio 0 (pinBank n) ≤ s.clk.time)

/-- What the device drove at the CLK_BUS edge two cycles before the latest one (R441). -/
def drivenThen (s : State) : Nat × Nat := s.pins.driven.getD (if s.clk.time % 4 = 0 then 1 else 2) (0, 0)

/-- The synchronised level of a pin, as every user of it sees it: what the device itself drove on the ball, else the
level that the pins' commands give; 0 while its bank is not good (R353, R441). -/
def pinLevel (s : State) (n : Nat) : Bool :=
  let (on, high) := drivenThen s
  bankGood s n && if bit on n then bit high n else s.pins.level.getLsbD n

/-- The pin seized for PODREQ k (R449). -/
def podSeize (k : Nat) : Option Nat := if k = 0 then some 14 else if k = 1 then some 15 else none

/-- The pin seized for TRIG g (R449). -/
def trigSeize (g : Nat) : Option Nat := if g = 0 then some 16 else none

/-- The pin that supplies an input function: a seized pin, else the lowest-numbered pin that selects it (R445). -/
def supplier (s : State) (seize : Option Nat) (af modulus k : Nat) : Option Nat :=
  match seize with
  | some n => if seized s n then some n else (List.range 48).find? fun n => decide (pinAf s n = af ∧ n % modulus = k)
  | none => (List.range 48).find? fun n => decide (pinAf s n = af ∧ n % modulus = k)

def podSupplier (s : State) (k : Nat) : Option Nat := supplier s (podSeize k) 2 16 k
def trigSupplier (s : State) (g : Nat) : Option Nat := supplier s (trigSeize g) 3 8 g

/-- No function change holds the input any more (R447). -/
def noHold : PinHold := { til := 0, level := false }
def holdOf (s : State) (key : Nat) : PinHold := get s.pins.hold noHold key
def held (s : State) (key : Nat) : Bool := decide (s.clk.time < (holdOf s key).til)

/-- The input makes no edge: neither in the hold nor in tick 16, where the new function's first level reaches its user
(R447). -/
def edgeless (s : State) (key : Nat) : Bool :=
  decide (0 < (holdOf s key).til) && decide (s.clk.time ≤ (holdOf s key).til)

/-- The level of an input function as its user sees it (R153, R447). -/
def fnLevel (s : State) (key : Nat) (pin : Option Nat) : Bool :=
  if held s key then (holdOf s key).level
  else match pin with
    | some n => pinLevel s n
    | none => false

def podLevel (s : State) (k : Nat) : Bool := fnLevel s k (podSupplier s k)

/-- The level of the CHIN function of a pin (R95). -/
def chinLevel (s : State) (n : Nat) : Bool := fnLevel s (32 + n) (some n)

/-- Set the synchronised level of one pin. -/
def setLevel (s : State) (n : Nat) (v : Bool) : State :=
  { s with pins := { s.pins with level :=
    if v then s.pins.level ||| BitVec.ofNat 48 (2 ^ n) else s.pins.level &&& ~~~(BitVec.ofNat 48 (2 ^ n)) } }

/-! ## Outputs -/

/-- INT_N is asserted: some event has its live STATUS bit and its mask bit set (R465). -/
def intAsserted (s : State) : Bool := !decide (s.sup.evStatus &&& hostMask s = 0)

/-- CRASH_OUT (R467). -/
def crashOut (s : State) : Bool := decide (s.sup.mode = .crash)

/-- A pulse of EVO k lasts four CLK_BUS cycles, 16 ticks, from its latest raise (R466). -/
def evoUntil (s : State) (k : Nat) : Nat :=
  let t := get s.pins.evoPulse 0 k
  if t = 0 then 0 else t - 1 + 16

/-- EVO k, in pulse mode or in level mode (R466). -/
def evoLevel (s : State) (k : Nat) : Bool :=
  if bit (act s 0x1B00 65) k then (List.range 64).any fun e => bit s.sup.evStatus e && bit (act s 0x1B00 (1 + e)) k
  else decide (s.clk.time < evoUntil s k)

/-- A function that drives nothing; the three values are enabled, level and open drain. -/
def noDrive : Bool × Bool × Bool := (false, false, false)

/-- The fixed functions of AF 8: CAN TX rests recessive, SDA released, the trace port low; the bits of a frame, of a
two-wire byte and of a trace record are not followed. The trace port uses the pin's OD (R443, R444, R487). -/
def fixedDrive (od : Bool) (n : Nat) : Bool × Bool × Bool :=
  match n with
  | 0 | 2 | 32 | 34 => (true, true, false)
  | 5 | 47 => (true, true, true)
  | 19 | 20 | 21 | 22 | 23 => (true, false, od)
  | _ => noDrive

/-- What the function that AF selects drives (R442, R444, R448, R364). -/
def afDrive (s : State) (n : Nat) : Bool × Bool × Bool :=
  let c := act s (0x1A00 + n) 1
  match fld c 12 4 with
  | 0 => (bit c 7, bit c 7 && bit (act s (0x1A00 + n) 3) 0, bit c 11)
  | 4 => (true, evoLevel s (n % 8), bit c 11)
  | 5 => if s.sup.mode = .boot then noDrive else (true, !intAsserted s, bit c 11)
  | 6 => (true, crashOut s, bit c 11)
  | 8 => fixedDrive (bit c 11) n
  | _ => noDrive

/-- What the peripheral that seized the pin drives (R449). -/
def seizedDrive (s : State) (n : Nat) : Bool × Bool × Bool :=
  let od := bit (act s (0x1A00 + n) 1) 11
  if !seized s n then noDrive
  else
    match n with
    | 8 => (true, true, false)
    | 11 => (true, true, true)
    | 12 => if s.sup.mode = .boot then noDrive else (true, !intAsserted s, od)
    | 13 => (true, crashOut s, od)
    | 17 => (true, evoLevel s 0, od)
    | _ => noDrive

/-- The pin that supplies CAN RX of a port, and the pins that carry its CAN TX (R443, R445, R449). -/
def canRx (s : State) (p : Port) : Option Nat :=
  match p with
  | .a => supplier s (some 9) 8 32 1
  | .b => ([3, 35] : List Nat).find? fun n => decide (pinAf s n = 8)

def canTx (s : State) (p : Port) : List Nat :=
  match p with
  | .a => ([0, 32] : List Nat).filter (fun n => decide (pinAf s n = 8)) ++ (if seized s 8 then [8] else [])
  | .b => ([2, 34] : List Nat).filter fun n => decide (pinAf s n = 8)

/-- A port hears its bus: a pin carries its RX, and the supply of that pin's bank is good (R353, R443). -/
def canHears (s : State) (p : Port) : Bool :=
  match canRx s p with
  | some n => bankGood s n
  | none => false

/-- A port reaches its bus (R353, R443). -/
def canReaches (s : State) (p : Port) : Bool := canHears s p && (canTx s p).any (bankDriven s)

/-- The port takes part in its bus: it is on, not under test, and the dictionary is reachable (R373, R374, R502). -/
def portLive (s : State) (p : Port) : Bool := reachable s && portOn s p && !testing s (portPart p)

/-- The port's controller can send: it is on, neither under test nor bus-off, and it reaches its bus (R395, R502). -/
def portSends (s : State) (p : Port) : Bool :=
  portOn s p && !testing s (portPart p) && !decide ((port s p).err = 2) && canReaches s p

/-- The pins of the two-wire target's location (R416, R451). -/
def twiPins (s : State) : List Nat :=
  if seized s 10 then [10, 11] else if bit s.twi.set.ctrl 8 then [46, 47] else [4, 5]

/-- The target's pins are in use, and the supply of their bank is good (R416, R432, R443, R449). -/
def twiConnected (s : State) : Bool :=
  (seized s 10 || (twiPins s).all fun n => decide (pinAf s n = 8)) && (twiPins s).all (bankGood s)

/-- The ball keeps what it did before a function change, until tick 8 of the change (R446). -/
def noBall : Ball := { til := 0, driving := false, level := false, strength := 4, pull := 0 }
def ballOf (s : State) (n : Nat) : Ball := get s.pins.ball noBall n

/-- A ball by its sleep state (R435, R455). -/
def sleepDrive (s : State) (n : Nat) : Bool × Bool :=
  if bit (act s 0x0200 9) 14 && (twiPins s).contains n then (false, false)
  else
    match fld (act s (0x1A00 + n) 1) 4 3 with
    | 1 => (true, false)
    | 2 => (true, true)
    | 5 => ((ballOf s n).driving, (ballOf s n).level)
    | _ => (false, false)

/-- Nothing of a ball's configuration is in force: no power, reset, BOOT before the image load, or no bank supply
(R353, R364, R366, R511). -/
def ballIdle (s : State) (n : Nat) : Bool :=
  !s.pwr.powered || s.pwr.held || !bankDriven s n || (decide (s.sup.mode = .boot) && !s.boot.imageDone && !s.boot.hold)

/-- Whether the device drives a ball, and the level it drives; an open-drain output drives only low (R353, R364, R366,
R444, R450). -/
def ballDrive (s : State) (n : Nat) : Bool × Bool :=
  if ballIdle s n then (false, false)
  else if s.sup.mode = .sleep then sleepDrive s n
  else if s.clk.time < (ballOf s n).til then ((ballOf s n).driving, (ballOf s n).level)
  else
    let (e1, l1, o1) := afDrive s n
    let (e2, l2, o2) := seizedDrive s n
    let level := l1 || l2
    if (o1 || o2) && level then (false, false) else (e1 || e2, level)

/-- The pin carries SDA: SDA or SDA2 by AF 8, or SDA seized (R443, R449). -/
def onSda (s : State) (n : Nat) : Bool :=
  (decide (pinAf s n = 8) && ([5, 47] : List Nat).contains n) || (decide (n = 11) && seized s n)

/-- The pin carries CAN TX, by AF 8 or seized (R443, R449). -/
def onCanTx (s : State) (n : Nat) : Bool :=
  (decide (pinAf s n = 8) && ([0, 2, 32, 34] : List Nat).contains n) || (decide (n = 8) && seized s n)

/-- The drive strength in mA and PULL of a pin: SDA sinks 20 mA and CAN TX is not of those that use DRIVE; every other output
function uses it, and PULL applies under every function (R444, R522). DESIGN CHOICE: CAN TX has 4 mA, and a seized SDA or
CAN TX keeps its own strength whatever AF selects on the pin (R450; log 24). -/
def pinPads (s : State) (n : Nat) : Nat × Nat :=
  let c := act s (0x1A00 + n) 1
  (if onSda s n then 20 else if onCanTx s n then 4 else if bit c 10 then 12 else 4, fld c 8 2)

/-- The same by the sleep state: 3 pulls up, 4 pulls down, 5 keeps (R435, R455). -/
def sleepPads (s : State) (n : Nat) : Nat × Nat :=
  if bit (act s 0x0200 9) 14 && (twiPins s).contains n then (4, 0)
  else
    match fld (act s (0x1A00 + n) 1) 4 3 with
    | 1 | 2 => ((pinPads s n).1, 0)
    | 3 => (4, 1)
    | 4 => (4, 2)
    | 5 => ((ballOf s n).strength, (ballOf s n).pull)
    | _ => (4, 0)

/-- The strength of a ball's drive in mA, and its pull: 0 none, 1 up, 2 down (R444, R446, R455, R522). -/
def ballPads (s : State) (n : Nat) : Nat × Nat :=
  if ballIdle s n then (4, 0)
  else if s.sup.mode = .sleep then sleepPads s n
  else if s.clk.time < (ballOf s n).til then ((ballOf s n).strength, (ballOf s n).pull)
  else pinPads s n

/-- What a ball does now, kept until a time. -/
def keepBall (s : State) (n til : Nat) : Ball :=
  { til := til, driving := (ballDrive s n).1, level := (ballDrive s n).2, strength := (ballPads s n).1, pull := (ballPads s n).2 }

def setBall (s : State) (n : Nat) (b : Ball) : State :=
  { s with pins := { s.pins with ball := put s.pins.ball noBall n b } }

/-- A ball keeps what it does until the next CLK_BUS edge, where a written level reaches it; a change in progress keeps
it longer (R448). -/
def untilEdge (s : State) (n : Nat) : State :=
  if s.clk.time < (ballOf s n).til then s else setBall s n (keepBall s n (busEdge s.clk.time))

/-- The balls that the device drives at an instant, and those that it drives high. -/
def drivenAt (s : State) (t : Nat) : Nat × Nat :=
  let u := { s with clk := { s.clk with time := t } }
  (List.range 48).foldl (fun m n => (m.1 + flg (ballDrive u n).1 n, m.2 + flg ((ballDrive u n).1 && (ballDrive u n).2) n)) (0, 0)

/-- The CLK_BUS edges before an instant, from the present tick on, capture the balls; three captures are kept (R441). -/
def captureBalls (s : State) (t : Nat) : State :=
  let edges := (List.range 3).filterMap fun k =>
    let e := (t - 1) / 4
    if k ≤ e ∧ s.clk.time ≤ 4 * (e - k) ∧ 4 * (e - k) < t then some (4 * (e - k)) else none
  { s with pins := { s.pins with driven := (edges.map (drivenAt s) ++ s.pins.driven).take 3 } }

/-! ## A function change (R446, R447) -/

/-- The keys of the input functions, each with the pin that supplies it: PODREQ k, TRIG g, and CHIN of a pin. -/
def inputFns (s : State) : List (Nat × Option Nat) :=
  ((List.range 16).map fun k => (k, podSupplier s k)) ++ ((List.range 8).map fun g => (16 + g, trigSupplier s g)) ++
  ((List.range 48).map fun n => (32 + n, if pinAf s n = 1 then some n else none))

/-- Balls keep an old drive for 8 ticks and the input functions that `moves` names an old level for 16; `old` is the
state before the change. -/
def pinTimeline (old s : State) (pins : List Nat) (moves : Nat → Option Nat → Option Nat → Bool) : State :=
  let s := each pins s fun s n => setBall s n (keepBall old n (s.clk.time + 8))
  each ((inputFns old).zip (inputFns s)) s fun s e =>
    if moves e.1.1 e.1.2 e.2.2 then
      { s with pins := { s.pins with
        hold := put s.pins.hold noHold e.1.1 { til := s.clk.time + 16, level := fnLevel old e.1.1 e.1.2 } } }
    else s

/-- The pins whose CFG or seizure differs between two states. -/
def changedPins (old s : State) : List Nat :=
  (List.range 48).filter fun n =>
    !decide (act old (0x1A00 + n) 1 = act s (0x1A00 + n) 1) || !(seized old n == seized s n)

/-- The function changes that a set or an image makes. -/
def pinChanges (old s : State) : State :=
  let pins := changedPins old s
  if pins.isEmpty then s
  else
    pinTimeline old s pins fun _ a b =>
      !decide (a = b) || (match b with | some n => pins.contains n | none => false)

/-- SLEEP entry keeps each ball's drive for the pins whose sleep state is 5 (R455). -/
def sleepBalls (s : State) : State :=
  each (List.range 48) s fun t n =>
    setBall t n (if fld (act s (0x1A00 + n) 1) 4 3 = 5 then keepBall s n 0 else noBall)

/-! ## Pin event lines (R458 to R460) -/

def pevCfg (s : State) (n : Nat) : Nat := act s 0x1A40 (1 + n)
def pevPin (s : State) (n : Nat) : Nat := 8 * fld (pevCfg s n) 8 3 + n
def pevOf (s : State) (n : Nat) : Pev := get s.pins.pev Pev.reset n
def setPev (s : State) (n : Nat) (v : Pev) : State := { s with pins := { s.pins with pev := put s.pins.pev Pev.reset n v } }

/-- The line takes the present level without an event (R460). -/
def pevTake (s : State) (n : Nat) : State := setPev s n { level := pinLevel s (pevPin s n), cnt := 0 }

/-- In SLEEP the latest captures show what the balls do there (R441, R455). -/
def captureSleep (s : State) : State :=
  if s.sup.mode = .sleep then
    { s with pins := { s.pins with driven := List.replicate 3 (drivenAt s s.clk.time) } }
  else s

/-- A bank's supply changes. When it becomes good, its pins take their configured state at the next CLK_BUS edge and its
event lines take the present level, in SLEEP too (R353, R460, R511). -/
def bankChange (s : State) (b : Nat) (good : Bool) : State :=
  let was := bit s.sup.supply.banks b
  let s := modSupply s fun u => { u with banks := putBit u.banks b good }
  if good && !was && s.pwr.powered && !s.pwr.held then
    let s := captureSleep s
    let s := if running s then { s with pins := { s.pins with vio := put s.pins.vio 0 b (busEdge s.clk.time) } } else s
    each ((List.range 8).filter fun n => bit (pevCfg s n) 15 && decide (pinBank (pevPin s n) = b)) s pevTake
  else s

/-- STANDBY entry after a wake: each pin returns to its function, with the sleep state as the old one (R455). -/
def wakePins (s : State) : State :=
  let s := captureSleep s
  pinTimeline s s (List.range 48) fun _ _ b => b.isSome

end Sys2Proof.Machine
end

