-- ==== Sys2Proof/Machine/Converters.lean ====
section
/-!
DEFINITION. The eight converters: conversions, displacement, result registers (R82 to R118) and urgent requests
(R104 to R116).
-/
namespace Sys2Proof.Machine

/-- Division to nearest with halves away from zero, for a positive divisor (R94, R301). -/
def divNear (p : Int) (d : Nat) : Int :=
  let q := p.natAbs / d
  let q := if d ≤ 2 * (p.natAbs % d) then q + 1 else q
  if p < 0 then -(Int.ofNat q) else Int.ofNat q

/-- The scaled value of a raw value (R94). -/
def scaled (s : State) (c raw : Nat) : Int :=
  divNear (Int.ofNat raw * s16 (chanCfg s c 3)) (chanCfg s c 4)

/-- The converters run: once the image has loaded, outside SLEEP and BOOT-HOLD (R85, R362). -/
def converting (s : State) : Bool :=
  running s && s.boot.imageDone && !s.boot.hold && !decide (s.sup.mode = .sleep)

/-! ## Urgent requests -/

/-- URGENT_STAT of the requester of an urgent request (R116). -/
def urgentStat (s : State) (g : Nat) (src : UrgentSrc) (code : Nat) : State :=
  match src with
  | .port r => modReq s r fun q => { q with urgentStat := put q.urgentStat 0 g code }
  | _ => s

/-- The pending request takes slot 0: code 2 becomes 1, where it is still its requester's most recent request (R116). -/
def pendPlaced (s : State) (g : Nat) (src : UrgentSrc) : State :=
  match src with
  | .port r => if get (req s r).urgentStat 0 g = 2 then urgentStat s g src 1 else s
  | _ => s

/-- The slot of the latest place, one more than it, or 0 when there is none (R106). -/
def afterLast (v : Conv) : Nat :=
  match v.places.getLast? with
  | some (k, _) => k + 1
  | none => 0

/-- The order of requests recognised in one tick: TRIG, margin servo, engine, host (R106). -/
def urgentRank : UrgentSrc → Nat
  | .trig => 0
  | .servo _ => 1
  | .port .eng => 2
  | .port _ => 3

/-- The margin servo's request, whose places the start of the frame reserves: no edge takes one of them (R112, R300, R305). -/
def reserved : UrgentSrc → Bool
  | .servo _ => true
  | _ => false

/-- A request comes before another one of its tick (R106). -/
def urgentBefore (u x : Urgent) : Bool :=
  decide (u.time = x.time) && decide (urgentRank u.src < urgentRank x.src) && !reserved x.src

/-- A request takes over the first place of a later one of its tick, which takes over the next, and so on; with the
request that is left without one. -/
def takeOver : List (Nat × Urgent) → Urgent → List (Nat × Urgent) × Urgent
  | [], u => ([], u)
  | (k, x) :: r, u =>
    if urgentBefore u x then ((k, u) :: (takeOver r x).1, (takeOver r x).2) else ((k, x) :: (takeOver r u).1, (takeOver r u).2)

/-- Requests of one tick stand in their order, whichever of them the device has seen first: the places and the pending
register that they have taken are theirs in that order (R106). The request that is left is the one to be handled. -/
def reorder (s : State) (g : Nat) (u : Urgent) : State × Urgent :=
  let v := conv s g
  let (places, w) := takeOver v.places u
  let s :=
    if places = v.places then s
    else urgentStat (setConv s g { v with places := places }) g u.src 1
  match v.pend with
  | some x =>
    if urgentBefore w x then (urgentStat (modConv s g fun v => { v with pend := some w }) g w.src 2, x) else (s, w)
  | none => (s, w)

/-- A request recognised in slot k takes a place, the pending register, or nothing (R106, R107, R112). -/
def assign (s : State) (g k : Nat) (u : Urgent) : State :=
  let v := conv s g
  let cand := max (k + 1) (afterLast v)
  if v.places.length < 2 ∧ cand ≤ 15 then
    urgentStat (setConv s g { v with places := v.places ++ [(cand, u)] }) g u.src 1
  else if v.pend.isNone then
    urgentStat (occConv (setConv s g { v with pend := some u }) g 4 1) g u.src 2
  else
    let s := setConv s g { v with overruns := incSat v.overruns 0xFFFF }
    urgentStat (raise (occConv s g 5 1) 29) g u.src 3

/-- An urgent request recognised in slot k, in its place among the requests of its tick (R106). -/
def recognise (s : State) (g k : Nat) (u : Urgent) : State :=
  let (s, w) := reorder s g u
  assign s g k w

/-- A host or engine write of URGENT_REQ (R104, R105, R179). -/
def urgentWrite (s : State) (r : Requester) (g entry : Nat) : State :=
  if aqAdmits s then recognise s g (slotOf s.clk.time) { src := .port r, entry := entry, time := s.clk.time }
  else occPod (urgentStat s g (.port r) 4) 8

/-- The channel whose pip captures on a converter (R112). -/
def pipOn (s : State) (g : Nat) : Option Nat :=
  (List.range 12).findSome? fun e =>
    if (margin s (12 * g + e)).st = .pipCapture then some (12 * g + e) else none

/-- The start of a frame: the servo's two places are reserved, then a pending request takes slot 0 (R106, R112). -/
def convFrameStart (s : State) (g : Nat) : State :=
  let v := { conv s g with places := [], disp14 := none, disp15 := none, urgentRun := 0 }
  match pipOn s g with
  | some c =>
    let u : Urgent := { src := .servo c, entry := c - 12 * g, time := s.clk.time }
    occConv (setConv s g { v with places := [(7, u), (15, u)] }) g 9 1
  | none =>
    match v.pend with
    | some u => pendPlaced (setConv s g { v with places := [(0, u)], pend := none }) g u.src
    | none => setConv s g v

/-- The edge that CTRL selects (R115). -/
def edgeWanted (sel : Nat) (rising : Bool) : Bool :=
  match sel with
  | 0 => rising
  | 1 => !rising
  | 2 => true
  | _ => false

/-- TRIG_EDGE: a synchronised edge on the TRIG g pin (R104, R115, R447). -/
def execTrigEdge (g : Nat) (rising : Bool) (s : State) : Host.Outcome State Fault Refusal :=
  done s fun s => whenRunning s fun s =>
    match trigSupplier s g with
    | none => s
    | some n =>
      let fresh := bankGood s n && !edgeless s (16 + g)
      let s := setLevel s n rising
      let v := convCfg s g 1
      if fresh && converting s && bit v 7 && edgeWanted (fld v 5 2) rising then
        recognise (occConv s g 8 1) g (slotOf s.clk.time) { src := .trig, entry := fld v 0 4, time := s.clk.time }
      else s

/-! ## Conversions -/

/-- A result register (R117). -/
def resultWord (disp urgent : Bool) (slot src f raw : Nat) : Nat :=
  2 ^ 31 + flg disp 30 + flg urgent 29 + slot * 2 ^ 25 + src * 2 ^ 21 + f % 32 * 2 ^ 16 + raw

/-- The entry that runs as scheduled in slot k, displaced or not (R98, R108, R109). -/
def ranIn (v : Conv) (k : Nat) : Option Nat :=
  if v.places.any fun e => decide (e.1 = k) then none
  else if k ≤ 13 then some k
  else if k = 14 then v.disp14 else v.disp15

/-- The raw value of entry e of converter g: 0 for an unused channel and for a logic channel with a configuration
error, the CHIN level of a logic channel, else the converter's result (R83, R89, R95, R101). -/
def entryRaw (s : State) (g e raw : Nat) : Nat :=
  if e < 12 then
    let c := 12 * g + e
    let ch := chan s c
    match ch.kindEff with
    | 0 => 0
    | 2 =>
      let m := chanCfg s c 1
      if ch.cfgErr then 0
      else if xor (chinLevel s (fld m 10 6)) (bit m 9) then 0xFFFF else 0
    | _ => raw
  else raw

/-- The converter measures for the entry, and does not idle (R96, R101). -/
def measures (s : State) (g e : Nat) : Bool :=
  decide (12 ≤ e) || (let k := (chan s (12 * g + e)).kindEff; decide (k = 1 ∨ k = 3))

/-- The value that converter g samples in slot k (R83, R95, R97, R101). -/
def slotSample (s : State) (k g raw : Nat) : Nat :=
  let v := conv s g
  if v.places.any fun e => decide (e.1 = k) then raw
  else match ranIn v k with
    | some e => entryRaw s g e raw
    | none => 0

/-- A scheduled result goes to its register and to its channel (R97, R101, R118). -/
def scheduledResult (s : State) (g k e v : Nat) : State :=
  let disp := decide (14 ≤ k)
  let s := modConv s g fun q => { q with regs := put q.regs 0 e (resultWord disp false k e (frame s) v) }
  let m := measures s g e
  let s := if m then occConv s g 1 1 else s
  let s := if m && decide (e < 12) && decide (v = 0xFFFF) then occConv s g 7 1 else s
  if e < 12 then
    let c := 12 * g + e
    modChan s c fun ch => { ch with
      raw := v, slot := k, disp := disp
      scaled := if ch.kindEff = 1 ∨ ch.kindEff = 3 then scaled s c v else 0 }
  else s

/-- An urgent result goes to register 14 or 15 and, in a pip capture, to the servo (R101, R110, R300). -/
def urgentResult (s : State) (g k : Nat) (u : Urgent) (raw : Nat) : State :=
  let v := conv s g
  let s := setConv s g { v with
    regs := put v.regs 0 (14 + v.urgentRun) (resultWord false true k u.entry (frame s) raw)
    urgentRun := v.urgentRun + 1 }
  let s := occConv (occConv s g 1 1) g 2 1
  let s := if raw = 0xFFFF then occConv s g 7 1 else s
  match u.src with
  | .servo c =>
    modMargin s c fun m => if m.st = .pipCapture then { m with caps := m.caps ++ [raw] } else m
  | _ => s

/-- The entry that an urgent conversion in slot k moves to a spare slot (R108). -/
def displace (s : State) (g k : Nat) : State :=
  let v := conv s g
  if k ≤ 13 then
    let v := if v.disp14.isNone then { v with disp14 := some k } else { v with disp15 := some k }
    occConv (setConv s g v) g 3 1
  else if k = 14 then
    match v.disp14 with
    | some e => occConv (setConv s g { v with disp14 := none, disp15 := some e }) g 3 1
    | none => s
  else s

/-- What converter g does in slot k with the value that it has sampled, as the result becomes ready (R97, R105 to R110). -/
def convert (s : State) (k g raw : Nat) : State :=
  let v := conv s g
  match v.places.find? fun e => decide (e.1 = k) with
  | some (_, u) => urgentResult (displace s g k) g k u raw
  | none =>
    match ranIn v k with
    | some e => scheduledResult s g k e raw
    | none => s

end Sys2Proof.Machine
end

