-- ==== Sys2Proof/Machine/Judge.lean ====
section
/-!
DEFINITION. The judges: thresholds, filters, pairs and reference checks (R119 to R140), descent faults (R195) and the
discharge watch at a decision (R204).
-/
namespace Sys2Proof.Machine

/-- A judgement field as it applies: a logic channel has fixed thresholds (R121). -/
def thr (s : State) (c sub : Nat) : Nat :=
  if (chan s c).kindEff = 2 then
    match sub with
    | 6 | 8 | 10 | 11 => 0xFFFF
    | 7 | 13 => 1
    | 9 | 12 => 0
    | _ => chanCfg s c sub
  else chanCfg s c sub

def warnEnabled (s : State) (c : Nat) : Bool := !decide ((chan s c).kindEff = 2) && bit (chanCfg s c 20) 1
def pgWarn (s : State) (c : Nat) : Bool := bit (chanCfg s c 20) 2
def offOvCrash (s : State) (c : Nat) : Bool := bit (chanCfg s c 20) 3

/-- The hold window of a running rail, sums limited to 0 to 65 535 (R120). -/
def inHold (s : State) (c raw : Nat) : Bool :=
  decide (thr s c 11 - thr s c 12 ≤ raw ∧ raw ≤ min (thr s c 10 + thr s c 12) 65535)

/-- The settle window of a rising rail (R120). -/
def inSettle (s : State) (c raw : Nat) : Bool := decide (thr s c 11 ≤ raw ∧ raw ≤ thr s c 10)

/-- `follow` of R127: the flag, the count, and whether the flag has just changed. -/
def follow (flag : Bool) (cnt : Nat) (cond : Bool) (filter : Nat) : Bool × Nat × Bool :=
  let cnt := if xor cond flag then cnt + 1 else 0
  if filter ≤ cnt then (cond, 0, true) else (flag, cnt, false)

/-- The group of a channel (R82). -/
def groupOf (c : Nat) : Nat := c / 12

/-- The warning events and their KIND 3 candidates (R127, R128, R259). -/
def warnRaise (s : State) (c cause : Nat) : State :=
  let s := occJudge (raise s (8 + groupOf c)) 4
  candidate s 3 cause c (frame s) (rawHigh s c) 0

/-- Step 1: overvoltage fault; true when it is confirmed (R127). -/
def judgeOv (s : State) (c raw : Nat) : State × Bool :=
  let ch := chan s c
  if thr s c 6 < raw then
    let cnt := incSat ch.ov 16
    let hit := decide (chanCfg s c 14 ≤ cnt) && !ch.ovf
    (setChan s c { ch with ov := cnt, ovf := ch.ovf || hit }, hit)
  else (setChan s c { ch with ov := 0, ovf := false }, false)

/-- Step 2: undervoltage fault, only while running (R127). -/
def judgeUv (s : State) (c raw : Nat) : State × Bool :=
  let ch := chan s c
  if ch.st = .running ∧ raw < thr s c 7 then
    let cnt := incSat ch.uv 16
    let hit := decide (chanCfg s c 14 ≤ cnt) && !ch.uvf
    (setChan s c { ch with uv := cnt, uvf := ch.uvf || hit }, hit)
  else (setChan s c { ch with uv := 0, uvf := false }, false)

/-- The warnings of a running rail (R127). -/
def judgeWarn (s : State) (c raw : Nat) : State :=
  if warnEnabled s c then
    let ch := chan s c
    let filter := chanCfg s c 15
    let (f1, n1, h1) := follow ch.ovw ch.owc (decide (thr s c 8 < raw)) filter
    let (f2, n2, h2) := follow ch.uvw ch.uwc (decide (raw < thr s c 9)) filter
    let s := setChan s c { ch with ovw := f1, owc := n1, uvw := f2, uwc := n2 }
    let s := if h1 && f1 then warnRaise s c 1 else s
    if h2 && f2 then warnRaise s c 2 else s
  else s

/-- The power good of a running rail (R127). -/
def judgePg (s : State) (c raw : Nat) : State :=
  let ch := chan s c
  let (f, n, h) := follow ch.pg ch.pgc (inHold s c raw) (chanCfg s c 15)
  let s := setChan s c { ch with pg := f, pgc := n }
  if h && !f && pgWarn s c then warnRaise s c 3 else s

/-- Step 3: warnings and power good (R127). -/
def judgeRun (s : State) (c raw : Nat) : State :=
  if (chan s c).st = .running then judgePg (judgeWarn s c raw) c raw
  else modChan s c fun ch => { ch with ovw := false, uvw := false, owc := 0, uwc := 0, pgc := 0, pg := false }

/-- Step 4: settle and chatter, only while rising (R127, R129, R130). -/
def judgeRise (s : State) (c raw : Nat) : State :=
  let ch := chan s c
  if ch.st = .rising then
    if inSettle s c raw && !ch.thrErr then
      if chanCfg s c 16 ≤ ch.settle + 1 then
        occJudge (setChan s c { ch with
          settle := ch.settle + 1, st := .running, pg := true, good := some (frame s) }) 8
      else setChan s c { ch with settle := ch.settle + 1 }
    else if 0 < ch.settle then
      let n := incSat ch.chatter 255
      let lim := chanCfg s c 17
      let ch := { ch with settle := 0, chatter := n }
      let ch := if lim ≠ 255 ∧ lim < n then { ch with failedEarly := true, chatFail := some (frame s) } else ch
      occJudge (setChan s c ch) 5
    else s
  else s

/-- Step 5: discharged, only while off (R127); BELOW_DIS shows the sample (R140). DESIGN CHOICE: of a channel that a set
has made unused, and that is no longer judged, it keeps what the last judged sample gave (log 35). -/
def judgeOff (s : State) (c raw : Nat) : State :=
  modChan s c fun ch => { ch with
    disch := ch.disch || (decide (ch.st = .off) && decide (raw < thr s c 13))
    belowDis := decide (raw < thr s c 13) }

/-- A confirmed undervoltage on a running rail of a FALLING pod: a descent fault (R128, R195, R196). -/
def descentFault (s : State) (c p : Nat) : State :=
  let s := modChan s c fun ch => { ch with descFault := true }
  let s := modPod s p fun q => { q with descFault := true }
  candidate s 2 14 c (frame s) (faultData (chan s c).raw p 0) 0

/-- The pod of a rail is FALLING (R128). -/
def fallingPod (s : State) (c : Nat) : Option Nat :=
  match railOwner s c with
  | some p => if (pod s p).st = .falling then some p else none
  | none => none

/-- What one tick of judgement has confirmed: crash causes of overvoltage and of undervoltage (R137). -/
structure Confirmed where
  state : State
  ovs : List (Nat × Nat)
  uvs : List (Nat × Nat)

/-- The judgement of one scheduled sample (R127, R128, R204). DESIGN CHOICE: of a sample decided in the tick in which
another cause has already crashed the device, the rail is judged as the crash has left it, OFF (R126; log 35). -/
def judgeSample (k : Confirmed) (c : Nat) : Confirmed :=
  let s := k.state
  let ch := chan s c
  let raw := ch.raw
  let s := setChan s c { ch with wasRunning := decide (ch.st = .running), pairCompared := false, pairDiff := 0 }
  let s := occJudge s 1
  let (s, ov) := judgeOv s c raw
  let s := if ov then occJudge (raise s (16 + groupOf c)) 3 else s
  let ovCrash := ov && (!decide (ch.st = .off) || offOvCrash s c)
  let (s, uv) := judgeUv s c raw
  let s := if uv then occJudge (raise s (16 + groupOf c)) 3 else s
  let s := if ch.ov < (chan s c).ov ∨ ch.uv < (chan s c).uv then occJudge s 2 else s
  let s := judgeOff (judgeRise (judgeRun s c raw) c raw) c raw
  let (s, uvCrash) :=
    if uv then
      match fallingPod s c with
      | some p => (descentFault s c p, false)
      | none => (s, true)
    else (s, false)
  let s := disJudge s c raw (frame s)
  { state := s
    ovs := if ovCrash then k.ovs ++ [(1, c)] else k.ovs
    uvs := if uvCrash then k.uvs ++ [(2, c)] else k.uvs }

/-! ## Pairs (R133 to R135) -/

/-- Compare the pair whose lower half is a; true when the mismatch is confirmed. -/
def comparePair (s : State) (a b : Nat) : State × Bool :=
  let x := chan s a
  let y := chan s b
  if x.wasRunning && y.wasRunning && !x.pairErr then
    let d := x.scaled - y.scaled
    let bad := decide (Int.ofNat (chanCfg s a 18) < Int.ofNat d.natAbs)
    let n := if bad then incSat x.pairCnt 16 else 0
    let hit := decide (chanCfg s a 19 ≤ n) && !x.pairMm
    let upd := fun (ch : Chan) => { ch with
      pairCnt := n, pairMm := ch.pairMm || hit, pairCompared := true, pairDiff := d }
    let s := modChan (modChan s a upd) b upd
    let s := occJudge s 6
    let s := if bad then occJudge s 7 else s
    (if hit then occJudge (raise s 6) 3 else s, hit)
  else (s, false)

/-- The pairs whose halves were both decided in slot k, neither displaced (R111, R135). -/
def comparePairs (s : State) (k : Nat) : State × List (Nat × Nat) :=
  (List.range 8).foldl (fun (acc : State × List (Nat × Nat)) g =>
    let s := acc.1
    let a := 12 * g + k
    match partner s a with
    | some b =>
      if k < 12 ∧ a < b ∧ ranIn (conv s g) k = some k ∧ ranIn (conv s (groupOf b)) k = some k then
        let (s, hit) := comparePair s a b
        (s, if hit then acc.2 ++ [(3, a)] else acc.2)
      else acc
    | none => acc) (s, [])

/-! ## Reference checks (R103, R136) -/

/-- The check of entry 12 or 13 of a converter; true when the failure is confirmed. DESIGN CHOICE: one unbroken run of
failures is confirmed once, at its second frame, also where it outlasts a crash (log 35). -/
def refCheck (s : State) (g e : Nat) : State × Bool :=
  let v := conv s g
  let raw := get v.regs 0 e % 65536
  let want := if e = 12 then v.expA else v.expB
  let tol := convCfg s g 7
  let fail := decide (raw + tol < want ∨ want + tol < raw)
  let old := if e = 12 then v.cntA else v.cntB
  let cnt := if fail then incSat old 2 else 0
  let v := if e = 12 then { v with failA := fail, cntA := cnt } else { v with failB := fail, cntB := cnt }
  let s := setConv s g v
  (if fail then occConv s g 6 1 else s, fail && decide (old = 1))

/-- The reference checks decided in slot k, in the order of R137. -/
def refChecks (s : State) (k : Nat) : State × List (Nat × Nat) :=
  if s.sup.mode = .boot ∧ 16 < s.boot.refFrames then (s, [])
  else (List.range 8).foldl (fun (acc : State × List (Nat × Nat)) g =>
    match ranIn (conv acc.1 g) k with
    | some e =>
      if e = 12 ∨ e = 13 then
        let (s, hit) := refCheck acc.1 g e
        (s, if hit then acc.2 ++ [(4, 0xC0 + 2 * g + (e - 12))] else acc.2)
      else acc
    | none => acc) (s, [])

/-- The channels whose scheduled sample is decided in slot k, lowest first; unused ones are never judged (R84). -/
def judgedIn (s : State) (k : Nat) : List Nat :=
  (List.range 8).filterMap fun g =>
    match ranIn (conv s g) k with
    | some e => if e < 12 ∧ (chan s (12 * g + e)).kindEff ≠ 0 then some (12 * g + e) else none
    | none => none

/-- The decisions of one slot (R119, R127, R128, R136, R137). -/
def judgeSlot (s : State) (k : Nat) : State :=
  let (s, refs) := refChecks s k
  if s.sup.mode = .boot then if refs.isEmpty then s else enterHold s 5
  else
    let s := refs.foldl (fun s _ => raise s 7) s
    let j := (judgedIn s k).foldl judgeSample { state := s, ovs := [], uvs := [] }
    let (s, pairs) := comparePairs j.state k
    crash s (refs ++ j.ovs ++ j.uvs ++ pairs)

/-- A lockstep mismatch crashes the device (R30); in BOOT and SLEEP it is not judged (R215). -/
def lockstep (s : State) : State :=
  if s.sup.mode = .boot ∨ s.sup.mode = .sleep then s
  else crash (raise s 41) [(5, 0xFF)]

end Sys2Proof.Machine
end

