-- ==== Sys2Proof/Machine/Pods.lean ====
section
/-!
DEFINITION. The pod unit: flights, landings, failures and retries (R141 to R180), and the ordered descent
(R185 to R200).
-/
namespace Sys2Proof.Machine

/-! ## Small readings -/

def podCtrl (s : State) (p : Nat) : Nat := podCfg s p 1
def retryEn (s : State) (p : Nat) : Bool := bit (podCtrl s p) 7
def failCrash (s : State) (p : Nat) : Bool := bit (podCtrl s p) 6
def retryCount (s : State) (p : Nat) : Nat := if retryEn s p then fld (podCtrl s p) 8 4 else 0

/-- The pod and its parents up to pod 0; fuel bounds the depth (R143). -/
def chainN (s : State) : Nat → Nat → List Nat
  | 0, _ => []
  | f + 1, p =>
    match (pod s p).parent with
    | some a => p :: chainN s f a
    | none => [p]

def chain (s : State) (p : Nat) : List Nat := chainN s 48 p

/-- The pods below a pod. -/
def below (s : State) (p : Nat) : List Nat :=
  (podsInUse s).filter fun d => !decide (d = p) && (chain s d).contains p

/-- Insert a pod behind every pod of the same or a greater depth. -/
def insertDeep (s : State) (p : Nat) : List Nat → List Nat
  | [] => [p]
  | x :: r => if (pod s x).depth < (pod s p).depth then p :: x :: r else x :: insertDeep s p r

/-- Pods in the evaluation order of R146: decreasing depth, then increasing number. -/
def deepFirst (s : State) (l : List Nat) : List Nat := l.foldl (fun a p => insertDeep s p a) []

/-- Change a pod's state; pod 0 sets the major mode (R148, R172, R341). -/
def movePod (s : State) (p : Nat) (st : PodSt) : State :=
  let s := setPodSt s p st
  if p = 0 then
    match st with
    | .rising => setMode s .ascend
    | .on => setMode s .run
    | .falling => if (pod s 0).retryActive then setMode s .ascend else setMode s .descend
    | .off => setMode s .standby
    | .failed | .crashed => s
  else s

/-- Entries that wait for an action-queue entry after their switch-off (R200). -/
def aqWaiting (s : State) : Nat :=
  (s.sup.pods.map fun e => (e.2.ents.filter fun x => x.2.wantsQ).length).sum

/-- A pod-unit action finds a free entry, behind the descents that wait for one (R180, R200). -/
def podMayTake (s : State) : Bool := decide (aqWaiting s < aqFree s)

/-- Descent transitions that wait take the entries that are free, in evaluation order (R200). -/
def serveWaiting (s : State) : State :=
  each (deepFirst s (podsInUse s)) s fun s p =>
    each (List.range 32) s fun s k =>
      if (ent s p k).wantsQ && decide (0 < aqFree s) then
        modEnt s p k fun e => { e with wantsQ := false, queued := true }
      else s

/-! ## The rise (R160 to R167) -/

/-- A rail entry is reached: its enable asserts and the rail enters RISING (R126, R162). -/
def assertEnable (s : State) (c : Nat) : State :=
  let s := modChan s c fun ch => { ch with
    enable := true, st := .rising, settle := 0, chatter := 0, disch := false, failedEarly := false
    good := none, chatFail := none, descFault := false }
  occPod s 3

/-- A landing's release condition at this boundary; `ons` are the pods ON at the start of step 5 (R163). -/
def released (s : State) (ons : List Nat) (p e : Nat) : Bool :=
  let q := pod s p
  match entRel e with
  | 0 => q.relHost
  | 1 => q.relEng
  | 2 => bit s.pins.podreq (entArg e)
  | 3 => q.relLine
  | 4 => ons.contains (entArg e)
  | 5 => q.relHost || q.relEng
  | _ => false

def failCode : FailCause → Nat
  | .deadline => 1
  | .chatter => 2
  | .landingTimeout => 3
  | .childFailed => 4

/-- A rise failure is recorded: FAIL_INFO, its count and the summary candidate (R173, R183, R195, R259). DESIGN CHOICE:
one that R173 or R195 records in FAIL_INFO "and nothing further" makes its KIND 2 candidate all the same (log 30). -/
def noteFailure (s : State) (p k : Nat) (cause : FailCause) (f : Nat) : State :=
  let s := modPod s p fun q => { q with failCause := some cause, failEntry := k, failFrame := f }
  let e := entryOf s p k
  let raw := if entType e = 1 then (chan s (entArg e)).raw else 0
  candidate (occPod s 7) 2 6 (0x80 + p) f (faultData raw p (failCode cause)) 0

/-- An entry fails: its wait ends, the failure is recorded and waits to be handled (R165 to R167, R173). -/
def failEntry (s : State) (p k : Nat) (cause : FailCause) (f : Nat) : State :=
  let s := modEnt s p k fun e => { e with waiting := false, queued := false, good := false }
  noteFailure (modPod s p fun q => { q with failPend := true }) p k cause f

/-- An entry's wait ends as good (R165). -/
def endWait (s : State) (p k : Nat) : State :=
  modEnt s p k fun e => { e with waiting := false, queued := false, good := true }

/-- The deadline of an entry has passed when frame b opens (R165). -/
def deadlineDue (s : State) (p k b : Nat) : Bool :=
  let dl := entDl (entryOf s p k)
  decide (dl ≠ 0) && decide ((ent s p k).start + dl * podUnit s p ≤ b)

/-- The test of one entry at a boundary of the rise (R165 to R167). An open wait of a child that is FAILED when its
deadline passes fails as CHILD_FAILED (log 30). A child that was good and enters FAILED later fails its entry too. -/
def checkWait (s : State) (p k : Nat) : State :=
  let x := ent s p k
  let e := entryOf s p k
  let b := frame s
  let late := fun (s : State) =>
    if deadlineDue s p k b then failEntry s p k .deadline (x.start + entDl e * podUnit s p - 1) else s
  if entType e = 1 then
    if !x.waiting then s
    else
      let ch := chan s (entArg e)
      match ch.chatFail with
      | some f => failEntry (modChan s (entArg e) fun ch => { ch with chatFail := none }) p k .chatter f
      | none => if ch.good.isSome then endWait s p k else late s
  else
    match (pod s (entArg e)).st with
    | .failed => if x.waiting || x.good then failEntry s p k .childFailed (b - 1) else s
    | .on => if x.waiting then endWait s p k else s
    | _ => if x.waiting then late s else s

def checkWaits (s : State) (p : Nat) : State := each (List.range (flightCount s p)) s fun s k => checkWait s p k

/-- Every rail and child entry of the flight is good, a child while it is ON (R150, R161). -/
def allGood (s : State) (p : Nat) : Bool :=
  (entries s p).all fun (k, e) =>
    decide (entType e = 3) || ((ent s p k).good && (!decide (entType e = 2) || decide ((pod s (entArg e)).st = .on)))

/-- A common start: the flight clock, the entries and the retries begin anew, and the pod's DIS outputs release
(R157, R160, R172, R175, R202). -/
def commonStart (s : State) (p : Nat) (retry : Bool) : State :=
  let s := modPod s p fun q => { q with
    latched := false, cooldown := none, frozen := false, exhausted := false, queueWait := false, held := false
    hf := 0, fc := 0, k := 0, ents := [], startFrame := frame s, relHost := false, relEng := false, relLine := false
    failedLast := false
    retriesUsed := if retry then q.retriesUsed else 0
    retryActive := retry }
  movePod (releaseOwned s p) p .rising

/-! ## The descent (R185 to R196) -/

/-- A member of a descent (R185). -/
inductive Member where
  | rail (k c : Nat)
  | child (k p : Nat)
  | disOnly (c : Nat)
  deriving DecidableEq, Repr

/-- The member's code in GATE (R213). -/
def memberCode : Member → Nat
  | .rail k _ => k
  | .child k _ => k
  | .disOnly c => 0x80 + c

def memberOff (s : State) (p : Nat) : Member → Nat
  | .rail k _ => entOff (entryOf s p k)
  | .child k _ => entOff (entryOf s p k)
  | .disOnly c => disOffDelay (disCfg s c)

/-- Insert behind every member with the same or a smaller off-delay. -/
def insertMember (s : State) (p : Nat) (m : Member) : List Member → List Member
  | [] => [m]
  | x :: r => if memberOff s p m < memberOff s p x then m :: x :: r else x :: insertMember s p m r

/-- The members in increasing off-delay, then flight entries in entry order, then discharge-only members (R190). -/
def members (s : State) (p : Nat) : List Member :=
  let flight := (entries s p).filterMap fun (k, e) =>
    if entType e = 1 then some (Member.rail k (entArg e))
    else if entType e = 2 then some (Member.child k (entArg e)) else none
  (flight ++ (disOnly s p).map Member.disOnly).foldl (fun a m => insertMember s p m a) []

def memberSwOff (s : State) (p : Nat) : Member → Bool
  | .rail k _ | .child k _ => (ent s p k).swOff
  | .disOnly c => (dis s c).swOff

def memberDone (s : State) (p : Nat) : Member → Bool
  | .rail k _ | .child k _ => (ent s p k).swOff && (ent s p k).disd
  | .disOnly c => (dis s c).swOff && (dis s c).disd

/-- A member at the descent start: an entry that was not reached, and a child that is OFF, count as switched off and
discharged; an unreached rail's DIS output asserts (R186). -/
def memberStart (s : State) (p : Nat) (m : Member) : State :=
  match m with
  | .rail k c =>
    if (ent s p k).reached then modEnt s p k fun e => { e with swOff := false, disd := false, wantsQ := false }
    else
      let s := modEnt s p k fun e => { e with swOff := true, disd := true }
      if disEn (disCfg s c) then assertDis s c (frame s) else s
  | .child k q =>
    let off := !(ent s p k).reached || decide ((pod s q).st = .off)
    modEnt s p k fun e => { e with swOff := off, disd := off }
  | .disOnly c => modDis s c fun d => { d with swOff := false, disd := false }

/-- What the closing frame shows of a switched-off member (R185, R187, R199). -/
def memberReached (s : State) (p : Nat) (m : Member) : State :=
  match m with
  | .rail k c =>
    let e := ent s p k
    if e.swOff && !e.disd && (chan s c).disch && decide (e.offFrame < frame s) then
      modEnt s p k fun e => { e with disd := true, queued := false, wantsQ := false }
    else s
  | .child k q =>
    let e := ent s p k
    if e.swOff && !e.disd && decide ((pod s q).st = .off) && decide (e.offFrame < frame s) then
      modEnt s p k fun e => { e with disd := true }
    else s
  | .disOnly c =>
    match (dis s c).watch with
    | some w => if (dis s c).swOff && w.reached then modDis s c fun d => { d with disd := true } else s
    | none => s

/-- A rail or a discharge-only member is switched off (R185, R199, R200). -/
def switchOff (s : State) (p : Nat) (m : Member) : State :=
  match m with
  | .rail k c =>
    let s := occPod (releaseRail s c) 4
    let take := podMayTake s
    let s := modEnt s p k fun e => { e with swOff := true, offFrame := frame s, queued := take, wantsQ := !take }
    if disEn (disCfg s c) then assertDis s c (frame s) else s
  | .child k _ => modEnt s p k fun e => { e with swOff := true, offFrame := frame s }
  | .disOnly c =>
    let s := modDis s c fun d => { d with swOff := true, offFrame := frame s }
    assertDis s c (frame s)

/-- GATE: the first member that is switched off and not reached (R190, R213). -/
def gateOf (s : State) (p : Nat) : Nat :=
  match (members s p).find? fun m => memberSwOff s p m && !memberDone s p m with
  | some m => memberCode m
  | none => 0xFF

/-- The smallest off-delay of a member that has not reached discharged. -/
def gateDelay (s : State) (p : Nat) : Option Nat :=
  ((members s p).find? fun m => !memberDone s p m).map (memberOff s p)

/-- The descent enters FALLING: rise waits end, a held landing is abandoned (R157, R191). -/
def beginDescent (s : State) (p : Nat) (retry : Bool) : State :=
  let s := modPod s p fun q => { q with
    ents := q.ents.map fun x => (x.1, { x.2 with waiting := false, queued := false })
    held := false, hf := 0, queueWait := false, frozen := false, descFrame := frame s
    retryActive := retry, exhausted := q.exhausted && retry }
  movePod s p .falling

/-- A pod below p is forced OFF at p's descent limit (R192). -/
def forceBelow (s : State) (q : Nat) : State :=
  if (pod s q).st = .off then s
  else movePod (modPod s q fun x => { stopPod x with timeout := true }) q .off

/-- The enables and the DIS outputs of one pod at a descent limit (R192). -/
def forceMembers (s : State) (p q : Nat) : State :=
  let live := decide (q = p) || !decide ((pod s q).st = .off)
  let s := each (railEntries s q) s fun s e => releaseRail s e.2
  if live then
    each ((railEntries s q).map (·.2) ++ disOnly s q) s fun s c =>
      if disEn (disCfg s c) then assertDisNew s c (frame s) else s
  else s

def timeoutCrash (s : State) (p : Nat) : Bool := bit (podCfg s p 9) 0

/-! ## One evaluation, with the pods it reaches in the same boundary -/

/-- What is evaluated of a pod: a rise step, a fall step, or the end of its descent. -/
inductive PodOp where
  | rise (p : Nat) (first : Bool)
  | fall (p : Nat) (first : Bool)
  | fallen (p : Nat)
  deriving DecidableEq, Repr

/-- The loop of R161 over the entries that are due; `go` runs a child's first step (R150), `n` bounds the entries. -/
def reach (go : State → PodOp → State) (ons : List Nat) (p : Nat) : Nat → State → State
  | 0, s => s
  | n + 1, s =>
    let q := pod s p
    let e := entryOf s p q.k
    if q.k < flightCount s p ∧ entOn e * podUnit s p ≤ q.fc then
      match entType e with
      | 3 =>
        if released s ons p e then
          reach go ons p n (modPod s p fun q => { q with k := q.k + 1, relHost := false, relEng := false, relLine := false })
        else if podMayTake s then
          let s := modEnt s p q.k fun x => { x with reached := true, start := frame s, queued := true }
          raise (modPod s p fun q => { q with held := true, hf := 0 }) 26
        else modPod s p fun q => { q with queueWait := true }
      | 1 =>
        if podMayTake s then
          let s := assertEnable s (entArg e)
          let s := modEnt s p q.k fun x => { x with reached := true, waiting := true, start := frame s, queued := true }
          reach go ons p n (modPod s p fun q => { q with k := q.k + 1 })
        else modPod s p fun q => { q with queueWait := true }
      | 2 =>
        let s := modEnt s p q.k fun x => { x with reached := true, waiting := true, start := frame s }
        let s := modPod s p fun q => { q with k := q.k + 1 }
        let st := (pod s (entArg e)).st
        let s :=
          if st = .off ∨ st = .failed then go (commonStart s (entArg e) false) (.rise (entArg e) true)
          else if st = .falling then modPod s (entArg e) fun q => { q with latched := true }
          else s
        reach go ons p n s
      | _ => s
    else s

/-- The end of a rise step: the waits, then ON when the flight is complete (R161). -/
def riseEnd (s : State) (p : Nat) : State :=
  let s := checkWaits s p
  let q := pod s p
  if decide (q.st = .rising) && decide (q.k = flightCount s p) && !q.held && !q.queueWait && allGood s p then
    movePod (modPod s p fun q => { q with retryActive := false }) p .on
  else s

/-- The switch-offs of one boundary, in order; `go` runs a child's first fall step (R189, R190). -/
def switchAll (go : State → PodOp → State) (p : Nat) (gate : Option Nat) : List Member → State → State
  | [], s => s
  | m :: r, s =>
    let off := memberOff s p m
    let due := !memberSwOff s p m && decide (off * podUnit s p ≤ (pod s p).dc) &&
      (match gate with
       | some g => decide (off ≤ g)
       | none => true)
    let s :=
      if due then
        let s := switchOff s p m
        match m with
        | .child _ q =>
          let x := pod s q
          match x.st with
          | .on => go (beginDescent s q false) (.fall q true)
          | .rising =>
            if x.cooldown.isSome then
              movePod (modPod s q fun x => { x with cooldown := none, retryActive := false }) q .off
            else go (beginDescent s q false) (.fall q true)
          | .falling => modPod s q fun x => { x with latched := false }
          | .failed => movePod s q .off
          | .off | .crashed => s
        | _ => s
      else s
    switchAll go p gate r s

/-- Evaluate a pod (R150, R161, R171, R190, R191). The fuel bounds the pods that one evaluation reaches in turn.
R190 assigns GATE only while members wait; DESIGN CHOICE: after a descent it reads 0xFF (log 30). -/
def podOp (ons : List Nat) : Nat → State → PodOp → State
  | 0, s, _ => s
  | f + 1, s, .rise p first =>
    let go := podOp ons f
    let q := pod s p
    let clear := fun (q : Pod) => { q with queueWait := false }
    if !first && q.held then
      let e := entryOf s p q.k
      if released s ons p e then
        let s := modEnt s p q.k fun x => { x with queued := false }
        let s := modPod s p fun q => { q with
          held := false, hf := 0, k := q.k + 1, relHost := false, relEng := false, relLine := false }
        riseEnd (reach go ons p 33 s) p
      else
        let s := modPod s p fun q => { q with hf := q.hf + 1 }
        let s :=
          if entDl e ≠ 0 ∧ entDl e * podUnit s p ≤ q.hf + 1 then failEntry s p q.k .landingTimeout (frame s - 1)
          else s
        checkWaits s p
    else
      let s := if first || q.queueWait then s else modPod s p fun q => { q with fc := q.fc + 1 }
      riseEnd (reach go ons p 33 (modPod s p clear)) p
  | f + 1, s, .fall p first =>
    let go := podOp ons f
    let s :=
      if first then
        each (members s p) (modPod s p fun q => { q with
          dc := 0, timeout := false, descFault := false, disFault := false }) fun s m => memberStart s p m
      else modPod s p fun q => { q with dc := q.dc + 1 }
    let s := each (members s p) s fun s m => memberReached s p m
    if (members s p).all (memberDone s p) then go s (.fallen p)
    else if !first && decide (podCfg s p 8 * podUnit s p ≤ (pod s p).dc) then
      if timeoutCrash s p then
        { raise s 4 with causes := s.causes ++ [(7, 0x80 + p)] }
      else
        let low := deepFirst s (below s p)
        let s := each (low ++ [p]) s fun s q => forceMembers s p q
        let s := each low s forceBelow
        let s := modPod s p fun q => { q with timeout := true }
        go (raise s 4) (.fallen p)
    else
      let s := switchAll go p (gateDelay s p) (members s p) s
      if (pod s p).st = .falling then modPod s p fun q => { q with gate := gateOf s p } else s
  | f + 1, s, .fallen p =>
    let go := podOp ons f
    let q := pod s p
    let s := modPod s p fun q => { q with ents := [], gate := 0xFF, frozen := false }
    if q.exhausted then
      let s := raise (modPod s p fun q => { q with exhausted := false }) 2
      if failCrash s p then { s with causes := s.causes ++ [(6, 0x80 + p)] }
      else
        let s := movePod (modPod s p fun q => { q with retryActive := false }) p .failed
        let s := if p = 0 then movePod (modPod s 0 fun q => { q with failedLast := true }) 0 .off else s
        if q.latched then go (commonStart s p false) (.rise p true) else s
    else if q.retryActive && !q.latched then
      if podCfg s p 2 = 0 then go (commonStart s p true) (.rise p true)
      else movePod (modPod s p fun q => { q with cooldown := some (frame s) }) p .rising
    else
      let s := movePod (modPod s p fun q => { q with retryActive := false }) p .off
      if q.latched then go (commonStart s p false) (.rise p true) else s

/-- Enough for every chain of parents, each with a fall, an end and a rise. -/
def podFuel : Nat := 200

/-! ## Failures (R168 to R174) -/

/-- The retry scope of a pod (R168). -/
def scopeOf (s : State) (p : Nat) : Nat := ((chain s p).find? fun a => retryEn s a).getD 0

/-- A pod below a scope that starts a retry descent (R173). DESIGN CHOICE: the cancelled retries include a descent that
had no retry left, which then ends in OFF, and a latched rise is no flight and stays (log 30). -/
def freeze (s : State) (d : Nat) : State :=
  let q := pod s d
  let s := modPod s d fun q => { q with retryActive := false, exhausted := false, cooldown := none }
  if q.cooldown.isSome then movePod s d .off
  else if q.st = .rising then
    modPod s d fun q => { q with
      held := false, hf := 0, queueWait := false, frozen := true
      ents := q.ents.map fun x => (x.1, { x.2 with waiting := false, queued := false }) }
  else s

/-- The retry scope starts its retry descent (R169, R171). -/
def startRetry (s : State) (ons : List Nat) (p : Nat) : State :=
  let n := retryCount s p
  let left := decide (n = 15) || decide ((pod s p).retriesUsed < n)
  let s := modPod s p fun q => { q with
    retryActive := true, exhausted := !left, cooldown := none
    retriesUsed := if left then incSat q.retriesUsed 255 else q.retriesUsed }
  let s := if left then occPod (raise s 3) 6 else s
  let s := each (below s p) s freeze
  podOp ons podFuel (beginDescent s p true) (.fall p true)

/-- One failure of this boundary (R173): it is only recorded when its scope or a pod around it is FALLING. -/
def handleFailure (s : State) (ons : List Nat) (p : Nat) : State :=
  let sc := scopeOf s p
  let st := (pod s sc).st
  let quiet := (chain s p).any fun a => decide ((pod s a).st = .falling)
  if !quiet && decide ((pod s p).st = .rising) && decide (st = .rising ∨ st = .on) then startRetry s ons sc else s

/-- The scope of x is a pod around the scope of p. -/
def aroundScope (s : State) (p x : Nat) : Bool :=
  !decide (scopeOf s x = scopeOf s p) && (chain s (scopeOf s p)).contains (scopeOf s x)

/-- A pod whose flight runs (R161, R173). -/
def flies (q : Pod) : Bool := decide (q.st = .rising) && !q.frozen && q.cooldown.isNone

/-- The failures that wait, in the order of R146. -/
def waitingFailures (s : State) : List Nat := (deepFirst s (podsInUse s)).filter fun p => (pod s p).failPend

/-- The entries of a child that has entered FAILED as its descent ended at once fail in this boundary too (R146,
R167). -/
def failParents (s : State) : State :=
  each ((deepFirst s (podsInUse s)).filter fun p => flies (pod s p)) s fun s p =>
    each (childEntries s p) s fun s e => if (pod s e.2).st = .failed then checkWait s p e.1 else s

/-- One failure is handled, and the entry of a child that has entered FAILED with it fails too (R167, R173). -/
def takeFailure (s : State) (ons : List Nat) (p : Nat) : State :=
  failParents (handleFailure (modPod s p fun q => { q with failPend := false }) ons p)

/-- The failures that a failure brings about in this boundary where it is handled alone: that of its parent's entry, and
so on up the tree, whose depth bounds them. -/
def failureChain (ons : List Nat) : Nat → State → Nat → List Nat
  | 0, _, _ => []
  | n + 1, s, p =>
    let t := takeFailure s ons p
    match waitingFailures t with
    | x :: _ => x :: failureChain ons n t x
    | [] => []

/-- A failure that brings about one whose scope is around the scope of another failure of this boundary: that one comes
before the other, and so does its origin (R173). -/
def bringsFirst (s : State) (ons l : List Nat) (p : Nat) : Bool :=
  let others := l.erase p
  let alone := each others s fun s q => modPod s q fun q => { q with failPend := false }
  !others.isEmpty && (failureChain ons 48 alone p).any fun x => others.any fun q => aroundScope s q x

/-- The failure that is handled next: the first in the order of R146, but none before one whose scope is an ancestor of its
own (R173). -/
def nextFailure (s : State) (ons : List Nat) : Option Nat :=
  let l := waitingFailures s
  match l.find? (bringsFirst s ons l) with
  | some p => some p
  | none => l.find? fun p => !l.any (aroundScope s p)

/-- The failures found in this boundary, one after the other (R173). A pod fails once in a boundary, which bounds them. -/
def handleFailures (ons : List Nat) : Nat → State → State
  | 0, s => s
  | n + 1, s =>
    match nextFailure s ons with
    | some p => handleFailures ons n (takeFailure s ons p)
    | none => s

/-! ## The boundary's evaluation (R146) -/

/-- The re-ascent of a retry is due (R170). -/
def cooldownDue (s : State) (p : Nat) : Bool :=
  match (pod s p).cooldown with
  | some o => decide (o + podCfg s p 2 * podUnit s p ≤ frame s)
  | none => false

/-- Evaluate one pod at step 5 (R146). -/
def evalPod (ons : List Nat) (s : State) (p : Nat) : State :=
  let q := pod s p
  match q.st with
  | .rising =>
    if q.frozen then s
    else if q.cooldown.isSome then
      if cooldownDue s p then podOp ons podFuel (commonStart s p true) (.rise p true) else s
    else podOp ons podFuel s (.rise p (decide (q.startFrame = frame s)))
  | .falling => podOp ons podFuel s (.fall p (decide (q.descFrame = frame s)))
  | _ => s

/-- A chatter failure of the closing frame outside a wait is recorded only (R173, R195). -/
def recordChatter (s : State) (c : Nat) : State :=
  match (chan s c).chatFail, railOwner s c with
  | some f, some p =>
    match (railEntries s p).find? fun e => decide (e.2 = c) with
    | some (k, _) =>
      if (ent s p k).waiting then s
      else noteFailure (modChan s c fun ch => { ch with chatFail := none }) p k .chatter f
    | none => s
  | _, _ => s

/-- A descent fault of the closing frame releases its rail (R196). -/
def releaseFaulted (s : State) (c : Nat) : State :=
  if (chan s c).descFault then
    match fallingPod s c with
    | some _ => releaseRail s c
    | none => modChan s c fun ch => { ch with descFault := false }
  else s

/-- The channels listed in the channel table. -/
def listedChans (s : State) : List Nat := s.sup.chans.map (·.1)

/-- Step 5 of the pod unit (R146, R161, R173, R190, R196, R200). DESIGN CHOICE: the failures are handled when every pod
has been evaluated, so that the flights inside a failing scope still reach what is due in this boundary (log 30). -/
def evalPods (s : State) : State :=
  let ons := (podsInUse s).filter fun p => decide ((pod s p).st = .on)
  let s := each (listedChans s) s recordChatter
  let s := each (listedChans s) s releaseFaulted
  let s := serveWaiting s
  let s := (deepFirst s (podsInUse s)).foldl (evalPod ons) s
  let s := handleFailures ons 100 s
  let s := serveWaiting s
  let s := each (listedChans s) s fun s c => modChan s c fun ch => { ch with good := none, chatFail := none }
  let s := each (podsInUse s) s fun s p =>
    modPod s p fun q => { q with relHost := false, relEng := false, relLine := false }
  let s := if (podsInUse s).any fun p => (pod s p).queueWait then occPod s 2 else s
  if (podsInUse s).any fun p => (pod s p).held then occPod s 5 else s

/-! ## Requests (R151 to R158, R184) -/

/-- Where a request to a pod comes from, and the REQ_SRC bit that admits it. -/
inductive PodSrc where
  | pin | line | host | engine
  /-- R227. -/
  | auto
  deriving DecidableEq, Repr

def srcAdmitted (s : State) (p : Nat) (src : PodSrc) : Bool :=
  let v := podCfg s p 4
  match src with
  | .host => bit v 3
  | .engine => bit v 2
  | .pin => bit v 1
  | .line => bit v 0
  | .auto => true

/-- The refusals of R184 for a rise or fall request, in their order. -/
def podRefusal (s : State) (p : Nat) (rise : Bool) (src : PodSrc) : Option Nat :=
  let q := pod s p
  if !q.inUse then some 6
  else if s.sup.crash.latched || decide (q.st = .crashed) then some 7
  else if !srcAdmitted s p src then some 5
  else if p ≠ 0 ∧ (match q.parent with | some a => decide ((pod s a).st = .on) | none => false) = false then some 6
  else if rise && (pod s 0).treeErr then some 8
  else if rise && decide (s.sup.mode = .service ∨ s.sup.mode = .sleep) then some 4
  else none

/-- A rise request handled at step 4 (R157). -/
def riseRequest (s : State) (p : Nat) (src : PodSrc) : State × Nat :=
  match podRefusal s p true src with
  | some c => (s, c)
  | none =>
    match (pod s p).st with
    | .off | .failed => (commonStart s p false, 2)
    | .falling => (modPod s p fun q => { q with latched := true }, 3)
    | .crashed => (s, 7)
    | _ => (s, 4)

/-- A fall request handled at step 4 (R157). -/
def fallRequest (s : State) (p : Nat) (src : PodSrc) : State × Nat :=
  match podRefusal s p false src with
  | some c => (s, c)
  | none =>
    let q := pod s p
    match q.st with
    | .off => (s, 4)
    | .rising =>
      if q.cooldown.isSome then
        (movePod (modPod s p fun q => { q with cooldown := none, retryActive := false }) p .off, 2)
      else (beginDescent s p false, 2)
    | .on => (beginDescent s p false, 2)
    | .falling => if q.latched then (modPod s p fun q => { q with latched := false }, 2) else (s, 4)
    | .failed => (movePod s p .off, 2)
    | .crashed => (s, 7)

/-- A landing release handled at step 4 (R163, R164, R184). -/
def releaseRequest (s : State) (p : Nat) (src : PodSrc) : State × Nat :=
  let q := pod s p
  let rel := entRel (entryOf s p q.k)
  let host := decide (src = .host)
  if !q.inUse then (s, 6)
  else if s.sup.crash.latched || decide (q.st = .crashed) then (s, 7)
  else if !q.held then (s, 9)
  else if rel = 5 ∨ (rel = 0 ∧ host) ∨ (rel = 1 ∧ !host) then
    (modPod s p fun q => if host then { q with relHost := true } else { q with relEng := true }, 2)
  else (s, 5)

end Sys2Proof.Machine
end

