-- ==== Sys2Proof/Machine/Margins.lean ====
section
/-!
DEFINITION. Margins and pips (R289 to R308), and the waveform and stream records of a completed pip (R483, R486).
-/
namespace Sys2Proof.Machine

def pipping (m : Margin) : Bool := decide (m.st = .pipBaseline ∨ m.st = .pipCapture)

/-- REQ_STAT of a requester for a channel (R308). -/
def marginStat (s : State) (r : Requester) (c code : Nat) : State :=
  modReq s r fun q => { q with marginStat := put q.marginStat 0 c code }

/-- Condition 1 of R293 and R299. -/
def marginAdmits (s : State) (r : Requester) (c : Nat) : Bool :=
  if isHost r then bit (marginCfg s c 1) 5 else bit (marginCfg s c 1) 4

/-- The pod of a rail is ON. -/
def railPodOn (s : State) (c : Nat) : Bool :=
  match railOwner s c with
  | some p => decide ((pod s p).st = .on)
  | none => false

/-- Condition 2 of R293. -/
def marginReady (s : State) (c : Nat) : Bool :=
  let ch := chan s c
  decide (s.sup.mode = .run) && decide (ch.kindEff = 1 ∨ ch.kindEff = 3) && decide (ch.st = .running) &&
  railPodOn s c && !ch.thrErr

/-- A raw value lies inside the warning window by the guard (R293, R299). -/
def insideGuard (s : State) (c guard v : Nat) : Bool :=
  decide (chanCfg s c 9 + guard ≤ v ∧ v + guard ≤ chanCfg s c 8)

/-- A margin target handled at step 4 (R293, R294). -/
def marginRequest (s : State) (r : Requester) (c target : Nat) : State :=
  let m := margin s c
  if !marginAdmits s r c then marginStat s r c 3
  else if !marginReady s c then marginStat s r c 4
  else if !insideGuard s c (marginCfg s c 5) target then marginStat s r c 5
  else if pipping m then marginStat s r c 6
  else if m.st = .idle ∧ aqAdmits s = false then occPod (marginStat s r c 7) 8
  else
    let s := setMargin s c { m with
      st := .servoing, target := target, cut := false, outEn := true, rc := marginCfg s c 3 - 1 }
    marginStat s r c 2

/-- The walk back begins (R297, R298). -/
def startReturn (s : State) (c : Nat) : State :=
  modMargin s c fun m => { m with st := .returning, rc := marginCfg s c 3 - 1 }

/-- A release handled at step 4 (R297). -/
def marginReleaseRequest (s : State) (r : Requester) (c : Nat) : State :=
  if !marginAdmits s r c then marginStat s r c 3
  else
    match (margin s c).st with
    | .pipBaseline | .pipCapture => marginStat s r c 6
    | .idle | .returning => marginStat s r c 2
    | _ => marginStat (startReturn s c) r c 2

/-- A pip runs on a channel of the same converter (R299). -/
def converterPips (s : State) (c : Nat) : Bool :=
  (List.range 12).any fun e => pipping (margin s (12 * groupOf c + e))

/-- A pip request handled at step 4 (R299, R300). -/
def pipRequest (s : State) (r : Requester) (c stepVal : Nat) : State :=
  let m := margin s c
  let step := s16 stepVal
  if !marginAdmits s r c then marginStat s r c 3
  else if !(marginReady s c && bit (marginCfg s c 1) 3) then marginStat s r c 4
  else if !(insideGuard s c (marginCfg s c 5) (chan s c).raw &&
      decide ((m.code + step).natAbs ≤ marginCfg s c 2)) then marginStat s r c 5
  else if !(decide (m.st = .idle ∨ m.st = .reached) && !converterPips s c) then marginStat s r c 6
  else if !aqAdmits s then occPod (marginStat s r c 7) 8
  else
    let s := setMargin s c { m with
      st := .pipBaseline, fromReached := decide (m.st = .reached), outEn := true, pipP := frame s
      pipH := marginCfg s c 6, pipBand := marginCfg s c 7, pipGuard := marginCfg s c 5
      pipStep := step, pipCode0 := m.code, base := [], caps := [], pipOut := false }
    marginStat s r c 2

/-! ## The servo (R296) -/

/-- The margin is over: MGnn high impedance and the queue entry freed (R296, R298). -/
def marginIdle (m : Margin) : Margin :=
  { m with st := .idle, code := 0, outEn := false, rc := 0, target := 0, fromReached := false }

/-- A changed DAC code is counted (R471). -/
def setCode (s : State) (c : Nat) (code : Int) : State :=
  if (margin s c).code = code then s else occPod (modMargin s c fun m => { m with code := code }) 9

/-- The servo enters a state in which it rests, with event 27 on the change (R296). -/
def servoRest (s : State) (c : Nat) (st : Servo) : State :=
  if (margin s c).st = st then s else raise (modMargin s c fun m => { m with st := st }) 27

/-- servo_step of R296. -/
def servoStep (s : State) (c : Nat) : State :=
  let m := margin s c
  if m.rc + 1 < marginCfg s c 3 then modMargin s c fun m => { m with rc := m.rc + 1 }
  else
    let s := modMargin s c fun m => { m with rc := 0 }
    if m.st = .returning then
      let code := if 0 < m.code then m.code - 1 else if m.code < 0 then m.code + 1 else 0
      let s := setCode s c code
      if code = 0 then raise (modMargin s c marginIdle) 27 else s
    else
      let raw := (chan s c).raw
      let band := marginCfg s c 4
      let dir : Int := if bit (marginCfg s c 1) 2 then -1 else 1
      let want? : Option Int :=
        if m.target + band < raw then some (m.code + dir)
        else if raw + band < m.target then some (m.code - dir) else none
      match want? with
      | none => servoRest s c .reached
      | some want =>
        if marginCfg s c 2 < want.natAbs then servoRest s c .atLimit
        else
          let s := setCode s c want
          if m.st = .atLimit then modMargin s c fun m => { m with st := .servoing } else s

/-! ## The pip (R300 to R304) -/

/-- The magnitude decides; the earliest sample wins on equal magnitude (R301). -/
def peakOf (l : List Int) : Int := l.foldl (fun a d => if a.natAbs < d.natAbs then d else a) 0

/-- Division to nearest, halves away from zero, for a signed divisor (R301). -/
def divSigned (p d : Int) : Int := if d < 0 then divNear (-p) d.natAbs else divNear p d.natAbs

/-- The smallest i from which every deviation lies in the band (R301). -/
def settleOf (l : List Int) (ss : Int) (band : Nat) : Nat :=
  ((List.range (l.length + 1)).find? fun i => (l.drop i).all fun d => decide ((d - ss).natAbs ≤ band)).getD l.length

/-- The results of a completed pip (R301, R304). -/
structure PipOut where
  base : Nat
  peak : Int
  settle : Nat
  gain : Int
  deriving DecidableEq, Repr

def pipResults (m : Margin) : PipOut :=
  let b := (divNear (Int.ofNat m.base.sum) 8).toNat
  let d := m.caps.map fun v => Int.ofNat v - Int.ofNat b
  let sum16 := (lastN 16 d).foldl (fun a x => a + x) 0
  let ss := divNear sum16 16
  let peak := peakOf d
  { base := b
    peak := if 32767 < peak then 32767 else if peak < -32768 then -32768 else peak
    settle := settleOf d ss m.pipBand
    gain := divSigned (sum16 * 4096) m.pipStep }

/-- PIP_RESULT (R307). -/
def pipWord (o : PipOut) (step : Int) : Nat := tc 16 o.peak * 65536 + o.settle * 128 + tc 7 step

/-- Three samples of a PIP_DATA record (R486). -/
def pipData (stored : List Nat) (i : Nat) : List Byte :=
  bytes 1 0xA6 ++ bytes 1 i ++ bytes 2 (stored.getD i 0) ++ bytes 2 (stored.getD (i + 1) 0) ++
  bytes 2 (stored.getD (i + 2) 0)

/-- The waveform of a completed pip in the gallery RAM, while the gallery is in use (R483, R502, R505). -/
def pipWave (s : State) (c : Nat) (m : Margin) (o : PipOut) (f : Nat) : State :=
  let stored := m.caps.take 64
  let bs := bytes 2 c ++ bytes 2 (tc 16 m.pipStep) ++ bytes 2 o.base ++ bytes 2 stored.length ++ bytes 8 f ++
    zeros 48 ++ padTo 128 (stored.flatMap (bytes 2 ·))
  let s := { s with gal := { s.gal with ram := galStore s.gal.ram 0x100 bs } }
  if bit (galCtrl s) 4 then
    let s := record s (bytes 1 0xA5 ++ bytes 1 c ++ bytes 1 (tc 8 m.pipStep) ++ bytes 2 o.base ++ bytes 3 f)
    each (List.range 22) s fun s i => record s (pipData stored (3 * i))
  else s

/-- The pip's queue entry is freed and the servo resumes, or the margin ends (R300, R302). A margin cut while it was
paused returns (R298, R305). -/
def pipResume (s : State) (c : Nat) : State :=
  let m := margin s c
  let s := setCode s c m.pipCode0
  if m.fromReached then
    let s := modMargin s c fun m => { m with st := .reached, fromReached := false, base := [], caps := [], pipOut := false }
    if m.cut then startReturn s c else s
  else modMargin s c fun m => { marginIdle m with base := [], caps := [], pipOut := false }

/-- A pip is aborted (R302). -/
def pipAbort (s : State) (c : Nat) : State :=
  let n := (margin s c).caps.length
  let s := modMargin s c fun m => { m with pipStatus := 2 ^ 13 + n }
  pipResume (raise s 28) c

/-- The capture ends: results, event 28, the summary candidate and the waveform (R301, R304). -/
def pipComplete (s : State) (c : Nat) : State :=
  let m := margin s c
  let o := pipResults m
  let f := m.pipP + 8
  let s := modMargin s c fun m => { m with
    pipResult := pipWord o m.pipStep, pipGain := tc 32 o.gain, pipBase := o.base, pipFrame := f
    pipStatus := 2 ^ 15 + flg (decide (o.settle = m.caps.length)) 14 + m.caps.length }
  let s := raise s 28
  let s := candidate s 4 0 c f (pipWord o m.pipStep) (tc 32 o.gain)
  pipResume (pipWave s c m o f) c

/-- The baseline ends: the step is applied and the capture begins (R300). -/
def pipCaptureStart (s : State) (c : Nat) : State :=
  let m := margin s c
  let s := modMargin s c fun m => { m with
    st := .pipCapture, pipBaseNow := (divNear (Int.ofNat m.base.sum) 8).toNat }
  setCode s c (m.pipCode0 + m.pipStep)

/-- The scheduled sample of the closing frame as the pip takes it: a baseline sample, and the abort test (R300, R302). -/
def pipSample (s : State) (c : Nat) : State :=
  let raw := (chan s c).raw
  let out := decide (raw < chanCfg s c 9 ∨ chanCfg s c 8 < raw)
  modMargin s c fun m => { m with
    base := if m.st = .pipBaseline then m.base ++ [raw] else m.base
    pipOut := m.pipOut || out }

/-- The pip can go on (R302). -/
def pipAlive (s : State) (c : Nat) : Bool :=
  !(margin s c).pipOut && decide ((chan s c).st = .running) && railPodOn s c && decide (s.sup.mode = .run)

/-- The boundary that opens frame b ends the baseline (R300). -/
def baselineDue (s : State) (c : Nat) : Bool :=
  let m := margin s c
  decide (m.st = .pipBaseline) && decide (m.pipP + 8 ≤ frame s)

/-- The boundary that opens frame b ends the capture (R300). -/
def captureDue (s : State) (c : Nat) : Bool :=
  let m := margin s c
  decide (m.st = .pipCapture) && decide (m.pipP + 8 + m.pipH ≤ frame s)

/-- One pip at step 5 (R300 to R302). -/
def pipStep (s : State) (c : Nat) : State :=
  if !pipAlive s c then pipAbort s c
  else if baselineDue s c then pipCaptureStart s c
  else if captureDue s c then pipComplete s c
  else s

/-- What ends a margin without a request (R298). -/
def marginEnd (s : State) (c : Nat) : State :=
  let m := margin s c
  let ch := chan s c
  if m.st = .idle then s
  else if !ch.enable || !decide (ch.st = .running) then
    let s := if m.code = 0 then s else occPod s 9
    raise (modMargin s c fun m => { marginIdle m with base := [], caps := [], pipOut := false }) 27
  else if !railPodOn s c || !decide (s.sup.mode = .run) then
    match m.st with
    | .servoing | .reached | .atLimit => startReturn s c
    | _ => s
  else s

/-- A committed set has made the active target break condition 3 of R293 (R298, R305). -/
def guardCut (s : State) (c : Nat) : State :=
  let m := margin s c
  if insideGuard s c (marginCfg s c 5) m.target then s
  else
    match m.st with
    | .servoing | .reached | .atLimit => startReturn (modMargin s c fun m => { m with cut := true }) c
    | .pipBaseline | .pipCapture =>
      if m.fromReached then modMargin s c fun m => { m with cut := true } else s
    | _ => s

/-- One channel of the margin servo at step 5, after the pod unit (R296). -/
def marginChannel (s : State) (c : Nat) : State :=
  let s := if pipping (margin s c) then pipStep s c else s
  let s := marginEnd s c
  match (margin s c).st with
  | .servoing | .reached | .atLimit | .returning => servoStep s c
  | _ => s

/-- A pip whose step or results fell due at this boundary resumes at its next evaluation; every other active channel
takes its step now (R296, R300). -/
def evalMargins (s : State) : State := each (activeMargins s) s marginChannel

/-- The samples of the closing frame, taken before the requests of step 4 admit new pips (R300). -/
def samplePips (s : State) : State :=
  each ((activeMargins s).filter fun c => pipping (margin s c)) s pipSample

end Sys2Proof.Machine
end

