-- ==== Sys2Proof/Machine/Line.lean ====
section
/-!
DEFINITION. The fault-line unit: the line cycle, synchronisation, heartbeats and partners (R229 to R241), line commands
(R242, R243), FAULT and the arbitration (R244 to R250), and the clearing of a crash (R222 to R227).
-/
namespace Sys2Proof.Machine

/-! ## Readings -/

/-- The partners: EXPECT without the own bit; a standalone device judges none (R237, R238). -/
def isPartner (s : State) (i : Nat) : Bool :=
  decide (s.sup.line.index ≠ 15) && decide (i < 15) && !decide (i = s.sup.line.index) && bit (lineCfg s 2) i

/-- BOOT and SLEEP leave the line unit stopped (R233, R251). -/
def lineModes (m : Mode) : Bool := serviceable m

/-- The unit drives pulses (R218, R231, R233, R237). -/
def sending (s : State) : Bool :=
  let l := s.sup.line
  isSynced l && !decide (l.index = 15) && !s.sup.crash.latched && lineModes s.sup.mode && decide (l.sendFrom ≤ l.cycle)

/-- The line tick (R231). -/
def lineTick (s : State) : Nat := s.clk.time - s.sup.line.base

/-- The line cycles that the unit has counted since it started (R254). -/
def cyclesNow (s : State) : Nat := s.sup.line.cycle + lineTick s / 3200

/-- LINE_CYCLE (R254): the unit runs from STANDBY entry on, a standalone one and one of a crashed device too. -/
def lineAge (s : State) : Nat := if lineModes s.sup.mode then cyclesNow s else 0

/-- The next instant at which tick p of the line cycle begins. -/
def nextAt (s : State) (p : Nat) : Nat :=
  if lineTick s ≤ p then s.sup.line.base + p else s.sup.line.base + 3200 + p

/-- R241: no missing heartbeat is counted in CRASH and in a line cycle with a FAULT or an arbitration. What the crash tick
itself finds is found with the cause of the crash (R216). -/
def missesSuspended (s : State) : Bool := (decide (s.sup.mode = .crash) && !crashTick s) || s.sup.line.faultCycle

/-- FLT shows a low period of 128 ticks or more (R248). -/
def faultShown (s : State) : Bool :=
  let l := s.sup.line
  l.low && (l.fault || decide (l.fall + 127 ≤ s.clk.time))

/-- The lower indexes of a mask. -/
def lowerIn (l : Line) (mask : Nat) : Nat := mask % 2 ^ l.index

/-! ## Start (R233, R238, R253) -/

/-- The partners of EXPECT with the join window that begins now (R238). -/
def freshJoins (s : State) (index : Nat) : Map (Nat × Nat) :=
  if index = 15 then []
  else ((List.range 15).filter fun i => !decide (i = index) && bit (lineCfg s 2) i).map fun i =>
    (i, (s.clk.time, lineCfg s 3))

/-- The unit starts: it stops its drive, forgets its partners and listens (R224, R233, R253). DESIGN CHOICE: a line
command that R242 has accepted stays pending (log 20). -/
def startLine (s : State) : State :=
  let index := fld (lineCfg s 1) 0 4
  modLine s fun l => { Line.reset with
    index := index, role := .listening, base := s.clk.time, start := s.clk.time, listenAt := s.clk.time
    joins := freshJoins s index
    pending := l.pending, cmdReq := l.cmdReq
    low := l.low, others := l.others, wait := l.wait, fall := l.fall, rise := l.rise, fault := l.fault
    faultEnd := l.faultEnd, faultFrame := l.faultFrame }

/-- Stop without a start: reset, BOOT-HOLD, SLEEP and collapse leave FLT undriven (R251). DESIGN CHOICE: a line command that
waits at SLEEP entry is dropped unsent, and CMD_STAT of its requester stays 1 (R242, R254; log 20). -/
def stopLine (s : State) : State :=
  modLine s fun l => { Line.reset with
    index := l.index, low := l.low, others := l.others, wait := l.wait, fall := l.fall, rise := l.rise, fault := l.fault
    faultEnd := l.faultEnd, faultFrame := l.faultFrame }

/-- Listening begins anew, and nothing is driven (R235). The line cycle goes on, and the heartbeats accepted in it stay, for
PRESENT (R254). -/
def relisten (s : State) : State :=
  modLine (occLine s 7) fun l => { l with
    role := .listening, listenAt := s.clk.time, hist := [], syncSeen := false
    syncDrive := none, hbDrive := none, cmdDrive := none, firstPulse := none }

/-! ## The line cycle (R231, R234, R236, R239) -/

/-- The acceptance window of index i of the present line cycle has passed (R239). -/
def judgeWindow (s : State) (i : Nat) : State :=
  let l := s.sup.line
  if bit l.judged i then s
  else
    let s := modLine s fun l => { l with judged := setBit l.judged i }
    if isPartner s i && bit l.joined i then
      if bit l.seen i then modLine s fun l => { l with misses := put l.misses 0 i 0 }
      else if missesSuspended s then s
      else occLine (modLine s fun l => { l with misses := put l.misses 0 i (incSat (get l.misses 0 i) 3) }) 2
    else s

/-- The tick in which the window of index i has passed (R239). -/
def windowAt (l : Line) (i : Nat) : Nat := l.base + 200 * i + 208

/-- R234: a timekeeper that heard one lower index in two line cycles in a row stops. -/
def stepsDown (l : Line) : Bool :=
  match l.hist with
  | a :: b :: _ => !decide (lowerIn l (a.1 &&& b.1) = 0)
  | _ => false

/-- R234: the lowest index takes over from a timekeeper after two heartbeats of its own, in whose cycles it heard no lower
one. DEDUCED: a timekeeper to take over from is there while the sync pulses of both line cycles come; where they fail, R236
decides (log 20). -/
def stepsUp (l : Line) : Bool :=
  match l.hist with
  | a :: b :: _ =>
    let ok := fun (e : Nat × Bool × Bool) => e.2.1 && e.2.2 && decide (lowerIn l e.1 = 0)
    decide (l.index ≠ 15) && ok a && ok b
  | _ => false

/-- R236: no sync pulse in three line cycles, and no lower index among their heartbeats. -/
def syncLost (l : Line) : Bool :=
  match l.hist with
  | [a, b, c] =>
    decide (l.index ≠ 15) && !a.2.1 && !b.2.1 && !c.2.1 && decide (lowerIn l (a.1 ||| b.1 ||| c.1) = 0)
  | _ => false

/-- The role changes that a completed line cycle brings (R234). -/
def changeRole (s : State) : State :=
  let l := s.sup.line
  match l.role with
  | .timekeeper => if stepsDown l then occLine (modLine s fun l => { l with role := .synced }) 7 else s
  | .synced => if stepsUp l then occLine (modLine s fun l => { l with role := .timekeeper }) 7 else s
  | _ => s

/-- The acceptance windows that have passed by the present tick are judged (R239). DESIGN CHOICE: a unit that listens again
under R235 judges none, and its counts of missed windows stand (log 20). -/
def passWindows (s : State) : State :=
  if isSynced s.sup.line then
    each (List.range 15) s fun s i => if windowAt s.sup.line i ≤ s.clk.time then judgeWindow s i else s
  else s

/-- A line cycle ends; a unit that listens counts it too (R234, R254). -/
def endCycle (s : State) : State :=
  let s := if isSynced s.sup.line then each (List.range 15) s judgeWindow else s
  let s := modLine s fun l => { l with
    present := l.seen, hist := ((l.seen, l.syncSeen, decide (l.hbDrive = some l.cycle)) :: l.hist).take 3 }
  let s := changeRole s
  modLine s fun l => { l with
    base := l.base + 3200, cycle := l.cycle + 1, seen := 0, syncSeen := false, judged := 0
    faultCycle := arbBusy l || (l.low && l.fault) }

/-- The line cycles that have ended as the present tick begins; a unit that has stopped only counts them (R254). -/
def passCycles (s : State) : State :=
  if s.sup.line.role = .stopped then s else each (List.range (lineTick s / 3200)) s fun s _ => endCycle s

/-! ## Pulses received (R230 to R235, R238, R239, R243) -/

/-- Align to a sync pulse whose taken fall counts as tick 44 of slot 0 (R232, R233). DESIGN CHOICE: the line cycle that a
listening unit cuts short by it does not count in LINE_CYCLE (R254; log 20). -/
def align (s : State) (e : Nat) : State :=
  let s := occLine s 5
  match s.sup.line.role with
  | .listening =>
    modLine s fun l => { l with
      role := .synced, base := e - 44, sendFrom := l.cycle + 1, syncSeen := true, seen := 0, judged := 0, hist := [] }
  | _ => modLine s fun l => { l with base := e - 44, syncSeen := true }

/-- A low period of 52 to 96 ticks that began at e (R231, R232, R233, R235). -/
def syncPulse (s : State) (e : Nat) : State :=
  let l := s.sup.line
  match l.role with
  | .stopped => s
  | .listening => align s e
  | .synced => if l.base + 20 ≤ e ∧ e ≤ l.base + 70 then align s e else occLine s 3
  | .timekeeper =>
    if l.syncDrive = some l.cycle ∧ l.base + 40 ≤ e ∧ e ≤ l.base + 52 then
      occLine (modLine s fun l => { l with syncSeen := true }) 5
    else relisten (occLine s (if l.base + 20 ≤ e ∧ e ≤ l.base + 70 then 5 else 3))

/-- An accepted heartbeat of index i (R231, R238, R239). -/
def heartbeat (s : State) (i : Nat) : State :=
  let s := occLine (modLine s fun l => { l with seen := setBit l.seen i }) 1
  if isPartner s i then
    modLine s fun l => { l with
      joined := setBit l.joined i, absent := clrBit l.absent i, lost := clrBit l.lost i, misses := put l.misses 0 i 0 }
  else s

/-- A line command seen: a request to every pod of this frame (R154, R243), and a release of the landings that wait
for a START (R163). SERVICE ignores it (R343) and a crashed device accepts no pod request (R218). -/
def lineCommand (s : State) (up : Bool) : State :=
  match s.sup.mode with
  | .standby | .ascend | .run | .descend =>
    each (podsInUse s) s fun s p =>
      let s := { s with accepted := s.accepted ++ [
        { ask := if up then .rise p else .fall p, src := .line, time := s.clk.time }] }
      let q := pod s p
      if up && q.held && decide (entRel (entryOf s p q.k) = 3) then modPod s p fun q => { q with relLine := true } else s
  | _ => s

/-- A low period of 16 to 48 ticks that began at e (R231). DESIGN CHOICE: a unit that listens, with no line count to place
the pulse, ignores it and does not count it as outside every window (log 20). -/
def shortPulse (s : State) (e : Nat) : State :=
  let l := s.sup.line
  if !isSynced l then s
  else
    let t := if l.base ≤ e then e - l.base else e + 3200 - l.base
    let st := t % 200
    if t / 200 = 15 then
      let gap := match l.firstPulse with
        | some f => e - f
        | none => 0
      let none1 := fun (s : State) => modLine s fun l => { l with firstPulse := none }
      if 50 ≤ gap ∧ gap ≤ 70 then lineCommand (none1 s) true
      else if 90 ≤ gap ∧ gap ≤ 110 then lineCommand (none1 s) false
      else if 20 ≤ st ∧ st ≤ 70 then modLine s fun l => { l with firstPulse := some e }
      else occLine s 3
    else if t / 200 < 15 ∧ 100 ≤ st ∧ st ≤ 160 then heartbeat s (t / 200)
    else occLine s 3

/-! ## FAULT (R244 to R250) -/

/-- A line FAULT crashes a device that is not crashed (R214, R244). -/
def faultCrash (s : State) : State := crash (raise s 30) [(8, 0xFF)]

/-- Entry to STANDBY, or the leaving of CRASH, while FLT is low for 128 ticks or more (R248). -/
def entryFault (s : State) : State :=
  if faultShown s then enterCrash (raise (modLine s fun l => { l with fault := true }) 30) 8 0xFF false true
  else s

/-- The pending line command is discarded (R242). -/
def discardCommand (s : State) (code : Nat) : State :=
  match s.sup.line.pending with
  | none => s
  | some _ =>
    let s := match s.sup.line.cmdReq with
      | some r => modReq s r fun q => { q with cmdStat := code }
      | none => s
    modLine s fun l => { l with pending := none, cmdReq := none }

/-- The device takes part in a FAULT that cancels its clearing: as a non-originator, or not at all when it is
standalone (R225, R237). The arbitration fields keep their values until that FAULT's arbitration has ended (R249, R254). -/
def cancelClearing (s : State) : State :=
  let alone := decide (s.sup.line.index = 15)
  let s := laterFault (raise s 30) 8 0xFF
  let s := modCrash s fun k => { k with
    clearing := false, auto := false, clearStat := 7, noArb := alone }
  modLine s fun l => { l with
    quiet := false, rejoin := true, faultAt := if alone then none else some l.fall
    arb := if alone then .done else .hold, holding := alone }

/-- The device's own part in an arbitration: it originated the crash that it holds (R245, R225). -/
def originates (s : State) : Bool := s.sup.crash.originator && !s.sup.line.rejoin

/-- FAULT is recognised (R230, R242, R244, R225). In the tick of the device's own crash it is a cause of that tick, and
later no cause at all (R215, R216, R244). -/
def recogniseFault (s : State) : State :=
  let s := modLine s fun l => { l with fault := true, faultFrame := true, faultCycle := true }
  let s := discardCommand (occLine s 6) 5
  match s.sup.mode with
  | .boot | .sleep => s
  | .crash =>
    if s.sup.crash.clearing then cancelClearing s
    else
      let s := if crashTick s then causeInCrash (raise s 30) (8, 0xFF) else s
      if s.sup.line.arb = .hold ∧ s.sup.line.faultAt = none then
        let e := s.sup.line.fall
        let s := modLine s fun l => { l with faultAt := some e }
        if originates s then modCrash s fun k => { k with ownTime := ownTimeOf k.time e } else s
      else s
  | _ => faultCrash s

/-- The taken level goes high at h after a low period of FAULT length (R246). -/
def faultEnds (s : State) (h : Nat) : State :=
  let s := modLine s fun l => { l with fault := false, faultEnd := h }
  match s.sup.line.arb, s.sup.line.faultAt with
  | .hold, some _ => modLine s fun l => { l with arb := .gap h }
  | _, _ => s

/-- The taken level goes high; the low period had n ticks (R230). -/
def lowEnds (s : State) (n : Nat) : State :=
  let e := s.sup.line.fall
  let s := modLine s fun l => { l with low := false, wait := 0, rise := s.clk.time }
  if s.sup.line.fault || decide (128 ≤ n) then faultEnds s s.clk.time
  else if 16 ≤ n ∧ n ≤ 48 then shortPulse s e
  else if 52 ≤ n ∧ n ≤ 96 then syncPulse s e
  else if 49 ≤ n then occLine s 4
  else s

/-- The taken level goes low (R229, R244). A fall within the idle gap leaves no S: the arbitration does not begin
(R246). -/
def falls (s : State) : State :=
  modLine s fun l => { l with
    low := true, wait := 0, fall := s.clk.time, fault := false
    arb := match l.arb with
      | .gap h => if s.clk.time < h + 800 then .broken else .gap h
      | a => a }

/-! ## Partners (R238 to R241) -/

/-- A lost or absent partner: its event, and the crash or the summary candidate (R240, R259, R275). -/
def partnerEvent (s : State) (event code i : Nat) (crashes : Bool) : State :=
  let s := raise s event
  if crashes then { s with causes := s.causes ++ [(code, 0xE0 + i)] }
  else candidate s 2 code (0xE0 + i) (frame s) 0xFF00 (frame s % 2 ^ 32)

/-- Take the causes of this tick (R216). -/
def takeCauses (s : State) : State := crash { s with causes := [] } s.causes

/-- The join window of index i ends at this time. -/
def joinEnd (s : State) (i : Nat) : Nat :=
  let j := get s.sup.line.joins (0, 0) i
  j.1 + 3200 * j.2

/-- An expected partner has not joined and its window is running or over (R238). -/
def unjoined (s : State) (i : Nat) : Bool :=
  let l := s.sup.line
  isPartner s i && !bit l.joined i && !bit l.absent i && !decide (get l.joins (0, 0) i = (0, 0))

/-! ## Line commands (R242) -/

/-- The modes in which a line command is accepted and acted on (R242). -/
def commandMode (m : Mode) : Bool :=
  match m with
  | .standby | .ascend | .run | .descend => true
  | _ => false

/-- The latest write of a requester is refused; the pending command no longer reports to it (R254). -/
def refuseCommand (s : State) (r : Requester) (code : Nat) : State :=
  let s := modReq s r fun q => { q with cmdStat := code }
  if s.sup.line.cmdReq = some r then modLine s fun l => { l with cmdReq := none } else s

/-- A write of LINE_CMD: START or STOP (R242). -/
def lineCmd (s : State) (r : Requester) (up : Bool) : State :=
  if !commandMode s.sup.mode then refuseCommand s r 6
  else if !isTk s.sup.line then refuseCommand s r 3
  else if s.sup.line.pending.isSome then refuseCommand s r 4
  else
    let s := modReq s r fun q => { q with cmdStat := 1 }
    modLine s fun l => { l with pending := some up, cmdReq := some r, cmdCycle := l.cycle }

/-! ## Arbitration (R245 to R249) -/

/-- The word that an originator sends (R246). -/
def arbWord (t index : Nat) : Nat := (t * 16 + index) % 2 ^ 20

/-- The arbitration word on the wire: bit k of `others` is the level that the other devices leave in bit period k.
The accumulator holds rx and whether this device still sends (R246). -/
def arbStep (own : Bool) (word : Nat) (others : BitVec 21) (acc : Nat × Bool) (k : Nat) : Nat × Bool :=
  let b := bit word (19 - k)
  let drives := acc.2 && !b
  let r := others.getLsbD k && !drives
  (2 * acc.1 + b2n r, own && acc.2 && !(b && !r))

/-- The result of one arbitration: winning time, winning index, tie (R246). -/
def arbitrate (own : Bool) (t index : Nat) (others : BitVec 21) : Nat × Nat × Bool :=
  let (rx, sending) := (List.range 20).foldl (arbStep own (arbWord t index) others) (0, own)
  let winT := rx / 16
  let tieDrive := own && !sending && decide ((Int.ofNat t - Int.ofNat winT) < 16)
  (winT, rx % 16, !others.getLsbD 20 || tieDrive)

/-- What the others have left in the bit periods sampled so far (R246). -/
def arbOthers (l : Line) : BitVec 21 := ~~~BitVec.ofNat 21 l.arbLow

/-- The device drives FLT low in the arbitration: in the bit period of a 0 of its word while it still sends, and in the tie
bit (R246, R250). -/
def arbDrives (s : State) : Bool :=
  match s.sup.line.arb with
  | .running t0 =>
    let own := originates s
    let t := s.sup.crash.ownTime
    let word := arbWord t s.sup.line.index
    let k := (s.clk.time - t0) / 80
    if k < 20 then
      ((List.range k).foldl (arbStep own word (arbOthers s.sup.line)) (0, own)).2 && !bit word (19 - k)
    else decide (k = 20) && (arbitrate own t s.sup.line.index (arbOthers s.sup.line)).2.2
  | _ => false

/-- The sample in the middle of a bit period: a low that this device does not drive is another's (R246). -/
def sampleArb (s : State) : State :=
  match s.sup.line.arb with
  | .running t0 =>
    if s.sup.line.low && !arbDrives s && decide ((s.clk.time - t0) % 80 = 40) then
      modLine s fun l => { l with arbLow := setBit l.arbLow ((s.clk.time - t0) / 80) }
    else s
  | _ => s

/-- The final hold begins unless the crash is being cleared (R246, R247). -/
def finalHold (s : State) : State :=
  modLine s fun l => { l with arb := .done, origHold := false, holding := s.sup.crash.latched && !s.sup.crash.clearing }

/-! ## Crash commands and clearing (R222 to R227, R252) -/

/-- CAUSE and SOURCE of a commanded crash (R214). -/
def commandCause (r : Requester) : Nat × Nat :=
  match r with
  | .cana => (11, 0xF0)
  | .canb => (11, 0xF1)
  | .twi => (11, 0xF2)
  | .eng => (12, 0xF3)

/-- A write of 0x00C5 to CRASH_CMD (R252). In CRASH it does nothing, but in the crash tick it is one of the causes of
that tick (R216). -/
def crashCmd (s : State) (r : Requester) : State :=
  match s.sup.mode with
  | .boot | .sleep => s
  | .crash => if crashTick s then crash s [commandCause r] else s
  | _ => crash s [commandCause r]

/-- The arbitration has ended, been abandoned, or was not made (R222, R247, R248). -/
def arbEnded (s : State) : Bool := !arbBusy s.sup.line

/-- An overvoltage on a channel with OFFOV_CRASH, or a failed reference check, persists (R222). -/
def conditionPersists (s : State) : Bool :=
  channels.any (fun c => (chan s c).ovf && offOvCrash s c) ||
  converters.any (fun g => (conv s g).failA || (conv s g).failB)

/-- Why a clear is refused, with its CLEAR_STAT code (R222, R254). DESIGN CHOICE: a clear that breaks several conditions
reports the first of 3, 4 and 5 (log 20). -/
def clearRefusal (s : State) : Option Nat :=
  if s.sup.mode ≠ .crash ∨ s.sup.crash.clearing then some 3
  else if !arbEnded s || !s.recs.commitEnded then some 4
  else if conditionPersists s then some 5
  else none

/-- An accepted clear: the FLT drive stops and CLEARING is set (R223). -/
def beginClearing (s : State) (auto : Bool) : State :=
  let s := modCrash s fun k => { k with clearing := true, auto := auto, clearStat := 1 }
  modLine s fun l => { l with holding := false, origHold := false, arb := .none, faultAt := none, quiet := false }

/-- A keyed write of 0x0001 to CLEAR_CRASH (R222, R226). -/
def clearCrash (s : State) : State :=
  match clearRefusal s with
  | some code => modCrash s fun k => { k with clearStat := code }
  | none => modCrash (beginClearing s false) fun k => { k with autoUsed := 0 }

/-- The automatic clear applies in tick 0 of this frame (R226). -/
def autoClearDue (s : State) : Bool :=
  let k := s.sup.crash
  let c := lineCfg s 4
  bit c 0 && (clearRefusal s).isNone && decide (k.autoUsed < fld c 8 4) &&
  decide (frameOf k.time + 1 + lineCfg s 5 * 4096 ≤ frame s) &&
  !decide (k.cause = 4 ∨ k.cause = 5 ∨ k.cause = 11 ∨ k.cause = 12)

def autoClear (s : State) : State :=
  if autoClearDue s then modCrash (beginClearing s true) fun k => { k with autoUsed := k.autoUsed + 1 } else s

/-- FLT has shown no low period of 128 ticks or more for 3200 ticks (R224). DESIGN CHOICE: tick 0 of the boundary itself may
be the last of them (log 20). -/
def quietNow (s : State) : Bool := !faultShown s && decide (s.sup.line.faultEnd + 3199 ≤ s.clk.time)

/-- A clearing device leaves CRASH at a boundary (R177, R224, R227, R248). DESIGN CHOICE: CLEAR_STAT becomes 2 also where a
later clear has been refused with code 3 (R254; log 20). -/
def leaveCrash (s : State) : State :=
  if s.sup.crash.clearing && (quietNow s || (s.sup.line.quiet && !faultShown s)) then
    let auto := s.sup.crash.auto
    let s := modCrash s fun k => { k with latched := false, clearing := false, auto := false, clearStat := 2 }
    let s := setMode s .standby
    let s := each (podsInUse s) s fun s p => setPodSt (modPod s p fun q => { q with retriesUsed := 0 }) p .off
    let s := startLine s
    if faultShown s then entryFault s
    else if auto && bit (lineCfg s 4) 1 then (riseRequest s 0 .auto).1
    else s
  else s

/-! ## A changed LINE_CFG (R253) -/

/-- After a set has applied: `old` is EXPECT before it. DESIGN CHOICE: a partner that was removed and is added again has still
joined, and gets no join window (log 20). -/
def lineConfig (s : State) (old : Nat) : State :=
  let l := s.sup.line
  let new := lineCfg s 2
  if !lineModes s.sup.mode then s
  else if fld (lineCfg s 1) 0 4 ≠ l.index then startLine s
  else
    each (List.range 15) s fun s i =>
      if !bit old i && bit new i then
        if isPartner s i && !bit s.sup.line.joined i then
          modLine s fun l => { l with joins := put l.joins (0, 0) i (s.clk.time, lineCfg s 3) }
        else s
      else if bit old i && !bit new i then
        modLine s fun l => { l with
          lost := clrBit l.lost i, absent := clrBit l.absent i, misses := put l.misses 0 i 0
          joins := put l.joins (0, 0) i (0, 0) }
      else s

end Sys2Proof.Machine
end

