-- ==== Sys2Proof/Machine/Outputs.lean ====
section
/-!
DEFINITION. What the device's own balls do, as functions of its state: the enables, the margin outputs, the discharge
outputs, SAFE_N, FLT and CORE_EN (R220, R231, R352, R366). The GPIO balls are in PinFn.
-/
namespace Sys2Proof.Machine

/-- The device is powered and out of reset. -/
def awake (s : State) : Bool := s.pwr.powered && !s.pwr.held

/-- The device as its second copy of SUPERVISE has it (R29). -/
def other (s : State) : State := swapCopy s (secondCopy s)

/-- ENnn is driven asserted: both copies assert it, and the supply of its group is good (R31, R352, R365, R366). -/
def enableBall (s : State) (c : Nat) : Bool :=
  running s && (chan s c).enable && (chan (other s) c).enable && bit s.sup.supply.banks (c / 12)

/-- RANGE of a margin output (R289). -/
def marginRange (s : State) (c : Nat) : Nat := fld (marginCfg s c 1) 0 2

/-- The current of MGnn, code × I_LSB, in units of the I_LSB of RANGE 0b00, 25 µA / 512; each next RANGE doubles it. None
at high impedance; it drives only while both copies enable it (R31, R289, R291, R366). -/
def marginBall (s : State) (c : Nat) : Option Int :=
  if running s && (margin s c).outEn && (margin (other s) c).outEn then some ((margin s c).code * 2 ^ marginRange s c)
  else none

/-- DIS n belongs to a channel that is flagged for crash (R31, R211). -/
def disFlagged (s : State) (n : Nat) : Bool :=
  channels.any fun c => let v := disCfg s c; disEn v && disOnCrash v && decide (disOutOf v = n)

/-- A copy asserts DIS n (R202). -/
def disAsserted (u : Sup) (n : Nat) : Bool := u.disOut.any fun e => decide (e.1 = n)

/-- DIS n is asserted; one flagged for crash while either copy asserts it (R31, R202, R366). DESIGN CHOICE: R31 does not
speak of the others, which the first copy drives; and where R201 and R366 release every output in BOOT, a second copy that
stands otherwise at a flagged one asserts it there too, as R31 says of any mode (log 32). -/
def disBall (s : State) (n : Nat) : Bool :=
  running s && (disAsserted s.sup n || (disAsserted (secondCopy s).sup n && disFlagged s n))

/-- SAFE_N as a copy in this mode drives it (R220, R366). -/
def safeLevel (s : State) (m : Mode) : Option Bool :=
  match m with
  | .boot => if s.boot.hold then some false else none
  | .sleep => none
  | .crash => some false
  | .standby | .ascend | .run | .descend | .service => some true

/-- SAFE_N: driven high, driven low, or not driven; low while either copy asserts it (R31, R220, R366, R511). -/
def safeN (s : State) : Option Bool :=
  if !awake s || !bankDriven s 0 then none
  else if safeLevel s (secondCopy s).sup.mode = some false then some false
  else safeLevel s s.sup.mode

/-- The first and the last tick of each pulse that the device drives in the present line cycle (R231). -/
def pulseTicks (l : Line) : List (Nat × Nat) :=
  (if l.syncDrive = some l.cycle then [(40, 103)] else []) ++
  (if l.hbDrive = some l.cycle then [(200 * l.index + 120, 200 * l.index + 151)] else []) ++
  (match l.cmdDrive with
   | some (k, up) => if k = l.cycle then [(3040, 3071), if up then (3100, 3131) else (3140, 3171)] else []
   | none => [])

/-- The device drives FLT low in a pulse of the line cycle (R231). -/
def pulseNow (s : State) : Bool :=
  let t := lineTick s
  (pulseTicks s.sup.line).any fun e => decide (e.1 ≤ t ∧ t ≤ e.2)

/-- A copy drives FLT low: for the device's crash, in a pulse, or in an arbitration (R231, R245, R246). -/
def drivesFlt (s : State) : Bool := s.sup.line.holding || s.sup.line.origHold || pulseNow s || arbDrives s

/-- FLT is driven low, while either copy drives it (R31, R366). -/
def fltLow (s : State) : Bool := running s && (drivesFlt s || drivesFlt (other s))

/-- CORE_EN is driven low (R366, R369). -/
def coreEnLow (s : State) : Bool := awake s && s.sleep.coreLow

end Sys2Proof.Machine
end

