-- ==== Sys2Proof/Machine/Receiver.lean ====
section
/-!
DEFINITION. The FLT receiver: what the ball shows, the filter of the taken level, the device's own drive among it, and the
recognition of FAULT (R229, R230, R244); and the instants at which the line unit acts by itself.
-/
namespace Sys2Proof.Machine

/-- The FLT ball is low: other devices hold it low, or this one does (R229). -/
def ballLow (s : State) : Bool := s.sup.line.others || fltLow s

/-- The receiver's sample of a tick: the taken level changes in the fourth consecutive tick in which the ball shows the new
one (R229). -/
def sampleFlt (s : State) : State :=
  let l := s.sup.line
  let ball := ballLow s
  if ball = l.low then (if l.wait = 0 then s else modLine s fun l => { l with wait := 0 })
  else if l.wait < 3 then modLine s fun l => { l with wait := l.wait + 1 }
  else if ball then falls s
  else lowEnds s (s.clk.time - l.fall)

/-- The receiver's share of a tick: its sample, the arbitration's, and FAULT in the 128th tick of a low period (R230, R244,
R246). -/
def receive (s : State) : State :=
  let s := sampleArb (sampleFlt s)
  if s.sup.line.low && !s.sup.line.fault && decide (s.sup.line.fall + 127 ≤ s.clk.time) then recogniseFault s else s

/-- The instants at which the line unit acts by itself: the end of its cycle, the passed windows of joined partners, the
edges of its own pulses, the bit periods of an arbitration and their samples, the 128th tick of a low period, and every
tick in which its filter counts. -/
def lineInstants (s : State) : List Nat :=
  let l := s.sup.line
  (if l.role = .stopped then [] else [l.base + 3200]) ++
  (if isSynced l then
    ((List.range 15).filter fun i => isPartner s i && bit l.joined i && !bit l.judged i).map (windowAt l) else []) ++
  (pulseTicks l).flatMap (fun e => [l.base + e.1, l.base + e.2 + 1]) ++
  (match l.arb with
   | .running t0 => (List.range 22).flatMap fun k => [t0 + 80 * k, t0 + 80 * k + 40]
   | _ => []) ++
  (if l.low && !l.fault then [l.fall + 127] else []) ++
  (if ballLow s = l.low then [] else [s.clk.time + 1])

end Sys2Proof.Machine
end

