-- ==== Sys2Proof/Machine/Operands.lean ====
section
/-!
DEFINITION. The engine's operands: general registers, data words with their privilege, program addresses and the
instruction word's fields (R311 to R318).
-/
namespace Sys2Proof.Machine

def modEng (s : State) (f : Eng → Eng) : State := { s with eng := f s.eng }

/-- General register n (R316). -/
def reg (e : Eng) (n : Fin 16) : Word := get e.w 0 n.val

/-- Write general register n (R316). -/
def setReg (e : Eng) (n : Fin 16) (v : Word) : Eng := { e with w := put e.w 0 n.val v }

/-- The address of the next instruction in sequence. -/
def nextPc (e : Eng) : PAddr := e.pc + 1

/-- The program address lies in the region of the privilege (R311, R312). -/
def inRegion (e : Eng) (a : PAddr) : Bool := decide (e.field = decide (0x1000 ≤ a.toNat))

/-- A data address is formed modulo 65 536 (R318). -/
def dataAddr (base off : Word) : Nat := (base + off).toNat

/-- The data address lies in the data region of the privilege (R311, R314, R331). -/
def dataOk (e : Eng) (a : Nat) : Bool := if e.field then decide (0x200 ≤ a ∧ a ≤ 0x3FF) else decide (a ≤ 0x1FF)

def dataWord (e : Eng) (a : Nat) : Word := get e.data 0 a

def setData (e : Eng) (a : Nat) (v : Word) : Eng := { e with data := put e.data 0 a v }

/-- The dictionary word that DRD and DWR address (R320). -/
def dictSub (ra : Word) : Nat := ra.toNat / 256
def dictWordNo (ra : Word) : Nat := ra.toNat % 256

/-! ## Instruction words (R317) -/

def opField (w : InstrWord) : Nat := w.toNat / 2 ^ 26
def rdField (w : InstrWord) : Fin 16 := Fin.ofNat 16 (w.toNat / 2 ^ 22)
def raField (w : InstrWord) : Fin 16 := Fin.ofNat 16 (w.toNat / 2 ^ 18)
def rbField (w : InstrWord) : Fin 16 := Fin.ofNat 16 (w.toNat / 2 ^ 14)
def imm16 (w : InstrWord) : Word := BitVec.ofNat 16 w.toNat
def target13 (w : InstrWord) : PAddr := BitVec.ofNat 13 w.toNat

/-- Reserved bits of form RR: [13:0]. -/
def rrOk (w : InstrWord) : Bool := decide (w.toNat % 2 ^ 14 = 0)

/-- Reserved bits of form RI: [17:16]. -/
def riOk (w : InstrWord) : Bool := decide (w.toNat / 2 ^ 16 % 4 = 0)

/-- Reserved bits of form J: [21:13]. -/
def jOk (w : InstrWord) : Bool := decide (w.toNat / 2 ^ 13 % 512 = 0)

/-- Form J with cond 0 and, where the form names no target, target 0: every bit below the opcode is 0. -/
def bare (w : InstrWord) : Bool := decide (w.toNat % 2 ^ 26 = 0)

/-- The branch conditions of R319. -/
def condOf (n : Nat) : Option Cond :=
  match n with
  | 0 => some .al
  | 1 => some .eq
  | 2 => some .ne
  | 3 => some .lt
  | 4 => some .ge
  | 5 => some .lo
  | 6 => some .hs
  | 7 => some .mi
  | 8 => some .pl
  | _ => none

end Sys2Proof.Machine
end

