-- ==== Sys2Proof/Machine/Flags.lean ====
section
/-!
DEFINITION. The engine's flags Z, N, C, V (R316, R318) and the branch conditions (R319).
-/
namespace Sys2Proof.Machine

/-- Z and N from a result; C and V stay (R318). -/
def setZN (e : Eng) (r : Word) : Eng := { e with z := decide (r = 0), n := r.msb }

/-- The flags of a sum: C is the carry out of bit 15 and V the signed overflow (R318). -/
def addFlags (e : Eng) (a b : Word) : Eng :=
  let r := a + b
  { e with z := decide (r = 0), n := r.msb, c := decide (2 ^ 16 ≤ a.toNat + b.toNat)
           v := decide (a.msb = b.msb ∧ r.msb ≠ a.msb) }

/-- The flags of a difference: C = 1 means that no borrow occurred (R318). -/
def subFlags (e : Eng) (a b : Word) : Eng :=
  let r := a - b
  { e with z := decide (r = 0), n := r.msb, c := decide (b.toNat ≤ a.toNat)
           v := decide (a.msb ≠ b.msb ∧ r.msb ≠ a.msb) }

/-- The branch condition holds (R319). -/
def condHolds (e : Eng) : Cond → Bool
  | .al => true
  | .eq => e.z
  | .ne => !e.z
  | .lt => decide (e.n ≠ e.v)
  | .ge => decide (e.n = e.v)
  | .lo => !e.c
  | .hs => e.c
  | .mi => e.n
  | .pl => !e.n

end Sys2Proof.Machine
end

