-- ==== Sys2Proof/Machine/Records.lean ====
section
/-!
DEFINITION. The record writer: the ring scan (R258, R261, R262), the kernel commit (R264 to R269), the husk (R271 to
R273), the summary ring (R274 to R279), hold-up (R285) and the record views (R287, R288).
-/
namespace Sys2Proof.Machine

/-! ## Slots of a ring (R255, R261, R262, R274) -/

/-- First byte of slot n of a ring. -/
def slotAddr : ViewId → Nat → Nat
  | .kernel => kernelAddr
  | .husk => huskAddr
  | .summary => sumAddr

def slotSize : ViewId → Nat
  | .kernel => 256
  | .husk => 4096
  | .summary => 32

def slotCount : ViewId → Nat
  | .kernel => 512
  | .husk => 64
  | .summary => 2048

def seqOff : ViewId → Nat
  | .kernel | .husk | .summary => 4

/-- The bytes of a slot. -/
def slotBytes (m : Map Byte) (v : ViewId) (n : Nat) : List Byte := nvmBytes m (slotAddr v n) (slotSize v)

def erased (bs : List Byte) : Bool := bs.all fun b => decide (b = 0xFF)

/-- The slot is valid (R261, R274). -/
def slotValid (v : ViewId) (bs : List Byte) : Bool :=
  match v with
  | .kernel => decide (natAt bs 0 2 = 0x4B01) && crcOk bs 0x3C
  | .husk => decide (natAt bs 0 2 = 0x4801) && crcOk bs 0xFFC
  | .summary => decide (1 ≤ natAt bs 0 2 / 4096 ∧ natAt bs 0 2 / 4096 ≤ 6) && crcOk bs 0x1C

/-- The slot is torn (R262, R274). -/
def slotTorn (v : ViewId) (bs : List Byte) : Bool :=
  match v with
  | .kernel => decide (natAt bs 0 2 = 0x4B01) && !crcOk bs 0x3C
  | .husk => decide (natAt bs 0 2 = 0x4801) && !crcOk bs 0xFFC
  | .summary => !slotValid .summary bs && !erased bs

def slotSeq (v : ViewId) (bs : List Byte) : Nat := natAt bs (seqOff v) 4

/-- The slots of a ring that hold any byte other than 0xFF; every other slot is erased. -/
def usedSlots (m : Map Byte) (v : ViewId) : List Nat :=
  m.foldl (fun acc e =>
    if slotAddr v 0 ≤ e.1 ∧ e.1 < slotAddr v 0 + slotSize v * slotCount v then
      let n := (e.1 - slotAddr v 0) / slotSize v
      if acc.getLast? = some n then acc else acc ++ [n]
    else acc) []

/-- The valid slots of a ring with their SEQ. -/
def validSlots (m : Map Byte) (v : ViewId) : List (Nat × Nat) :=
  (usedSlots m v).filterMap fun n =>
    let bs := slotBytes m v n
    if slotValid v bs then some (slotSeq v bs, n) else none

/-- Insert behind every larger SEQ. -/
def insertSeq (x : Nat × Nat) : List (Nat × Nat) → List (Nat × Nat)
  | [] => [x]
  | y :: r => if y.1 < x.1 then x :: y :: r else y :: insertSeq x r

/-- Slots by age, newest first (R287). -/
def byAge (m : Map Byte) (v : ViewId) : List (Nat × Nat) := (validSlots m v).foldl (fun a x => insertSeq x a) []

/-- EPISODE of a record. -/
def slotEpisode (bs : List Byte) : Nat := natAt bs 8 4

/-! ## The ring scan (R258, R261, R262) -/

/-- What the scan finds of one ring. DESIGN CHOICE: in a ring with no valid record, slot 0 stands for the slot after the
newest one, so that a torn slot 0 counts (R262; log 19). -/
def scanRing (m : Map Byte) (v : ViewId) : Ring :=
  match byAge m v with
  | [] =>
    let bs := slotBytes m v 0
    { head := none, next := 0, seq := 0, torn := if slotTorn v bs then some (0, slotSeq v bs) else none }
  | (q, n) :: _ =>
    let next := (n + 1) % slotCount v
    let bs := slotBytes m v next
    { head := some n, next := next, seq := q, torn := if slotTorn v bs then some (next, slotSeq v bs) else none }

/-- The largest EPISODE of the valid records of a ring. -/
def topEpisode (m : Map Byte) (v : ViewId) : Nat :=
  (validSlots m v).foldl (fun a x => max a (slotEpisode (slotBytes m v x.2))) 0

/-- The ring scan of BOOT; the episode number is one more than the largest found, 1 where there is none. -/
def ringScan (s : State) : State :=
  modRec s fun r =>
    let k := scanRing r.nvm .kernel
    let h := scanRing r.nvm .husk
    let u := scanRing r.nvm .summary
    let top := max (topEpisode r.nvm .kernel) (max (topEpisode r.nvm .husk) (topEpisode r.nvm .summary))
    { r with
      kernel := k, husk := h, summary := u, scanned := true
      tornFound := k.torn.isSome || h.torn.isSome || u.torn.isSome
      episode := (top + 1) % 2 ^ 32 }

/-- The KIND 5 candidate of a torn slot, on entry to STANDBY (R262, R275). -/
def tornCandidate (s : State) (cause : Nat) (r : Ring) : State :=
  match r.torn with
  | some (n, q) => candidate s 5 cause 0 (frame s) n q
  | none => s

def tornCandidates (s : State) : State :=
  let s := tornCandidate s 1 s.recs.kernel
  let s := tornCandidate s 2 s.recs.husk
  tornCandidate s 3 s.recs.summary

/-- The ring after a record in slot n has been verified (R260, R261). -/
def Ring.wrote (r : Ring) (v : ViewId) (n : Nat) : Ring :=
  { r with head := some n, next := (n + 1) % slotCount v, seq := (r.seq + 1) % 2 ^ 32 }

def nextSeq (r : Ring) : Nat := (r.seq + 1) % 2 ^ 32

/-! ## The kernel record (R264 to R269) -/

/-- Coalescing entries in use, the report included (R265, R286). -/
def entriesInUse (r : Rec) : Nat := r.coal.length + b2n r.report.isSome

/-- FLAGS of a kernel record (R266). -/
def kernelFlags (c : Capture) (collapsed : Bool) : Nat :=
  flg collapsed 15 + flg c.originator 14 + flg c.huskPlanned 13 + flg c.later 12

/-- The 256 bytes of a kernel record (R265). -/
def kernelRecord (s : State) (c : Capture) (collapsed : Bool) : List Byte :=
  let k := s.sup.crash
  withCrc (bytes 2 0x4B01 ++ bytes 2 (kernelFlags c collapsed) ++ bytes 4 (nextSeq s.recs.kernel) ++
    bytes 4 c.episode ++ bytes 8 c.crashTime ++ bytes 8 c.frame ++ bytes 2 (c.cause * 256 + c.source) ++
    bytes 2 (c.slot * 256 + c.mode) ++ bytes 2 k.arbResult ++ bytes 2 k.arbTime ++ bytes 2 k.ownTime ++
    bytes 2 c.chatter ++ bytes 2 c.podInfo ++ bytes 2 c.huskSlot ++ bytes 4 s.image.crc ++
    bytes 2 (entriesInUse s.recs) ++ zeros 10 ++ zeros 4 ++
    (channels.map fun i => bytes 2 (c.raws.getD i 0)).flatten) 0x3C

/-- COLLAPSED set in a record that is being written (R283). -/
def setCollapsed (r : List Byte) : List Byte :=
  withCrc (r.take 2 ++ [r.getD 2 0 ||| 0x80] ++ r.drop 3) 0x3C

/-- A commit starts with the capture as it stands (R267, R283). -/
def startCommit (s : State) (c : Capture) (collapsed : Bool) : State :=
  let job := kernelRecord s c collapsed
  modRec s fun r => { r with cap := some c, commit := .busy false collapsed, job := job }

/-- The slot that the commit writes (R261, R269). -/
def commitSlot (s : State) (second : Bool) : Nat :=
  if second then (s.recs.kernel.next + 1) % 512 else s.recs.kernel.next

/-- The capture is complete and its arbitration over: the commit may start (R267, R268). -/
def commitReady (s : State) : Bool :=
  match s.recs.cap, s.recs.commit with
  | some c, .waiting => c.closed && arbEnded s && s.recs.sumBusy.isNone
  | _, _ => false

/-- KERNEL_COMMIT_START (R267). -/
def execKernelCommitStart (s : State) : Host.Outcome State Fault Refusal :=
  done s fun s => whenRunning s fun s =>
    match s.recs.cap with
    | some c => if commitReady s then startCommit s c false else s
    | none => s

/-- The commit has ended, with event 1 or with event 37; a planned husk starts at event 1 (R267, R269, R271). -/
def endCommit (s : State) (ok : Bool) : State :=
  let husk := match s.recs.cap with
    | some c => ok && c.huskPlanned
    | none => false
  let q := nextSeq s.recs.kernel
  let s := modRec s fun r => { r with
    commit := .ended, commitEnded := true, job := []
    huskBusy := if husk then some (if ok then q else 0) else none }
  raise s (if ok then 1 else 37)

/-- One write of the kernel record has been read back (R267, R269). -/
def commitWritten (s : State) (second collapsed ok : Bool) : State :=
  let n := commitSlot s second
  if ok then
    let s := store s (kernelAddr n) s.recs.job
    let s := endCommit (occNvm s 1) true
    modRec s fun r => { r with kernel := r.kernel.wrote .kernel n }
  else
    let s := occNvm (storeTorn s (kernelAddr n) s.recs.job 0 0x3C) 4
    if second then endCommit s false
    else modRec s fun r => { r with commit := .busy true collapsed }

/-- The record writes that a reset cuts: a kernel commit that does not run on hold-up energy, a husk write and a summary
write. -/
def cutWrites (s : State) : State :=
  let s := match s.recs.commit with
    | .busy second false => cutWrite s (kernelAddr (commitSlot s second)) 256
    | _ => s
  let s := if s.recs.huskBusy.isSome then cutWrite s (huskAddr s.recs.husk.next) 4096 else s
  if s.recs.sumBusy.isSome then cutWrite s (sumAddr s.recs.summary.next) 32 else s

/-- What a reset leaves of the record writer: the NVM, and a commit that runs from hold-up energy (R279, R281,
R283). -/
def recsAfterReset (r : Rec) : Rec :=
  match r.commit with
  | .busy second true =>
    { Rec.reset r.nvm with commit := .busy second true, job := r.job, kernel := r.kernel }
  | _ => Rec.reset r.nvm

/-- A commit on hold-up energy is in progress. -/
def commitOnHold (s : State) : Bool :=
  match s.recs.commit with
  | .busy _ true => true
  | _ => false

/-- KERNEL_COMMIT_END: the read-back of the kernel slot (R267, R269). A commit on hold-up energy ends in reset too
(R281, R284). -/
def execKernelCommitEnd (ok : Bool) (s : State) : Host.Outcome State Fault Refusal :=
  done s fun s =>
    match s.recs.commit with
    | .busy second collapsed =>
      if running s || collapsed then
        let s := commitWritten s second collapsed ok
        if collapsed && !commitOnHold s then { s with recs := Rec.reset s.recs.nvm } else s
      else s
    | _ => s

/-! ## The husk record (R271 to R273) -/

/-- One entry of the event history (R273). -/
def stampBytes (e : EvStamp) : List Byte := bytes 2 (e.ev % 64) ++ bytes 6 (e.time % 2 ^ 48)

/-- The 4096 bytes of a husk record (R272). -/
def huskRecord (s : State) (c : Capture) (kernelSeq : Nat) : List Byte :=
  withCrc (bytes 2 0x4801 ++ bytes 2 c.events.length ++ bytes 4 (nextSeq s.recs.husk) ++ bytes 4 c.episode ++
    bytes 4 kernelSeq ++ bytes 8 c.frame ++ bytes 8 c.crashTime ++ zeros 32 ++
    ((List.range 16).map fun i =>
      (channels.map fun ch => bytes 2 ((c.frames.getD i []).getD ch 0)).flatten).flatten ++
    (podNums.map fun p => bytes 2 (c.pods.getD p 0)).flatten ++
    padTo 256 (c.events.map stampBytes).flatten ++
    ((List.range 42).map fun k => bytes 4 (c.counters.getD k 0)).flatten ++
    zeros 436 ++ zeros 4) 0xFFC

/-- HUSK_WRITE_END: the husk record is read back, with event 36 where it matches; it is never retried (R271). -/
def execHuskWriteEnd (ok : Bool) (s : State) : Host.Outcome State Fault Refusal :=
  done s fun s => whenRunning s fun s =>
    match s.recs.huskBusy, s.recs.cap with
    | some q, some c =>
      let rec4k := huskRecord s c q
      if ok then
        let s := occNvm (store s (huskAddr c.huskSlot) rec4k) 2
        let s := modRec s fun r => { r with huskBusy := none, husk := r.husk.wrote .husk c.huskSlot }
        raise s 36
      else
        let s := storeTorn s (huskAddr c.huskSlot) rec4k 2 0xFFC
        occNvm (modRec s fun r => { r with huskBusy := none }) 4
    | _, _ => s

/-! ## Summary entries (R274 to R279) -/

/-- A pending entry by its place in the order of R277. -/
structure Pending where
  first : Nat
  kind : Nat
  source : Nat
  cause : Nat
  deriving DecidableEq, Repr

/-- The smallest first frame, then KIND, SOURCE and CAUSE (R277). -/
def Pending.before (a b : Pending) : Bool :=
  decide (a.first < b.first) || (decide (a.first = b.first) &&
    (decide (a.kind < b.kind) || (decide (a.kind = b.kind) &&
      (decide (a.source < b.source) || (decide (a.source = b.source) && decide (a.cause < b.cause))))))

def pendings (r : Rec) : List Pending :=
  (r.coal.map fun e => { first := e.first, kind := e.kind, source := e.source, cause := e.cause }) ++
  (match r.report with
   | some (f, _) => [{ first := f, kind := 6, source := 0, cause := 0 }]
   | none => [])

def firstPending (r : Rec) : Option Pending :=
  match pendings r with
  | [] => none
  | a :: l => some (l.foldl (fun x y => if y.before x then y else x) a)

/-- A view load waits (R288). -/
def loadWaits (q : ReqState) : Bool := q.viewK.loading || q.viewH.loading || q.viewS.loading

/-- A kernel, husk, summary or image write is in progress (R277, R288, R389). -/
def nvmWriting (s : State) : Bool :=
  let r := s.recs
  (match r.commit with
   | .busy _ _ => true
   | _ => false) || r.huskBusy.isSome || r.sumBusy.isSome

/-- A summary write may start; it takes precedence over a chunk that waits (R268, R277, R288, R389). -/
def summaryDue (s : State) : Bool :=
  let r := s.recs
  r.scanned && !nvmWriting s && !(decide (r.commit = .waiting)) &&
  !(requesters.any fun q => loadWaits (req s q)) &&
  (match r.sumStart with
   | some t => decide (t + act s 0x1700 1 * 200000 ≤ s.clk.time)
   | none => true)

/-- SUMMARY_WRITE_START (R277). -/
def execSummaryWriteStart (s : State) : Host.Outcome State Fault Refusal :=
  done s fun s => whenRunning s fun s =>
    if summaryDue s then
      match firstPending s.recs with
      | some p => modRec s fun r => { r with sumBusy := some (p.kind, p.cause, p.source), sumStart := some s.clk.time }
      | none => s
    else s

/-- The 32 bytes of a summary entry (R274, R275): kinds 1 to 3 carry the latest frame in DATA1. -/
def summaryRecord (seq : Nat) (e : Coal) : List Byte :=
  let d1 := if e.kind ≤ 3 then e.last % 2 ^ 32 else e.d1
  withCrc (bytes 2 (e.kind * 4096 + e.cause * 256 + e.source) ++ bytes 2 e.count ++ bytes 4 seq ++ bytes 4 e.ep ++
    bytes 8 e.first ++ bytes 4 e.d0 ++ bytes 4 d1 ++ zeros 4) 0x1C

/-- The entry that a summary write in progress writes: a table entry, or the report with mrg and lost (R275). -/
def sumEntry (r : Rec) (key : Nat × Nat × Nat) : Option Coal :=
  if key.1 = 6 then
    r.report.map fun (f, ep) =>
      { kind := 6, cause := 0, source := 0, count := 1, first := f, last := f, ep := ep, d0 := r.mrg, d1 := r.lost }
  else r.coal.find? fun e => sameKey e key.1 key.2.1 key.2.2

/-- Writing an entry frees it; writing the report clears mrg and lost (R277). -/
def freeEntry (key : Nat × Nat × Nat) (r : Rec) : Rec :=
  if key.1 = 6 then { r with report := none, mrg := 0, lost := 0, sumBusy := none }
  else { r with coal := r.coal.filter (fun e => !sameKey e key.1 key.2.1 key.2.2), sumBusy := none }

/-- SUMMARY_WRITE_END: the entry is read back and its table entry freed (R277). DESIGN CHOICE: one that does not verify frees
it too, with no second attempt and no event (log 19). -/
def execSummaryWriteEnd (ok : Bool) (s : State) : Host.Outcome State Fault Refusal :=
  done s fun s => whenRunning s fun s =>
    match s.recs.sumBusy with
    | some key =>
      match sumEntry s.recs key with
      | some e =>
        let n := s.recs.summary.next
        let bs := summaryRecord (nextSeq s.recs.summary) e
        if ok then
          let s := modRec (occNvm (store s (sumAddr n) bs) 3) fun r => { r with summary := r.summary.wrote .summary n }
          modRec s (freeEntry key)
        else
          modRec (occNvm (storeTorn s (sumAddr n) bs 0 0x1C) 4) (freeEntry key)
      | none => modRec s fun r => { r with sumBusy := none }
    | none => s

/-- A torn summary slot is not erased: where every open byte would read 0xFF, the first one is another, of no KIND
(R274, R283, log 8). -/
def tornSummary (fresh addr : Nat) (r : List Byte) : List Byte :=
  let bs := tornRecord fresh addr r 0 0x1C
  if erased bs then bytes 1 ((Config.tornByte fresh addr).toNat % 16) ++ bs.drop 1 else bs

/-- A summary write in progress is abandoned and its slot left torn (R283). -/
def abandonSummary (s : State) : State :=
  match s.recs.sumBusy with
  | some key =>
    match sumEntry s.recs key with
    | some e =>
      let bs := summaryRecord (nextSeq s.recs.summary) e
      let a := sumAddr s.recs.summary.next
      modRec { store s a (tornSummary s.fresh a bs) with fresh := s.fresh + 1 } fun r => { r with sumBusy := none }
    | none => s
  | none => s

/-! ## Collapse (R280 to R284) -/

/-- The lowest-numbered pod in use that is RISING for a retry (R282, R284). -/
def retryingPod (s : State) : Option Nat :=
  (podsInUse s).find? fun p => (pod s p).retryActive && decide ((pod s p).st = .rising)

def criticalMode (m : Mode) : Bool :=
  match m with
  | .boot | .ascend | .service | .crash => true
  | _ => false

/-- R282. -/
def critical (s : State) : Bool := criticalMode s.sup.mode || (retryingPod s).isSome

/-- The sample of a channel has run in the present frame (R99, R111). -/
def sampledNow (s : State) (c : Nat) : Bool :=
  (List.range 16).any fun k =>
    decide (32 * k + 28 ≤ s.clk.time % 512) && decide (ranIn (conv s (groupOf c)) k = some (c % 12))

/-- The channel values of a deciding frame that has not closed when the record starts on hold-up energy. -/
def rawsNow (s : State) : List Nat :=
  channels.map fun c => if sampledNow s c then (chan s c).raw else Config.openRaw s.fresh c % 65536

/-- The capture of a collapse record (R284). DESIGN CHOICE: no husk is planned, and HUSK_SLOT is 0 (R265; log 19). -/
def collapseCapture (s : State) : Capture where
  cause := 13
  source := 0xFF
  crashTime := s.clk.time
  frame := if frame s = 0 then Config.openFrame s.fresh % 2 ^ 64 else frame s - 1
  slot := slotOf s.clk.time
  mode := modeCode s.sup.mode
  chatter := 0
  podInfo :=
    if criticalMode s.sup.mode then 0xFF00
    else match retryingPod s with
      | some p => p * 256 + podCode (pod s p).st
      | none => 0xFF00
  originator := false
  later := false
  huskPlanned := false
  huskSlot := 0
  episode := s.recs.episode
  closed := true
  fresh := false
  raws := (s.recs.frames.getLast?).getD (List.replicate 96 0)
  frames := []
  pods := []
  events := []
  counters := []

/-- What the record writer does on a collapse, and whether event 34 is raised (R283). -/
def collapseRecords (s : State) : State × Bool :=
  let s := abandonSummary (abandonHusk s)
  if !s.recs.scanned then (s, false)
  else
    match s.recs.commit, s.recs.cap with
    | .busy second _, _ =>
      (modRec s fun r => { r with commit := .busy second true, job := setCollapsed r.job }, true)
    | .waiting, some c =>
      let c := if c.closed then c else { c with raws := rawsNow s }
      let s := startCommit s c true
      ({ s with fresh := s.fresh + 1 }, true)
    | _, _ =>
      if critical s then
        let s := startCommit s (collapseCapture s) true
        ({ s with fresh := s.fresh + 1 }, true)
      else (s, false)

/-! ## Hold-up (R285, R286) -/

/-- R285: LOW is judged from the first V_HOLD at or above HOLD_WARN, or from 100 ms after entry to STANDBY. -/
def holdJudged (s : State) : Bool :=
  s.recs.reached || (serviceable s.sup.mode && decide (s.clk.standbyAt + 20000000 ≤ s.clk.time))

/-- HOLD_LOW: V_HOLD has stayed below HOLD_WARN for 1 ms (R285). -/
def execHoldLow (s : State) : Host.Outcome State Fault Refusal :=
  done s fun s => whenRunning s fun s =>
    if holdJudged s && !s.recs.holdLow then raise (modRec s fun r => { r with holdLow := true }) 35 else s

/-- HOLD_RECOVER: V_HOLD has stayed at or above HOLD_WARN for 1 ms (R285, R286). -/
def execHoldRecover (s : State) : Host.Outcome State Fault Refusal :=
  done s fun s => whenRunning s fun s =>
    modRec s fun r => { r with holdLow := false, reached := true, charged := r.charged || serviceable s.sup.mode }

/-- CHARGED on entry to STANDBY (R286). -/
def holdAtEntry (s : State) : State := modRec s fun r => { r with charged := decide (act s 0x1700 4 ≤ r.vhold) }

/-! ## Views (R287, R288) -/

def viewOf (q : ReqState) : ViewId → View
  | .kernel => q.viewK
  | .husk => q.viewH
  | .summary => q.viewS

def setView (q : ReqState) (v : ViewId) (x : View) : ReqState :=
  match v with
  | .kernel => { q with viewK := x }
  | .husk => { q with viewH := x }
  | .summary => { q with viewS := x }

/-- A write of SELECT that passed its checks (R288). -/
def selectView (s : State) (r : Requester) (v : ViewId) (sel : Nat) : State :=
  modReq s r fun q => setView q v { View.reset with select := sel, loading := true }

/-- The slot that a selection resolves to: an age among the valid records, or a slot number (R287). -/
def resolveView (m : Map Byte) (v : ViewId) (sel : Nat) : Option Nat :=
  let n := fld sel 0 11
  if bit sel 15 then ((byAge m v)[n]?).map (·.2) else some n

/-- The 256 bytes of a block (R287). DESIGN CHOICE: the seven next older entries of a summary block are those of the seven
slots before the selected one, modulo 2048, with their bytes as they are, also where such a slot is erased, torn or out of
SEQ order (log 19). -/
def viewBlock (m : Map Byte) (v : ViewId) (sel n : Nat) : List Byte :=
  match v with
  | .kernel => slotBytes m .kernel n
  | .husk => nvmBytes m (huskAddr n + 256 * fld sel 11 4) 256
  | .summary => ((List.range 8).map fun i => slotBytes m .summary ((n + 2048 - i) % 2048)).flatten

/-- A view as its load leaves it (R287, R288). -/
def loadedView (m : Map Byte) (v : ViewId) (x : View) : View :=
  match resolveView m v x.select with
  | none => { View.reset with select := x.select, ready := true }
  | some n =>
    let bs := slotBytes m v n
    { select := x.select, ready := true, loading := false, valid := slotValid v bs, torn := slotTorn v bs
      slot := n, seq := slotSeq v bs, data := viewBlock m v x.select n }

/-- VIEW_LOAD_DONE: the block has been read from the NVM, which no write occupies (R288). -/
def execViewLoadDone (r : Requester) (v : ViewId) (s : State) : Host.Outcome State Fault Refusal :=
  done s fun s => whenRunning s fun s =>
    let x := viewOf (req s r) v
    if x.loading && !nvmWriting s then
      modReq (occNvm s 5) r fun q => setView q v (loadedView s.recs.nvm v x)
    else s

end Sys2Proof.Machine
end

