-- ==== Sys2Proof/Machine/EngineOps.lean ====
section
/-!
DEFINITION. Starting, halting and trapping the sequence engine (R313, R322, R326, R331, R332, R334).
-/
namespace Sys2Proof.Machine

/-- The partition of the engine is under in-service test (R502). -/
def engTested (s : State) : Bool := testing s 2

/-- The modes in which the engine runs (R332). -/
def engineMode (m : Mode) : Bool :=
  match m with
  | .standby | .ascend | .run | .descend | .crash => true
  | _ => false

/-- The instruction in progress and the skid in progress end (R327, R331). -/
def idleEngine (e : Eng) : Eng := { e with busy := 0, stall := 0, skid := none, read := none }

/-- The engine stops: its held timed actions are discarded (R326, R334), and what waited for the store port is not
executed. -/
def stopEngine (s : State) (st : EngSt) : State :=
  modEng (discardTacts s) fun e => { idleEngine e with st := st, rows := [], rowWait := 0 }

/-- HALTED, for any reason but a trap; a start that waited is withdrawn. -/
def haltEngine (s : State) : State := modEng (stopEngine s .halted) fun e => { e with startReq := false }

/-- A start at the next boundary is wanted (R332, R334). -/
def wantStart (s : State) : State := modEng s fun e => { e with startReq := true }

def fieldLen (s : State) : Nat := act s 0x1801 3
def engCtrl (s : State) : Nat := act s 0x1800 1

/-- Where a start enters, with its privilege (R332). -/
def startEntry (s : State) : Option (PAddr × Bool) :=
  if 0 < s.eng.intLen then some (0, false)
  else if 0 < fieldLen s ∧ bit (engCtrl s) 1 = true then some (0x1000, true)
  else none

/-- Initial data words from an address on. -/
def loadWords (m : Map Word) (a : Nat) : List Word → Map Word
  | [] => m
  | w :: r => loadWords (put m 0 a w) (a + 1) r

/-- The registers, flags and pending bits at a start, with the memories' initial contents (R313, R316). -/
def freshEngine (e : Eng) (pc : PAddr) (field : Bool) : Eng :=
  { Eng.reset with
    st := .running, pc := pc, field := field, fieldStart := field
    prog := e.prog, data := loadWords [] 0 (e.initData.take 512), intLen := e.intLen, initData := e.initData
    trapInfo := e.trapInfo, trapPc := e.trapPc, tactDisc := e.tactDisc }

/-- A start is due at this boundary (R332, R334, R505). -/
def startDue (s : State) : Bool :=
  s.eng.startReq && engineMode s.sup.mode && !engTested s && decide (s.eng.st = .halted ∨ s.eng.st = .trapped)

/-- The start of R332 at a boundary. -/
def startEngine (s : State) : State :=
  if startDue s then
    let s1 := modEng s fun e => { e with startReq := false }
    if bit (engCtrl s) 0 && !partDisabled s 2 then
      match startEntry s with
      | some (pc, field) => modEng s1 fun e => freshEngine e pc field
      | none => s1
    else s1
  else s

/-! ## Traps (R322, R331) -/

/-- The return stack cut back to a depth; the top is the head of the list. -/
def cutStack (st : List PAddr) (depth : Nat) : List PAddr := st.drop (st.length - depth)

/-- The first timed action that is due in a frame, and those that stay (R325). -/
def takeDue (f : Nat) : List Tact → Option (Tact × List Tact)
  | [] => none
  | t :: r =>
    if t.fire ≤ f then some (t, r) else (takeDue f r).map fun e => (e.1, t :: e.2)

/-- A field trap discards the timed actions posted with field privilege; the delay of one that was due ends with it
(R325, R326). -/
def discardFieldTacts (s : State) : State :=
  let gone := (s.eng.tacts.filter (·.field)).length
  modEng s fun e => { e with
    tacts := e.tacts.filter (fun t => !t.field), tactDisc := e.tactDisc + gone
    tactWait := e.tactWait && (takeDue (frame s) e.tacts).any fun x => !x.1.field }

/-- An instruction of a skid that traps takes precedence over the interrupt, whose event stays pending (R327). -/
def keepEvent (e : Eng) : Eng := if e.skid.isSome then { e with pend := setBit e.pend e.evnum } else e

/-- The code runs in a field call: field privilege that no start at 0x1000 has given (R322). -/
def inFieldCall (e : Eng) : Bool := e.field && !e.fieldStart

/-- The cause that a trap records: of field code with no field call in progress it is 6, whatever its condition (R322). -/
def trapCause (e : Eng) (cause : Nat) : Nat := if e.field && e.fieldStart then 6 else cause

/-- A trap: event 50, TRAP_INFO and TRAP_PC; a field call ends with C set and the cause in W0, every other trap halts
the engine (R322, R331). -/
def trap (s : State) (cause : Nat) : State :=
  let e := s.eng
  let cause := trapCause e cause
  let s := occEng (raise s 50) 9 1
  let s := modEng s fun e => { idleEngine (keepEvent e) with trapInfo := flg e.field 15 + cause, trapPc := e.pc }
  if inFieldCall e then
    modEng (discardFieldTacts s) fun e =>
      { setReg e 0 (BitVec.ofNat 16 cause) with
        stack := cutStack e.stack e.fsd, c := true, field := false, pc := e.fra }
  else stopEngine s .trapped

end Sys2Proof.Machine
end

