-- ==== Sys2Proof/Machine/SelfTest.lean ====
section
/-!
DEFINITION. Self-test: the BOOT tests (R494 to R497) and the in-service runs (R498 to R506).
-/
namespace Sys2Proof.Machine

def modBist (s : State) (f : Bist → Bist) : State := { s with bist := f s.bist }

/-! ## Results (R494, R507) -/

/-- Patterns to the terminal count of a partition (R493). -/
def terminalCount (p : Nat) : Nat := ([1048576, 262144, 196608, 98304, 98304, 131072] : List Nat).getD p 0

/-- The fixed seed is loaded, the MISR and the counter are cleared (R494). -/
def unitStart (p : Nat) : BistUnit := { prpg := (Config.prpg p 0).toNat, misr := 0, count := 0 }

/-- The test logic at the end of a run: the patterns stop at the terminal count (R494). -/
def unitEnd (p : Nat) (r : BistRun) : BistUnit :=
  let n := min r.patterns (terminalCount p)
  { prpg := (Config.prpg p n).toNat, misr := r.misr % 2 ^ 32, count := n }

/-- RESULT of a run: 3 INCOMPLETE short of the terminal count; there 1 PASS when the MISR equals the expected signature,
2 FAIL when it differs (R494). -/
def runResult (p : Nat) (r : BistRun) : Nat :=
  let u := unitEnd p r
  if u.count < terminalCount p then 3 else if u.misr = (Config.expectedSig p).toNat then 1 else 2

/-- A run of a partition has ended: its test logic, and PART_SIG (R494, R507). -/
def keepRun (s : State) (p : Nat) (r : BistRun) : State :=
  modBist s fun b => { b with
    units := put b.units BistUnit.reset p (unitEnd p r), sig := put b.sig 0 p (unitEnd p r).misr }

/-- PART_STATUS(i) takes a result; DISABLED stays (R507). -/
def setResult (s : State) (i result : Nat) (boot : Bool) : State :=
  modBist s fun b => { b with
    part := put b.part 0 i (result * 4096 + flg (bit (get b.part 0 i) 11) 11 + flg boot 9) }

/-- MEM_FAIL (R496, R507). -/
def memFailWord (c : MemCell) : Nat := 2 ^ 31 + (c.ram % 32) * 2 ^ 26 + (c.addr % 2 ^ 18) * 2 ^ 8 + c.bit % 64

/-! ## BOOT (R360, R361, R494 to R497) -/

/-- BOOT runs its steps: the mode is BOOT and BOOT-HOLD has not begun. -/
def booting (s : State) : Bool := decide (s.sup.mode = .boot) && !s.boot.hold

/-- MEMORY_BIST: the March test of every RAM ends (R496, R497). -/
def execMemoryBist (fail : Option MemCell) (s : State) : Host.Outcome State Fault Refusal :=
  done s fun s => whenRunning s fun s =>
    if booting s && !s.boot.memDone then
      match fail with
      | none => { s with boot := { s.boot with memDone := true } }
      | some c => enterHold (modBist s fun b => { b with memFail := memFailWord c }) 1
    else s

/-- Result of a BOOT run. Both copies of SUPERVISE must pass, and every comparator group must report the difference that
the device forces at the end; a silent one gives FAIL (R494, R495). DESIGN CHOICE: the result of the first copy that does
not pass is the partition's (log 23). -/
def bootResult (part : Nat) (run copy : BistRun) (silent : List Nat) : Nat :=
  if part ≠ 0 then runResult part run
  else if !silent.isEmpty then 2
  else if runResult 0 run = 1 then runResult 0 copy
  else runResult 0 run

/-- BOOT_RESULT names the lowest failing partition (R497). -/
def nameFailure (s : State) (part result : Nat) : State :=
  if s.boot.hold = false ∨ (s.boot.cause = 2 ∧ part < s.bist.bootPart) then
    enterHold (modBist s fun b => { b with bootPart := part, bootRes := result }) 2
  else s

/-- LOGIC_BIST: the BOOT run of a partition ends (R494, R495, R497); `copy` is the run of SUPERVISE's second copy, and
`silent` lists the comparator groups that have not reported the forced difference. The runs of all partitions are made
together, so that a run may end after another's failure. -/
def execLogicBist (part : Nat) (run copy : BistRun) (s : State) (silent : List Nat := []) :
    Host.Outcome State Fault Refusal :=
  done s fun s => whenRunning s fun s =>
    if s.sup.mode = .boot ∧ s.boot.memDone = true ∧ part ≤ 5 ∧ get s.bist.part 0 part = 0 then
      let r := bootResult part run copy silent
      let s := keepRun (setResult s part r true) part run
      let s := if part = 0 then modBist s fun b => { b with units := put b.units BistUnit.reset 6 (unitEnd 0 copy) } else s
      if r = 1 then { s with boot := { s.boot with logicDone := setBit s.boot.logicDone part } }
      else nameFailure s part r
    else s

/-- RING_SCAN: in BOOT, beside the logic BIST (R261, R360). -/
def execRingScan (s : State) : Host.Outcome State Fault Refusal :=
  done s fun s => whenRunning s fun s =>
    if booting s && s.boot.memDone && !s.boot.ringDone then
      ringScan { s with boot := { s.boot with ringDone := true } }
    else s

/-- The step of a number of BOOT_RESULT.PART has not ended (R360, R507). -/
def stepOpen (s : State) (n : Nat) : Bool :=
  match n with
  | 1 => !s.boot.crystalDone
  | 2 => !s.boot.memDone
  | 3 => !decide (s.boot.logicDone = 63)
  | 4 => !s.boot.ringDone
  | 5 => !s.boot.imageDone
  | 6 => s.boot.imageDone && !decide (s.boot.refFrames = 0)
  | _ => false

/-- BOOT_STEP_OVERRUN: a step has not ended by the end of its time window (R361). -/
def execBootStepOverrun (n : Nat) (s : State) : Host.Outcome State Fault Refusal :=
  done s fun s => whenRunning s fun s =>
    if booting s && stepOpen s n then enterHold (modBist s fun b => { b with bootPart := n }) 6 else s

/-! ## In-service runs (R498 to R505) -/

/-- Run time of a partition in frames (R493). -/
def runFrames (i : Nat) : Nat := ([0, 625, 500, 300, 300, 400] : List Nat).getD i 0

def testCtrl (s : State) : Nat := act s 0x1E00 1

/-- The grid of scheduling points begins at entry to STANDBY (R498). -/
def firstPoint (s : State) : State := modBist s fun b => { b with grid := s.clk.time, last := s.clk.time }

/-- Ticks between two points of the grid (R498). -/
def testInterval (s : State) : Nat := act s 0x1E00 2 * 200000

/-- Device time of the next scheduling point: the first one of the grid after the latest (R498). -/
def nextPoint (s : State) : Nat :=
  s.bist.grid + ((s.bist.last - s.bist.grid) / testInterval s + 1) * testInterval s

/-- A set that changes TEST_INTERVAL gives the grid its new points from this boundary on (R498, R503). -/
def regrid (s t : State) : State :=
  if testInterval t = testInterval s then t else modBist t fun b => { b with last := t.clk.time }

/-- The next partition of the rotation that may be tested (R498). -/
def nextPart (s : State) : Option Nat :=
  ((List.range 5).map fun i => (s.bist.rot + i) % 5 + 1).find? fun p =>
    bit (testCtrl s) (p - 1) && !partDisabled s p

/-- The partition that a scheduling point takes: one abandoned at SLEEP entry, TEST_NOW, whatever TEST_MASK and DISABLED
show of it, then the rotation (R498, R501, R504). -/
def pickPart (s : State) : Option Nat :=
  match s.bist.first with
  | some p => some p
  | none =>
    match s.bist.testNow with
    | some p => some p
    | none => nextPart s

/-- The partition chosen at the scheduling point of this tick (R498, R499). -/
def takePoint (s : State) : State :=
  let s1 := modBist s fun b => { b with last := s.clk.time }
  if bit (testCtrl s) 15 && s.bist.run.isNone then
    match pickPart s with
    | some p =>
      let rotates := s.bist.first.isNone && s.bist.testNow.isNone
      modBist s1 fun b => { b with
        sched := some (p, s.clk.time), rot := if rotates then p else b.rot
        first := none, testNow := if s.bist.first.isNone then none else b.testNow }
    | none => s1
  else s1

/-- The port of a self-test partition (R493). -/
def partPort (p : Nat) : Port := if p = 3 then .a else .b

/-- The start condition of a partition at the boundary that opens this frame; `busy`: the CAN port transmits or receives
a frame in its tick (R499). -/
def startCondition (s : State) (p : Nat) (busy : Bool) : Bool :=
  match p with
  | 1 => decide (frame s % 8 = 1) && !s.twi.engaged && !s.image.busy
  | 2 =>
    match s.eng.st with
    | .halted | .trapped => true
    | .waite => !s.eng.inHandler && s.eng.tacts.isEmpty
    | _ => false
  | 3 | 4 => !portOn s (partPort p) || decide ((port s (partPort p)).err = 2) || !busy
  | _ => true

/-- The end of the time in which a chosen partition can start: 4096 frames after its scheduling point (R499). -/
def startLimit (point : Nat) : Nat := point + 4096 * 512

/-- A run starts at this boundary: the partition's state is saved, and its test logic begins (R494, R499, R500). The
state of a partition other than the engine stays where it is, and the run does not touch it. -/
def startRun (s : State) (busy : Bool) : State :=
  match s.bist.sched with
  | some (p, t) =>
    if serviceable s.sup.mode && decide (s.clk.time % 512 = 0) && decide (t ≤ s.clk.time ∧ s.clk.time ≤ startLimit t) &&
        startCondition s p busy then
      modBist s fun b => { b with
        sched := none, run := some (p, frame s), saved := if p = 2 then some (s.eng, act s 0x1800 1) else none
        units := put b.units BistUnit.reset p (unitStart p) }
    else s
  | none => s

/-- BIST_RUN_START: in tick 0 of the frame that a boundary opens (R499, R500). -/
def execBistRunStart (s : State) (busy : Bool := false) : Host.Outcome State Fault Refusal :=
  done s fun s => whenRunning s fun s => startRun s busy

/-- BIST_SKIP: the start condition has not held by 4096 frames after the scheduling point (R499). -/
def execBistSkip (s : State) : Host.Outcome State Fault Refusal :=
  done s fun s => whenRunning s fun s =>
    match s.bist.sched with
    | some (p, t) =>
      if startLimit t ≤ s.clk.time ∧
          ¬ (s.clk.time = startLimit t ∧ s.clk.time % 512 = 0 ∧ startCondition s p true = true) then
        setResult (modBist s fun b => { b with sched := none, skips := b.skips + 1 }) p 5 false
      else s
    | none => s

/-- A partition is disabled until reset (R505). -/
def disablePart (s : State) (p : Nat) : State :=
  let s := modBist s fun b => { b with part := put b.part 0 p (setBit (get b.part 0 p) 11) }
  match p with
  | 2 => haltEngine s
  | 3 => portStops s .a false
  | 4 => portStops s .b false
  | _ => s

/-- The engine's commands of the test are applied at the restore: HALT, which leaves a trapped engine TRAPPED as at any
other time (log 12), then START (R502). -/
def engineRestored (s : State) : State :=
  let s :=
    if s.bist.halt then
      let s := modBist s fun b => { b with halt := false }
      if s.eng.st = .trapped then s else stopEngine s .halted
    else s
  if startDue s then modEng (startEngine s) fun e => { e with stall := 1 } else s

/-- BIST_RUN_END: in tick 0 of the frame that follows the frames of the run (R500, R505). -/
def execBistRunEnd (run : BistRun) (s : State) : Host.Outcome State Fault Refusal :=
  done s fun s => whenRunning s fun s =>
    match s.bist.run with
    | some (p, f) =>
      if s.clk.time = (f + runFrames p) * 512 then
        let r := runResult p run
        let s := modBist s fun b => { b with run := none, saved := none, runs := b.runs + 1 }
        let s := keepRun (setResult s p r false) p run
        let s := if p = 2 then engineRestored s else s
        if r = 1 then raise s 40
        else
          let s := raise (modBist s fun b => { b with fails := b.fails + 1 }) 39
          if 2 ≤ p ∧ bit (testCtrl s) (8 + (p - 1)) = true then disablePart s p else s
      else s
    | none => s

/-- SLEEP entry ends a run with ABANDONED; its partition is tested first after the wake (R504). -/
def abandonRun (s : State) : State :=
  match s.bist.run with
  | some (p, _) =>
    setResult (modBist s fun b => { b with run := none, saved := none, sched := none, first := some p, halt := false }) p 4 false
  | none => modBist s fun b => { b with sched := none }

/-- A write of TEST_NOW (R501). -/
def testNow (s : State) (v : Nat) : State :=
  if 1 ≤ v ∧ v ≤ 5 then modBist s fun b => { b with testNow := some v } else s

end Sys2Proof.Machine
end

