-- ==== Sys2Proof/Machine/Power.lean ====
section
/-!
DEFINITION. Power, reset and clock (R41 to R48, R349 to R359), the supplies as the dictionary shows them (R352 to R357),
entry to STANDBY (R372, R374) and SLEEP (R369 to R372).
-/
namespace Sys2Proof.Machine

/-! ## Reset (R46, R48, R358, R359) -/

/-- RESET_CAUSE bits (R358). -/
def causePowerOn : Nat := 0
def causeCollapse : Nat := 1
def causeSupply : Nat := 2
def causeThermal : Nat := 3
def causePll : Nat := 4
def causePin : Nat := 5
def causeHost : Nat := 6
def causeImage : Nat := 7
def causeWakeBoot : Nat := 8

/-- Everything at its reset value but what a reset keeps: the NVM with a commit on hold-up energy (R281), the key slot
and AUTH_CTRL (R386), the bank monitors, the ADDR pins, WAKE_INFO for WAKE_BOOT (R371), the power state itself and the
waiting commands. -/
def resetState (s : State) : State :=
  { State.reset with
    pwr := s.pwr
    recs := recsAfterReset s.recs
    image := Image.reset s.image.keySlot s.image.keySet s.image.authReq
    sup := { Sup.reset with supply := { Supply.reset with banks := s.sup.supply.banks } }
    sleep := { Sleep.reset with wakeInfo := if bit s.pwr.causes causeWakeBoot then s.sleep.wakeInfo else 0 }
    boot := Boot.reset s.boot.addrSel
    clk := { Clock.reset with pllLocked := s.clk.pllLocked }
    fresh := s.fresh
    pending := s.pending }

/-- A reset source holds (R358, R359). -/
def enterReset (s : State) (cause : Nat) : State :=
  let causes := if s.pwr.held then setBit s.pwr.causes cause else 2 ^ cause
  resetState (cutWrites <| tornChunk { s with pwr := { s.pwr with held := true, srcs := setBit s.pwr.srcs cause, causes := causes } })

/-- Reset is released, the PLL having locked: tick 0 of frame 0 of BOOT, on the internal oscillator (R41, R46, R48, R341,
R350). -/
def releaseReset (s : State) (addrSel : Nat) : State :=
  let s1 := { s with
    pwr := { s.pwr with held := false, srcs := 0, resetCause := s.pwr.causes, retained := true }
    boot := { s.boot with addrSel := addrSel }
    clk := { s.clk with pllLocked := true } }
  nodeDefaults (resetState s1)

/-- A collapse, or a loss handled as one: the record writer acts, then the device is in reset (R280, R283, R351,
R357). Event 34 reaches only what still has supply (R284). -/
def collapse (s : State) (cause : Nat) : State :=
  let (t, ev) := collapseRecords s
  let t := enterReset t cause
  if ev then raise t 34 else t

/-- POWER_ON: VAUX rises through 4.0 V (R349, R358). -/
def execPowerOn (s : State) : Host.Outcome State Fault Refusal :=
  done s fun s =>
    if s.pwr.powered then s
    else
      resetState { s with pwr := { s.pwr with powered := true, held := true, srcs := 1, causes := 1 } }

/-- The level of an ADDR ball: low or high when it shows so under both currents, and open otherwise (R524). -/
def triOf (a : AddrSense) : Tri :=
  if a.sourceLow && a.sinkLow then .low else if a.sourceHigh && a.sinkHigh then .high else .open

/-- The level of an ADDR ball (R417). -/
def triLevel : Tri → Nat
  | .low => 0
  | .open => 1
  | .high => 2

/-- s of R417, from both balls. -/
def addrSelOf (addr0 addr1 : AddrSense) : Nat := 3 * triLevel (triOf addr1) + triLevel (triOf addr0)

/-- RESET_RELEASE: the supplies have been good for 100 µs and no other source holds; a source that waits for PLL lock,
and a commit on hold-up energy, still hold it (R350, R358, R417, R524). -/
def execResetRelease (addr0 addr1 : AddrSense) (s : State) : Host.Outcome State Fault Refusal :=
  done s fun s =>
    if s.pwr.powered && s.pwr.held && !bit s.pwr.srcs causePll && !commitOnHold s then
      releaseReset s (addrSelOf addr0 addr1)
    else s

/-- RESET_N_ASSERT: a low of 1 µs or more (R359). -/
def execResetNAssert (s : State) : Host.Outcome State Fault Refusal :=
  done s fun s => if s.pwr.powered then enterReset s causePin else s

/-- The PLL is stopped: SLEEP is complete, and no wake has been taken (R369, R371). -/
def pllStopped (s : State) : Bool := decide (s.sup.mode = .sleep) && s.sleep.entered && s.sleep.wake.isNone

/-- PLL_LOCK_LOSS: no record is written (R46). A PLL that SLEEP has stopped with CLK_CORE has no lock to lose (log 1). -/
def execPllLockLoss (s : State) : Host.Outcome State Fault Refusal :=
  done s fun s =>
    if s.pwr.powered && !pllStopped s then
      enterReset { s with clk := { s.clk with pllLocked := false } } causePll
    else s

/-- PLL_LOCK: BOOT starts unless another source still holds the reset (R46, R358); the release reads ADDR0 and ADDR1
anew (R417). -/
def execPllLock (s : State) (addr0 addr1 : AddrSense := AddrSense.tiedLow) : Host.Outcome State Fault Refusal :=
  done s fun s =>
    if s.pwr.powered && s.pwr.held && bit s.pwr.srcs causePll then
      let s := { s with
        clk := { s.clk with pllLocked := true }, pwr := { s.pwr with srcs := clrBit s.pwr.srcs causePll } }
      if s.pwr.srcs = 0 ∧ commitOnHold s = false then releaseReset s (addrSelOf addr0 addr1) else s
    else s

/-- COLLAPSE (R280 to R284). -/
def execCollapse (s : State) : Host.Outcome State Fault Refusal :=
  done s fun s =>
    if !s.pwr.powered then s
    else if s.pwr.held then enterReset s causeCollapse
    else collapse s causeCollapse

/-- POWER_LOSS: VAUX falls below 4.0 V, far below COLLAPSE_LEVEL; a commit runs on from hold-up energy (R281, R349,
R366). -/
def execPowerLoss (s : State) : Host.Outcome State Fault Refusal :=
  done s fun s =>
    if s.pwr.powered then
      let s := if s.pwr.held then s else collapse s causeCollapse
      resetState { s with
        pwr := { powered := false, held := false, srcs := 0, causes := 0, resetCause := 0, retained := false }
        sup := { s.sup with supply := { s.sup.supply with banks := 0 } } }
    else s

/-- THERMAL_SHUTDOWN: TJ above 170 °C for 1 ms (R357). -/
def execThermalShutdown (s : State) : Host.Outcome State Fault Refusal :=
  done s fun s =>
    if !s.pwr.powered then s
    else if s.pwr.held then enterReset s causeThermal
    else collapse s causeThermal

/-! ## Clock (R41 to R45) -/

/-- CRYSTAL_CHECK: the BOOT check ends (R41). DESIGN CHOICE: a failed check sets BOOT_INTERNAL and not MON_FAIL, for R42's
gates fail only while the crystal is the reference (log 39). -/
def execCrystalCheck (pass : Bool) (s : State) : Host.Outcome State Fault Refusal :=
  done s fun s => whenRunning s fun s =>
    if booting s && !s.boot.crystalDone then
      { s with
        boot := { s.boot with crystalDone := true }
        clk := if pass then { s.clk with crystal := true } else { s.clk with bootInternal := true, degraded := true } }
    else s

/-- CRYSTAL_MONITOR_GATE: a gate of 1024 cycles ends with a count of crystal edges (R42, R43). -/
def execCrystalMonitorGate (edges : Nat) (s : State) : Host.Outcome State Fault Refusal :=
  done s fun s => whenRunning s fun s =>
    if !s.clk.crystal then s
    else if 960 ≤ edges ∧ edges ≤ 1088 then { s with clk := { s.clk with failGates := 0 } }
    else if s.clk.failGates = 0 then { s with clk := { s.clk with failGates := 1, monFail := true } }
    else
      raise { s with clk := { s.clk with failGates := 2, monFail := true, crystal := false, fallback := true } } 42

/-! ## Supplies and temperature (R352 to R356) -/

/-- VEN_BANK_CHANGE (R352): the drivers of the group follow the bank; supervision is unaffected. -/
def execVenBankChange (g : Nat) (good : Bool) (s : State) : Host.Outcome State Fault Refusal :=
  done s fun s =>
    if s.pwr.powered && decide (g < 8) then modSupply s fun u => { u with banks := putBit u.banks g good } else s

/-- VIO_BANK_CHANGE (R353, R460, R511): the bank's inputs read 0 while it is not good. -/
def execVioBankChange (bank : VioBank) (good : Bool) (s : State) : Host.Outcome State Fault Refusal :=
  done s fun s =>
    let b := match bank with
      | .a => 8
      | .b => 9
    if s.pwr.powered then bankChange s b good else s

/-- A measurement falls due in this frame: the first one since the reset, or one a multiple of 256 frames behind the latest
(R355; log 28). -/
def measureDue (s : State) : Bool :=
  match s.sup.supply.measured with
  | some f => decide (f < frame s ∧ (frame s - f) % 256 = 0)
  | none => true

/-- SUPPLY_MEASURE (R286, R355, R356). -/
def execSupplyMeasure (m : Measured) (s : State) : Host.Outcome State Fault Refusal :=
  done s fun s => if !running s || !measureDue s then s else
    let s := modSupply s fun u => { u with
      measured := some (frame s)
      vaux := m.vaux % 65536, v33 := m.v33 % 65536, v09 := m.v09 % 65536
      vauxMin := min u.vauxMin (m.vaux % 65536)
      tj := m.tj % 65536, tjMax := if s16 u.tjMax < s16 m.tj then m.tj % 65536 else u.tjMax }
    modRec s fun r => { r with
      vhold := m.vhold % 256
      charged := r.charged || (serviceable s.sup.mode && decide (act s 0x1700 4 ≤ m.vhold % 256))
      reached := r.reached || decide (act s 0x1700 4 ≤ m.vhold % 256) }

/-- A pin of the bank has a function other than GPIO, seized pins included, or has its output enabled (R354, R449). -/
def bankUsed (s : State) (b : Nat) : Bool :=
  (List.range 48).any fun n =>
    decide (pinBank n = b) && (!decide (pinAf s n = 0) || bit (act s (0x1A00 + n) 1) 7 || seized s n)

/-- The condition of a supply warning, where the state holds it; the levels of VAUX, V33 and V09 are the command's
(R354). -/
def warnCondition (s : State) (b : Nat) : Bool :=
  if b < 8 then !bit s.sup.supply.banks b && (List.range 12).any fun e => (railOwner s (12 * b + e)).isSome
  else if b < 10 then !bit s.sup.supply.banks b && bankUsed s b
  else decide (b < 13)

/-- SUPPLY_WARNING: the condition has held for 1 ms (R354). -/
def execSupplyWarning (b : Nat) (s : State) : Host.Outcome State Fault Refusal :=
  done s fun s => whenRunning s fun s =>
    if serviceable s.sup.mode && !bit s.sup.supply.warn b && warnCondition s b then
      raise (modSupply s fun u => { u with warn := setBit u.warn b }) 43
    else s

/-- SUPPLY_WARNING_CLEAR: the condition has been absent for 1 ms (R354). -/
def execSupplyWarningClear (b : Nat) (s : State) : Host.Outcome State Fault Refusal :=
  done s fun s => whenRunning s fun s =>
    if serviceable s.sup.mode && (decide (10 ≤ b) || !warnCondition s b) then
      modSupply s fun u => { u with warn := clrBit u.warn b }
    else s

/-- TEMP_WARNING (R356). -/
def execTempWarning (s : State) : Host.Outcome State Fault Refusal :=
  done s fun s => whenRunning s fun s =>
    if s.sup.supply.tempWarn then s else raise (modSupply s fun u => { u with tempWarn := true }) 44

/-- TEMP_WARNING_CLEAR (R356). -/
def execTempWarningClear (s : State) : Host.Outcome State Fault Refusal :=
  done s fun s => whenRunning s fun s => modSupply s fun u => { u with tempWarn := false }

/-! ## Entry to STANDBY (R372, R374) -/

/-- What an entry to STANDBY from BOOT or from SLEEP starts: both CAN ports with their announces, the two-wire target,
the line unit, the engine, the self-test grid and the hold-up judgement (R248, R285, R332, R372, R374, R498). -/
def standbyEntry (s : State) : State :=
  let s := announceBoth (setMode s .standby)
  let s := { s with twi := { s.twi with ready := true }, clk := { s.clk with standbyAt := s.clk.time } }
  let s := wantStart (holdAtEntry (firstPoint s))
  entryFault (startLine s)

/-- BOOT ends at a boundary (R41, R258, R262, R341, R374, R507). -/
def bootEnds (s : State) : State :=
  let s1 := { s with
    clk := { s.clk with degraded := false }
    sup := { s.sup with bootDone := s.clk.time }
    boot := { s.boot with bootTime := min (s.clk.time / 20000) 255 }
    bist := { s.bist with valid := true } }
  let s1 := if s.clk.degraded then raise s1 42 else s1
  let s2 := standbyEntry s1
  tornCandidates s2

/-! ## SLEEP (R369 to R372) -/

/-- No requester keeps its key in SLEEP (R370). -/
def dropKeys (s : State) : State := each requesters s fun s r => modReq s r fun q => { q with key := .idle }

def sleepCfg (s : State) : Nat := act s 0x0200 9

/-- A chunk transaction that ends before its 56th data byte sets SEQ_ERR (R437). -/
def twiShort (s : State) : State :=
  if s.twi.chunkTx && decide (s.twi.chunk.length < 56) then { s with image := { s.image with seqErr := true } } else s

/-- The boundary that handles an admitted SLEEP request: the engine, the line unit, the converters and CLK_CORE stop,
every pin takes its sleep state, and CUT_CORE drives CORE_EN low (R369, R455, R504). Accesses that wait for the store port
end (log 2). -/
def enterSleep (s : State) : State :=
  let ends := portSends s
  let s := dropKeys (abandonRun (haltEngine (setMode (sleepBalls s) .sleep)))
  let s := releaseAllDis (stopLine s)
  let s := twiShort s
  { s with
    hostQ := []
    twi := { s.twi with ready := false, phase := .idle, chunkTx := false, chunk := [], engaged := false, fetches := [], loaded := none }
    canA := { s.canA with finishing := ends .a }
    canB := { s.canB with finishing := ends .b }
    sleep := { s.sleep with entered := false, wake := none, coreLow := bit (sleepCfg s) 15 }
    pwr := { s.pwr with retained := true } }

/-- WAKE_INFO of a wake (R371, R372). -/
def wakeWord (w : Wake) (retained : Bool) : Nat :=
  0x8000 + flg retained 14 +
  (match w with
   | .twoWire => 1
   | .pin n => n % 8 * 256 + 2
   | .timer => 3)

/-- A complete SLEEP takes a wake: with retention it returns to STANDBY, without it BOOT follows (R371). -/
def takeWake (s : State) (w : Wake) : State :=
  let info := wakeWord w s.pwr.retained
  if s.pwr.retained then { s with sleep := { s.sleep with wake := some w, wakeInfo := info, coreLow := false } }
  else enterReset { s with sleep := { s.sleep with wakeInfo := info } } causeWakeBoot

/-- A wake event that SLEEP_CFG enables; one during the entry waits for its end (R371). -/
def wakeEvent (s : State) (w : Wake) : State :=
  if s.pwr.powered && !s.pwr.held && decide (s.sup.mode = .sleep) && s.sleep.wake.isNone then
    if s.sleep.entered then takeWake s w else { s with sleep := { s.sleep with wake := some w } }
  else s

/-- SLEEP_ENTRY_COMPLETE (R369). -/
def execSleepEntryComplete (s : State) : Host.Outcome State Fault Refusal :=
  done s fun s =>
    if s.pwr.powered && !s.pwr.held && decide (s.sup.mode = .sleep) && !s.sleep.entered then
      let w := s.sleep.wake
      let s := { s with sleep := { s.sleep with entered := true, wake := none } }
      match w with
      | some w => takeWake s w
      | none => s
    else s

/-- WAKE_TIMER (R371). -/
def execWakeTimer (s : State) : Host.Outcome State Fault Refusal :=
  done s fun s => if bit (sleepCfg s) 13 then wakeEvent s .timer else s

/-- The device is waking with retention (R371, R372). -/
def waking (s : State) : Bool :=
  s.pwr.powered && !s.pwr.held && decide (s.sup.mode = .sleep) && s.sleep.entered && s.sleep.wake.isSome

/-- Retention ends in SLEEP; a wake that has been taken goes on without it, through BOOT (R371). -/
def lossInSleep (s : State) : State :=
  match s.sleep.wake with
  | some w => if waking s then takeWake s w else s
  | none => s

/-- SUPPLY_LOSS: of V33 or V09; in SLEEP it only ends retention (R351, R370, R371). -/
def execSupplyLoss (_which : CoreSupply) (s : State) : Host.Outcome State Fault Refusal :=
  done s fun s =>
    if !s.pwr.powered then s
    else if s.pwr.held then enterReset s causeSupply
    else if s.sup.mode = .sleep then lossInSleep { s with pwr := { s.pwr with retained := false } }
    else collapse s causeSupply

/-- WAKE_READY: the device returns to STANDBY with event 62 (R47, R371, R372). The frame in which SLEEP began goes on: the
converters run its entries as at any frame start (R100, R106). DESIGN CHOICE: the judges' counts and flags and the
reference failure counts stand as at SLEEP entry, for R370 does not speak of them (log 40). -/
def execWakeReady (s : State) : Host.Outcome State Fault Refusal :=
  done s fun s =>
    if waking s then
      let s := wakePins { s with
        now := { s.now with before := some (s.sup.mode, s.sup.pods) }
        sleep := { s.sleep with entered := false, wake := none, coreLow := false }
        canA := { s.canA with finishing := false }
        canB := { s.canB with finishing := false } }
      let s := standbyEntry (raise s 62)
      if converting s then each converters s convFrameStart else s
    else s

/-- TWO_WIRE_TARGET_READY: within tWTWI of a wake with retention the target stops NACKing (R372, R436). -/
def execTwoWireTargetReady (s : State) : Host.Outcome State Fault Refusal :=
  done s fun s => if waking s then { s with twi := { s.twi with ready := true } } else s

end Sys2Proof.Machine
end

