-- ==== Sys2Proof/Machine/ConfigCheck.lean ====
section
/-!
DEFINITION. What follows when a committed set or an image has been applied: the relation of the CAN bit times, pin
locks, and the checks of channels, pods, discharge fields and publish maps (R89, R122, R134, R141, R143, R209, R253,
R394, R413, R446, R454, R460, R477).
-/
namespace Sys2Proof.Machine

/-! ## One set -/

/-- A field of a locked pin that a set staged before the lock does not reach (R453, R454). -/
def lockedField (s : State) (key : Nat) : Bool :=
  match objOf (key / 256) with
  | some (.pinCfg n) => bit s.pins.locked n && decide (key % 256 = 1 ∨ key % 256 = 2)
  | _ => false

/-- The length of a bit in ticks (R394). -/
def bitTicks (v : Nat) : Nat := (fld v 24 8 + 1) * (1 + fld v 16 8 + fld v 8 8)

/-- The set writes the field. -/
def writes (kvs : List (Nat × Nat)) (key : Nat) : Bool := kvs.any fun e => decide (e.1 = key)

/-- A data bit longer than the nominal bit: NOM_BT, DATA_BT and TDC of the port keep their values (R394). -/
def keepTiming (old : State) (kvs : List (Nat × Nat)) (s : State) (p : Port) : State :=
  let i := portIdx p
  if (writes kvs (keyOf i 3) || writes kvs (keyOf i 4)) && decide (bitTicks (act s i 3) < bitTicks (act s i 4)) then
    violation (each [3, 4, 5] s fun s b => setField s (keyOf i b) (act old i b))
  else s

/-- A set that writes CTRL frees a port that stays bus-off; EN as 0 clears its pending bits and its merged count,
and ends the port's sending with the frame in transmission; EN as 1 drops an EVENT frame that has been kept for it (R395,
R396, R409; log 22). `old` is the state before the set. -/
def portSet (old : State) (kvs : List (Nat × Nat)) (s : State) (p : Port) : State :=
  let s := if writes kvs (keyOf (portIdx p) 1) then modPort s p fun c => { c with ctrlSet := true } else s
  if bit (act s (portIdx p) 1) 7 then
    modPort s p fun c => { c with
      finishing := false, out := if c.finishing then c.out.filter fun f => !decide (functionOf f = 2) else c.out }
  else portStops s p (portSends old p || (port s p).finishing)

/-- The sets of a boundary have changed the port's configuration: a frame in reception is finished under the values from
before (R396). `old` is the state before the sets. -/
def portReceives (old s : State) (p : Port) : State :=
  if portOn old p && [1, 2, 3, 4, 5].any fun b => !decide (act old (portIdx p) b = act s (portIdx p) b) then
    modPort s p fun c => { c with inRecv := some (nodeId old p) }
  else s

/-- A counter whose SEL a set changes starts at 0 (R477). -/
def counterSet (old : State) (kvs : List (Nat × Nat)) (s : State) (k : Nat) : State :=
  if writes kvs (keyOf (0x1900 + k) 1) && !decide (selOf old k = selOf s k) then
    { s with ctrs := put s.ctrs Ctr.reset k Ctr.reset
             now := { s.now with adds := put s.now.adds 0 k 0, wraps := clrBit s.now.wraps k, due := clrBit s.now.due k } }
  else s

/-- Every field of a set takes its value in one tick (R63). -/
def applySet (s : State) (kvs : List (Nat × Nat)) : State :=
  let t := each kvs s fun t e => if lockedField s e.1 then t else setField t e.1 e.2
  let t := each [Port.a, Port.b] t (keepTiming s kvs)
  let t := each [Port.a, Port.b] t (portSet s kvs)
  each (List.range 42) t (counterSet s kvs)

/-! ## Channels -/

/-- KIND of a channel as written (R83). -/
def kindOf (s : State) (c : Nat) : Nat := fld (chanCfg s c 1) 0 2

/-- Channel a may be the analog paired half of channel b (R89). -/
def pairHalf (s : State) (a b : Nat) : Bool :=
  decide (kindOf s a = 3) && decide (chanCfg s a 2 = b) && decide (b < 96) && !decide (a = b) &&
  !decide (groupOf a = groupOf b) && decide (a % 12 = b % 12)

/-- The channel's pin has no CHIN function, or a lower-numbered logic channel names it (R89). -/
def chinError (s : State) (c : Nat) : Bool :=
  let pin := fld (chanCfg s c 1) 10 6
  !decide (pinAf s pin = 1) ||
  (List.range c).any fun d => decide (kindOf s d = 2) && decide (fld (chanCfg s d 1) 10 6 = pin)

/-- The thresholds of an analog channel are valid (R122). -/
def thresholdsOk (s : State) (c : Nat) : Bool :=
  let v := chanCfg s c
  decide (v 7 ≤ v 9) && decide (v 9 + v 12 ≤ v 11) && decide (v 11 ≤ v 10) && decide (v 10 + v 12 ≤ v 8) &&
  decide (v 8 ≤ v 6) && decide (v 13 < v 11)

/-- KIND_EFF and CFG_ERR (R89, R118). -/
def kindCheck (s : State) (c : Nat) : Nat × Bool :=
  match kindOf s c with
  | 1 => (1, false)
  | 2 => (2, chinError s c)
  | 3 => if pairHalf s c (chanCfg s c 2) && pairHalf s (chanCfg s c 2) c then (3, false) else (1, true)
  | _ => (0, false)

/-- The configuration checks of one channel (R89, R122, R134). -/
def channelCheck (s : State) (c : Nat) : State :=
  let (kind, err) := kindCheck s c
  let analog := decide (kind = 1 ∨ kind = 3)
  modChan s c fun h => { h with
    kindEff := kind
    cfgErr := err
    thrErr := analog && !thresholdsOk s c
    pairErr := decide (kind = 3) && !decide (chanCfg s c 5 = chanCfg s (chanCfg s c 2) 5) }

/-! ## The pod tree -/

/-- The pods that a pod's flight names, in entry order. -/
def childrenOf (s : State) (p : Nat) : List Nat := (childEntries s p).map (·.2)

/-- One level of the tree: each pod that the frontier names for the first time, with the lowest-numbered naming pod
(R141). -/
def nextLevel (s : State) (seen frontier : List Nat) : List (Nat × Nat) :=
  podNums.filterMap fun q =>
    if seen.contains q then none
    else (frontier.find? fun p => (childrenOf s p).contains q).map fun p => (q, p)

/-- The pods in use with parent and depth, level by level; fuel bounds the depth (R141). -/
def walkTree (s : State) : Nat → Nat → List Nat → List Nat → List (Nat × Nat × Nat)
  | 0, _, _, _ => []
  | f + 1, depth, seen, frontier =>
    let found := nextLevel s seen frontier
    if found.isEmpty then []
    else
      found.map (fun e => (e.1, e.2, depth + 1)) ++
        walkTree s f (depth + 1) (seen ++ found.map (·.1)) (found.map (·.1))

/-- IN_USE, parent and depth of every pod (R141). -/
def buildTree (s : State) : State :=
  let found := walkTree s 48 0 [0] [0]
  each podNums s fun s p =>
    match found.find? fun e => decide (e.1 = p) with
    | some (_, a, d) => modPod s p fun q => { q with inUse := true, parent := some a, depth := d, treeErr := false }
    | none => modPod s p fun q => { q with inUse := decide (p = 0), parent := none, depth := 0, treeErr := false }

/-- A field of an entry in use is out of range, or a reserved field is not 0 (R143, R182). -/
def entryBad (e : Nat) : Bool :=
  !decide (fld e 56 3 = 0) ||
  (match entType e with
   | 1 => !decide (entRel e = 0 ∧ entArg e ≤ 95 ∧ 1 ≤ entDl e)
   | 2 => !decide (entRel e = 0 ∧ entArg e ≤ 47)
   | 3 =>
     !decide (entRel e ≤ 5 ∧ entOff e = 0) || (decide (entRel e = 2) && decide (15 < entArg e)) ||
     (decide (entRel e = 4) && decide (47 < entArg e))
   | _ => true)

/-- Values that decrease somewhere in order. -/
def decreases : List Nat → Bool
  | a :: b :: r => decide (b < a) || decreases (b :: r)
  | _ => false

def countIn (v : Nat) (l : List Nat) : Nat := (l.filter fun x => decide (x = v)).length

/-- The pods that child-pod entries lead to from a list of pods; fuel bounds the steps. -/
def reachFrom (s : State) : Nat → List Nat → List Nat → List Nat
  | 0, seen, _ => seen
  | f + 1, seen, frontier =>
    let new := podNums.filter fun q => !seen.contains q && frontier.any fun p => (childrenOf s p).contains q
    if new.isEmpty then seen else reachFrom s f (seen ++ new) new

/-- Following child-pod entries from a pod leads back to it (R143). -/
def onCycle (s : State) (p : Nat) : Bool := (reachFrom s 48 [] [p]).contains p

/-- A condition of R143 marks the pod; `kids` and `rails` are what all flights in use name. -/
def treeMarks (s : State) (kids rails : List Nat) (p : Nat) : Bool :=
  let own := childrenOf s p
  let es := (entries s p).map (·.2)
  own.any (fun q => decide (1 < countIn q kids) || decide (q = 0 ∨ q = p)) || onCycle s p ||
  (railEntries s p).any (fun e => decide (1 < countIn e.2 rails) || decide ((chan s e.2).kindEff = 0)) ||
  decreases (es.map entOn) || es.any entryBad ||
  es.any fun e => decide (entType e = 3 ∧ entRel e = 4) && (chain s p).contains (entArg e)

/-- TREE_ERR of a pod, and of pod 0 with it (R143). -/
def markTree (s : State) (p : Nat) : State :=
  modPod (modPod s p fun q => { q with treeErr := true }) 0 fun q => { q with treeErr := true }

/-- The pod tree check (R143). -/
def treeCheck (s : State) : State :=
  let used := podsInUse s
  let kids := used.flatMap (childrenOf s)
  let rails := used.flatMap fun p => (railEntries s p).map (·.2)
  each (used.filter (treeMarks s kids rails)) s markTree

/-! ## Discharge fields (R209) -/

/-- TIME of envelope point i. -/
def envTime (s : State) (c i : Nat) : Nat := fld (chanCfg s c (25 + i)) 16 16

/-- ENV(0).TIME is not 0, or the times in use do not rise (R209). -/
def envBad (s : State) (c n : Nat) : Bool :=
  let ts := (List.range n).map (envTime s c)
  decide (0 < n) && (!decide (envTime s c 0 = 0) || (ts.zip ts.tail).any fun e => decide (e.2 ≤ e.1))

/-- The pods that the discharge fields of a channel mark, pod 0 included (R209). -/
def disMarks (s : State) (c : Nat) : List Nat :=
  let v := disCfg s c
  let owner := disOwner s c
  let kind := (chan s c).kindEff
  if disEn v then
    let shared := channels.any fun d => !decide (d = c) && disEn (disCfg s d) && decide (disOutOf (disCfg s d) = disOutOf v)
    let orphan := (railOwner s c).isNone && !(pod s (disPodOf v)).inUse
    let bad := disSupervised v && (!decide (kind = 1 ∨ kind = 3) || decide (disLimit v = 0))
    (if shared || bad || envBad s c (disEnvCount v) then [owner] else []) ++ (if orphan then [0] else [])
  else if disOnCrash v || disSupervised v then [(railOwner s c).getD 0]
  else []

/-- The discharge checks of every channel (R209). -/
def dischargeCheck (s : State) : State := each (channels.flatMap (disMarks s)) s markTree

/-! ## Publish maps (R413) -/

/-- A published item is absent or write-only. -/
def itemBad (v : Nat) : Bool :=
  match fieldOf (fld v 16 16) (fld v 8 8) with
  | some f => decide (f.acc = .wo)
  | none => true

/-- ITEM(0) to ITEM(COUNT − 1) of a map. -/
def mapItems (s : State) (m : Nat) : List Nat := (List.range (act s (0x1C10 + m) 4)).map fun i => act s (0x1C10 + m) (16 + i)

/-- CFG_ERR of a map (R413). -/
def publishCheck (s : State) (m : Nat) : State :=
  let items := mapItems s m
  let words := (items.map fun v => widthOf (fld v 16 16) (fld v 8 8)).sum
  let bad := decide (act s (0x1C10 + m) 2 ≤ act s (0x1C10 + m) 3) || items.any itemBad || decide (29 < words)
  let none := Publish.reset
  { s with publish := put s.publish none m { get s.publish none m with cfgErr := bad } }

/-! ## Pin event lines (R458, R460) -/

/-- A line that a set switches on takes the present level (R460). -/
def pevCheck (old : State) (s : State) (n : Nat) : State :=
  if bit (pevCfg s n) 15 && !bit (pevCfg old n) 15 then pevTake s n else s

/-! ## After the sets of a boundary, or an image -/

/-- Every check, on the configuration as it stands; `old` is the state before the sets. The latched values are those
of the dictionary (R51). -/
def configChecks (old s : State) : State :=
  let s := { s with latched := s.dict }
  let s := each channels s channelCheck
  let s := dischargeCheck (treeCheck (buildTree s))
  let s := each (List.range 16) s publishCheck
  let s := each (List.range 8) (pinChanges old s) (pevCheck old)
  let s := regrid old s
  if s.twi.engaged = false then
    { s with twi := { s.twi with set := { ctrl := act s 0x1D00 1, extra0 := act s 0x1D00 2, extra1 := act s 0x1D00 3
                                          extra2 := act s 0x1D00 4, timeout := act s 0x1D00 5 } } }
  else s

end Sys2Proof.Machine
end

