-- ==== Sys2Proof/Machine/Image.lean ====
section
/-!
DEFINITION. The configuration image: its layout and its check (R381 to R384), the image load of BOOT (R313, R385,
R386), and image update (R388 to R392).
-/
namespace Sys2Proof.Machine

/-! ## The check (R381 to R384) -/

def bankBase (b : Bool) : Nat := if b then 0x20000 else 0

/-- The bytes of a bank from an offset on (R255). -/
def bankBytes (m : Map Byte) (b : Bool) (off n : Nat) : List Byte := nvmBytes m (bankBase b + off) n

def bankNat (m : Map Byte) (b : Bool) (off n : Nat) : Nat := nat (bankBytes m b off n)

def imgLength (m : Map Byte) (b : Bool) : Nat := bankNat m b 4 4
def imgId (m : Map Byte) (b : Bool) : Nat := bankNat m b 8 4
def imgGen (m : Map Byte) (b : Bool) : Nat := bankNat m b 12 4
def imgAuth (m : Map Byte) (b : Bool) : Bool := bit (bankNat m b 16 2) 0
def imgCrc (m : Map Byte) (b : Bool) : Nat := bankNat m b (imgLength m b - 4) 4

/-- A length that R381 admits. -/
def lengthOk (n : Nat) : Bool := decide (n % 4 = 0 ∧ 84 ≤ n ∧ n ≤ 131072)

/-- The longest body of a section type, in bytes (R382). -/
def sectionLimit (type : Nat) : Option Nat :=
  match type with
  | 1 => some 131072
  | 2 | 3 => some 16384
  | 4 => some 1024
  | _ => none

/-- The sections of an image, as type and body; none where their structure breaks R382. -/
def parseSections : Nat → List Byte → Option (List (Nat × List Byte))
  | 0, bs => if bs.isEmpty then some [] else none
  | n + 1, bs =>
    let type := natAt bs 0 2
    let len := natAt bs 4 4
    let rest := bs.drop 8
    if bs.length < 8 ∨ natAt bs 2 2 ≠ 0 ∨ len % 4 ≠ 0 ∨ rest.length < len then none
    else
      match sectionLimit type with
      | none => none
      | some top =>
        if top < len then none
        else (parseSections n (rest.drop len)).map fun l => (type, rest.take len) :: l

/-- The sections of a bank; none where the structure is wrong or a type repeats. -/
def sectionsOf (m : Map Byte) (b : Bool) : Option (List (Nat × List Byte)) :=
  let count := bankNat m b 18 2
  if 4 < count then none
  else
    match parseSections count (bankBytes m b 64 (imgLength m b - 84)) with
    | none => none
    | some l =>
      if l.any fun e => decide (1 < (l.filter fun f => decide (f.1 = e.1)).length) then none else some l

/-- The body of a section; empty when the image has none of the type. -/
def bodyIn (l : List (Nat × List Byte)) (type : Nat) : List Byte :=
  match l.find? fun e => decide (e.1 = type) with
  | some (_, b) => b
  | none => []

/-- An image may set the field to the value; flight entries are not range-checked here (R384). -/
def recordOk (idx sub v : Nat) : Bool :=
  match objOf idx, fieldOf idx sub with
  | some o, some f =>
    decide (f.acc = .rw ∨ f.acc = .rws) &&
    ((match o with
      | .podFlight _ => decide (32 ≤ sub)
      | _ => false) || inRange true o sub v)
  | _, _ => false

/-- The values of one default record: n subindexes from one on. Answers the fields and the bytes that follow. -/
def parseValues (idx : Nat) : Nat → Nat → List Byte → Option (List (Nat × Nat) × List Byte)
  | 0, _, bs => some ([], bs)
  | n + 1, sub, bs =>
    let w := 2 * widthOf idx sub
    let v := natAt bs 0 w
    if bs.length < w ∨ recordOk idx sub v = false then none
    else (parseValues idx n (sub + 1) (bs.drop w)).map fun e => ((keyOf idx sub, v) :: e.1, e.2)

/-- The default records of a body (R383); fuel bounds their number. -/
def parseRecords : Nat → List Byte → Option (List (Nat × Nat))
  | 0, _ => none
  | f + 1, bs =>
    if bs.all fun b => decide (b = 0) then some []
    else
      let count := natAt bs 3 1
      if bs.length < 4 ∨ natAt bs 0 2 = 0 ∨ count = 0 then none
      else
        match parseValues (natAt bs 0 2) count (natAt bs 2 1) (bs.drop 4) with
        | none => none
        | some (kvs, rest) => (parseRecords f rest).map fun l => kvs ++ l

/-- The fields that an image sets, in record order; none where a record fails. -/
def defaultsOf (l : List (Nat × List Byte)) : Option (List (Nat × Nat)) :=
  let body := bodyIn l 1
  parseRecords (body.length + 1) body

/-- The check of a bank (R384). -/
def checkBank (m : Map Byte) (im : Image) (b : Bool) : Nat :=
  let len := imgLength m b
  if bankNat m b 0 2 ≠ 0x4F49 ∨ bankNat m b 2 2 ≠ 1 then 11
  else if !lengthOk len then 2
  else if imgCrc m b ≠ crc32 (bankBytes m b 0 (len - 4)) then 3
  else if imgAuth m b && (!im.keySet || !decide (bankBytes m b (len - 20) 16 = cmac im.keySlot (bankBytes m b 0 (len - 20)))) then 4
  else if !imgAuth m b && im.authReq then 5
  else if fld (bankNat m b 16 2) 1 15 ≠ 0 ∨ bankNat m b 20 44 ≠ 0 then 6
  else
    match sectionsOf m b with
    | none => 6
    | some l =>
      match defaultsOf l with
      | none => 7
      | some _ => 1

/-- What the latest check of a bank found (R391). -/
def noteCheck (im : Image) (m : Map Byte) (b : Bool) (code : Nat) : Image :=
  let info := flg (decide (im.active = some b)) 15 + flg (decide (code = 1)) 14 + code
  let gen := imgGen m b
  if b then { im with infoB := info, genB := if code = 11 then im.genB else gen }
  else { im with infoA := info, genA := if code = 11 then im.genA else gen }

/-! ## The image load (R313, R385, R386) -/

/-- The program words of a section body. -/
def progWords : List Byte → List InstrWord
  | a :: b :: c :: d :: r => BitVec.ofNat 32 (nat [a, b, c, d]) :: progWords r
  | _ => []

/-- The data words of a section body. -/
def dataWords : List Byte → List Word
  | a :: b :: r => BitVec.ofNat 16 (nat [a, b]) :: dataWords r
  | _ => []

/-- Program words from an address on; a word of 0 needs no entry. -/
def putWords (m : Map InstrWord) (a : Nat) : List InstrWord → Map InstrWord
  | [] => m
  | w :: r => putWords (put m 0 a w) (a + 1) r

/-- Fields that the device keeps for each requester, or that are a register port: they are no dictionary field. -/
def perRequester (o : Option Obj) (sub : Nat) : Bool :=
  match o with
  | some .modeCtrl => decide (sub = 4)
  | some .pinLock => decide (sub = 1)
  | some (.view _) => decide (sub = 1)
  | some .engProg => decide (sub = 1 ∨ sub = 2)
  | some .galRam => decide (sub = 1)
  | _ => false

/-- A record of such a field sets it for every requester. DESIGN CHOICE: a COMMIT finds no staging buffer filled, and a
word of ENGINE_PROG.DATA gives way to the engine memories that the load brings, so these two change nothing (log 41). -/
def requesterRecord (s : State) (key v : Nat) : State :=
  each requesters s fun s r =>
    match objOf (key / 256), key % 256 with
    | some .pinLock, 1 => modReq s r fun q => { q with pinMask := v }
    | some (.view w), 1 => selectView s r w v
    | some .engProg, 1 => modReq s r fun q => { q with progAddr := v }
    | some .galRam, 1 => modReq s r fun q => { q with galAddr := v }
    | _, _ => s

/-- The engine's memories from the image (R313), and FIELD_LEN as the length of its field program unless a record sets
FIELD_LEN (R338, R386). -/
def loadEngine (s : State) (l : List (Nat × List Byte)) (kvs : List (Nat × Nat)) : State :=
  let int := progWords (bodyIn l 2)
  let field := progWords (bodyIn l 3)
  let s := if writes kvs (keyOf 0x1801 3) then s else setField s (keyOf 0x1801 3) field.length
  modEng s fun e => { e with
    prog := putWords (putWords [] 0 int) 0x1000 field
    intLen := int.length
    initData := dataWords (bodyIn l 4) }

/-- Load a bank that has checked with code 1: the default records as one committed set, then the checks of any set, and
the engine memories (R386). -/
def loadBank (s : State) (b fallback : Bool) : State :=
  let m := s.recs.nvm
  match sectionsOf m b with
  | none => s
  | some l =>
    let kvs := (defaultsOf l).getD []
    let own := fun (e : Nat × Nat) => perRequester (objOf (e.1 / 256)) (e.1 % 256)
    let t := applySet s (kvs.filter fun e => !own e)
    let t := each (kvs.filter own) t fun t e => requesterRecord t e.1 e.2
    let t := loadEngine t l kvs
    let t := { t with
      image := { t.image with active := some b, gen := imgGen m b, crc := imgCrc m b, imageId := imgId m b }
      boot := { t.boot with imageDone := true, refFrames := 17, bankB := b, bankFallback := fallback, auth := imgAuth m b } }
    configChecks s t

/-- The candidate banks in order of GEN, bank A first on equal GEN, with their codes (R385). -/
def candidates (m : Map Byte) (codeA codeB : Nat) : List (Bool × Nat) :=
  let a := if codeA = 11 then [] else [(false, codeA)]
  let b := if codeB = 11 then [] else [(true, codeB)]
  if imgGen m false < imgGen m true then b ++ a else a ++ b

/-- IMAGE_LOAD: the last step of BOOT before the reference-check frames (R313, R360, R384 to R386). -/
def execImageLoad (s : State) : Host.Outcome State Fault Refusal :=
  done s fun s => whenRunning s fun s =>
    if booting s && s.boot.crystalDone && s.boot.memDone && decide (s.boot.logicDone = 63) && s.boot.ringDone &&
        !s.boot.imageDone then
      let m := s.recs.nvm
      let codeA := checkBank m s.image false
      let codeB := checkBank m s.image true
      let c := candidates m codeA codeB
      let t :=
        match c.find? fun e => decide (e.2 = 1) with
        | some (b, _) => loadBank s b (!decide (c.head? = some (b, 1)))
        | none => s
      let t := { t with image := noteCheck (noteCheck t.image m false codeA) m true codeB }
      if t.boot.imageDone then t else enterHold t (if c.isEmpty then 4 else 3)
    else s

/-! ## Image update (R388 to R392) -/

def modImage (s : State) (f : Image → Image) : State := { s with image := f s.image }

/-- BEGIN (R388). -/
def imageBegin (s : State) : State :=
  let b := decide (act s 0x1F00 2 = 1)
  let len := act s 0x1F00 3
  if s.image.active = some b then modImage s fun i => { i with result := 9 }
  else if !lengthOk len then modImage s fun i => { i with result := 2 }
  else
    modImage s fun i => { i with
      openUpd := true, updB := b, updLen := len, addr := 0, verified := false, seqErr := false, wrFail := false
      checking := false, busy := i.chunk.isSome
      chunk := i.chunk.map fun c => { c with own := false } }

/-- A whole chunk write, or a chunk ignored with SEQ_ERR (R389). -/
def imageChunk (s : State) (bs : List Byte) : State :=
  let i := s.image
  if !decide (bs.length = 56) || !i.openUpd || i.busy || decide (i.updLen ≤ i.addr) then
    modImage s fun i => { i with seqErr := true }
  else
    modImage s fun i => { i with
      busy := true
      chunk := some { addr := bankBase i.updB + i.addr, bytes := bs.take (i.updLen - i.addr), own := true } }

/-- VERIFY (R390). -/
def imageVerify (s : State) : State :=
  let i := s.image
  if !i.openUpd || i.seqErr || decide (i.addr < i.updLen) || i.wrFail then
    modImage s fun i => { i with result := 10, verified := false }
  else modImage s fun i => { i with busy := true, checking := true }

/-- ABORT, and every end of an update (R390, R392). -/
def imageAbort (s : State) : State := imageEnd s

/-- An admitted ACTIVATE (R391). -/
def imageActivate (s : State) : State := enterReset s causeImage

/-- IMAGE_CHUNK_DONE: the chunk's NVM write ends, behind any kernel, husk or summary write (R389). -/
def execImageChunkDone (ok : Bool) (s : State) : Host.Outcome State Fault Refusal :=
  done s fun s => whenRunning s fun s =>
    match s.image.chunk with
    | none => s
    | some c =>
      if nvmWriting s then s
      else
        let t := if ok then modImage (store s c.addr c.bytes) fun i => { i with chunk := none } else tornChunk s
        let t := if ok then occNvm t 6 else occNvm t 4
        modImage t fun i => { i with
          busy := i.checking
          addr := if c.own then i.addr + 56 else i.addr
          wrFail := i.wrFail || (c.own && !ok) }

/-- IMAGE_VERIFY_DONE: the check of the written bank ends, with event 61 (R384, R390, R391). -/
def execImageVerifyDone (s : State) : Host.Outcome State Fault Refusal :=
  done s fun s => whenRunning s fun s =>
    if s.image.checking then
      let m := s.recs.nvm
      let b := s.image.updB
      let code := checkBank m s.image b
      let stale := decide (code = 1) && s.image.active.isSome && decide (imgGen m b ≤ s.image.gen)
      raise (modImage s fun i => { noteCheck i m b code with
        busy := i.chunk.isSome
        checking := false
        result := if stale then 8 else code
        verified := decide (code = 1) && !stale && i.openUpd }) 61
    else s

end Sys2Proof.Machine
end

