-- ==== Sys2Proof/Machine/Reads.lean ====
section
/-!
DEFINITION. What every dictionary field reads as: SUPERVISE values from the frame snapshot (R70), everything else at
the tick of access (R72, R533).
-/
namespace Sys2Proof.Machine

/-- The most recent snapshot, or the pinned one (R69 to R71). -/
def snap (s : State) : Sup :=
  match s.bankPin.getD s.bankCur with
  | 0 => s.bank0
  | 1 => s.bank1
  | _ => s.bank2

/-! ## Identity, mode, time, events, supplies -/

/-- IDENTITY (R380). -/
def readIdentity (s : State) (sub d : Nat) : Nat :=
  match sub with
  | 4 => Config.serial.toNat
  | 6 => s.image.crc
  | 7 => s.image.imageId
  | 8 => s.boot.addrSel
  | _ => d

/-- MODE_CTRL.COMMIT as the requester reads it (R61). -/
def commitWord (q : ReqState) : Nat :=
  flg q.overflow 15 + flg q.discarded 14 + flg q.applied 13 + flg (!q.sets.isEmpty) 12 + q.staged.length

/-- MODE_CTRL.BOOT_INFO (R348). -/
def bootInfo (b : Boot) : Nat := flg b.bankB 15 + flg b.bankFallback 14 + flg b.auth 13 + b.bootTime

/-- MODE_CTRL (R348). -/
def readMode (s : State) (r : Requester) (sub : Nat) : Nat :=
  match sub with
  | 1 => modeWord (snap s)
  | 4 => commitWord (req s r)
  | 6 => (req s r).modeStat
  | 7 => s.pwr.resetCause
  | 8 => bootInfo s.boot
  | 9 | 10 => act s 0x0200 sub
  | 11 => s.sleep.wakeInfo
  | _ => 0

/-- DEV_TIME (R49): the clock root's values as they stand, and those that SUPERVISE sets from the snapshot (R50, R70,
R72). -/
def readTime (s : State) (sub : Nat) : Nat :=
  match sub with
  | 1 => s.clk.time % 2 ^ 64
  | 2 => flg s.clk.monFail 3 + flg s.clk.fallback 2 + flg s.clk.bootInternal 1 + flg s.clk.crystal 0
  | 3 => (snap s).lastCommit % 2 ^ 64
  | 4 => (snap s).bootDone % 2 ^ 64
  | _ => 0

/-- SUPPLY_LIVE (R355). -/
def readSupply (u : Supply) (sub : Nat) : Nat :=
  match sub with
  | 1 => u.vaux
  | 2 => u.v33
  | 3 => u.v09
  | 4 => u.banks
  | 5 => u.warn
  | 6 => u.vauxMin
  | _ => 0

/-- TEMP_LIVE (R356). -/
def readTemp (u : Supply) (sub : Nat) : Nat :=
  match sub with
  | 1 => u.tj
  | 2 => u.tjMax
  | 4 => b2n u.tempWarn
  | _ => 0

/-! ## Channels, converters, pods, margins -/

/-- MEAS_STATUS (R118). -/
def measStatus (h : Chan) : Nat :=
  flg h.cfgErr 4 + flg (decide ((h.kindEff = 1 ∨ h.kindEff = 3) ∧ h.raw = 0xFFFF)) 3 + flg h.disp 2 + h.kindEff

def railCode : Rail → Nat
  | .off => 0
  | .rising => 1
  | .running => 2

/-- JUDGE_STATUS (R140). -/
def judgeStatus (h : Chan) : Nat :=
  flg h.thrErr 12 + flg h.pairErr 11 + flg h.pairMm 10 + flg h.disch 9 + flg h.belowDis 8 + flg h.pg 7 + flg h.ovw 6 +
  flg h.uvw 5 + flg h.ovf 4 + flg h.uvf 3 + flg h.failedEarly 2 + railCode h.st

/-- PAIR_DIFF, saturated to the S32 range (R139). -/
def pairDiffWord (h : Chan) : Nat :=
  if h.pairCompared then tc 32 (max (-2147483648) (min 2147483647 h.pairDiff)) else 0

/-- CHAN_LIVE (R118, R139). -/
def readChan (h : Chan) (sub : Nat) : Nat :=
  match sub with
  | 1 => h.raw
  | 2 => tc 32 h.scaled
  | 3 => measStatus h
  | 4 => judgeStatus h
  | 5 => h.settle
  | 6 => h.chatter
  | 7 => h.ov * 256 + h.uv
  | 8 => h.owc * 256 + h.uwc
  | 9 => pairDiffWord h
  | 10 => flg h.pairCompared 8 + h.pairCnt
  | _ => 0

/-- CONV but for CTRL and CHECK_TOL (R114). -/
def readConv (s : State) (r : Requester) (g sub : Nat) : Nat :=
  let v := get (snap s).convs Conv.reset g
  match sub with
  | 3 => get (req s r).urgentStat 0 g
  | 4 => v.overruns
  | 5 => v.expA
  | 6 => v.expB
  | 8 => flg v.failB 1 + flg v.failA 0
  | _ => if 16 ≤ sub then get v.regs 0 (sub - 16) else 0

/-- FAIL_INFO (R183). -/
def failInfo (q : Pod) : Nat :=
  match q.failCause with
  | some c => failCode c * 4096 + q.failEntry
  | none => 0

/-- TREE (R183). -/
def treeWord (q : Pod) : Nat :=
  match q.parent with
  | some a => q.depth * 256 + a
  | none => 0x7F

/-- The asserted DIS outputs (R213). -/
def disWord (u : Sup) : Nat := u.disOut.foldl (fun a e => setBit a e.1) 0

/-- POD_LIVE (R183, R213). -/
def readPod (s : State) (r : Requester) (p sub : Nat) : Nat :=
  let u := snap s
  let q := get u.pods Pod.reset p
  match sub with
  | 2 => get (req s r).podStat 0 p
  | 3 => podWord q
  | 4 => q.k
  | 5 => show32 q.fc
  | 6 => if q.held then show32 q.hf else 0
  | 7 => q.retriesUsed
  | 8 => failInfo q
  | 9 => q.failFrame % 2 ^ 64
  | 10 => q.startFrame % 2 ^ 64
  | 11 => treeWord q
  | 12 => u.aqRes * 256 + u.aqHeld
  | 13 => show32 q.dc
  | 14 => flg q.timeout 15 + flg q.descFault 14 + flg q.disFault 13 + q.gate
  | 15 => disWord u
  | _ => 0

def servoCode : Servo → Nat
  | .idle => 0
  | .servoing => 1
  | .reached => 2
  | .atLimit => 3
  | .returning => 4
  | .pipBaseline => 5
  | .pipCapture => 6

/-- MARGIN's live values (R307). -/
def readMargin (s : State) (r : Requester) (c sub : Nat) : Nat :=
  let m := get (snap s).margins Margin.reset c
  match sub with
  | 11 => get (req s r).marginStat 0 c
  | 12 => flg m.cut 9 + flg m.outEn 8 + servoCode m.st
  | 13 => tc 16 m.code
  | 14 => if m.st = .idle then 0 else m.target
  | 15 => m.pipResult
  | 16 => m.pipGain
  | 17 => m.pipBase
  | 18 => m.pipFrame % 2 ^ 64
  | 19 => m.pipStatus
  | _ => 0

/-! ## Fault line, records -/

/-- LINE_LIVE (R254). -/
def readLine (s : State) (r : Requester) (sub : Nat) : Nat :=
  let l := (snap s).line
  let k := (snap s).crash
  match sub with
  | 1 => lineStatus l
  | 2 => l.present
  | 3 => l.lost
  | 4 => l.absent
  | 5 => crashInfo k
  | 6 => k.time % 2 ^ 64
  | 7 => k.arbResult
  | 8 => k.arbTime
  | 9 => k.ownTime
  | 10 => k.clearStat
  | 11 => (req s r).cmdStat
  | 12 => k.autoUsed
  | 13 => show32 l.age
  | _ => 0

def kernelBusy (r : Rec) : Bool :=
  match r.commit with
  | .busy _ _ => true
  | _ => false

/-- LOG_CTRL's status fields (R286). -/
def readLog (s : State) (sub : Nat) : Nat :=
  let r := s.recs
  match sub with
  | 5 => flg r.charged 15 + flg r.holdLow 14 + r.vhold
  | 6 =>
    flg (kernelBusy r) 15 + flg r.huskBusy.isSome 14 + flg r.sumBusy.isSome 13 + flg (decide (r.commit = .waiting) && !arbEnded s) 12 +
    flg r.tornFound 11 + entriesInUse r
  | 7 => r.kernel.head.getD 0xFFFF
  | 8 => r.husk.head.getD 0xFFFF
  | 9 => r.summary.head.getD 0xFFFF
  | 10 => r.episode
  | 11 => show32 r.lostTotal
  | 12 => show32 r.coalTotal
  | _ => 0

/-- A record view (R287). -/
def readView (s : State) (r : Requester) (v : ViewId) (sub : Nat) : Nat :=
  let x := viewOf (req s r) v
  match sub with
  | 1 => x.select
  | 2 => flg x.ready 15 + flg x.loading 14 + flg x.valid 13 + flg x.torn 12 + x.slot
  | 3 => x.seq
  | _ => if 16 ≤ sub then natAt x.data (2 * (sub - 16)) 2 else 0

/-! ## Engine -/

def engCode : EngSt → Nat
  | .halted => 0
  | .running => 1
  | .waitf => 2
  | .waite => 3
  | .trapped => 4

/-- The engine as ENGINE_CTRL shows it: during its own test, as at the save (R502). -/
def shownEngine (s : State) : Eng :=
  match s.bist.saved with
  | some (e, _) => e
  | none => s.eng

/-- ENGINE_CTRL.CTRL: during the engine's own test as at the save (R337, R502). -/
def shownCtrl (s : State) : Nat :=
  match s.bist.saved with
  | some (_, c) => c
  | none => act s 0x1800 1

/-- A field call is in progress, also while a handler has interrupted it (R322, R337). -/
def callActive (e : Eng) : Bool := !e.fieldStart && (e.field || (e.inHandler && e.efield))

/-- ENGINE_CTRL's status fields (R337). -/
def readEngine (s : State) (sub : Nat) : Nat :=
  let e := shownEngine s
  match sub with
  | 3 => flg (callActive e) 12 + flg e.inHandler 11 + flg e.ie 10 + flg e.field 9 + engCode e.st
  | 4 => e.pc.toNat
  | 5 => e.trapInfo
  | 6 => e.trapPc.toNat
  | 7 => e.intLen
  | 8 => e.tacts.length
  | 9 => e.tactStat
  | 10 => show32 e.tactDisc
  | 11 => if e.inHandler then e.evnum else 0xFF
  | 12 => e.pend % 2 ^ 32
  | 13 => e.pend / 2 ^ 32 % 2 ^ 32
  | _ => if 16 ≤ sub ∧ (e.st = .halted ∨ e.st = .trapped) then (get e.w 0 (sub - 16)).toNat else 0

/-- A program word (R311). -/
def progWord (s : State) (a : Nat) : InstrWord := get s.eng.prog 0 a

/-- FIELD_CRC; with no field program it shows the default of its map (R338). -/
def fieldCrc (s : State) : Nat :=
  let n := fieldLen s
  if n = 0 then 0xFFFFFFFF else crc32 ((List.range n).flatMap fun i => bytes 4 (progWord s (0x1000 + i)).toNat)

/-- ENGINE_PROG (R338). -/
def readProg (s : State) (r : Requester) (sub : Nat) : Nat :=
  match sub with
  | 1 => (req s r).progAddr
  | 2 => (progWord s (req s r).progAddr).toNat
  | 3 => fieldLen s
  | 4 => fieldCrc s
  | _ => 0

/-! ## Flights -/

/-- A flight entry as it reads: its reserved fields as 0, whatever was stored (R12, R145, R182). -/
def entryShown (v : Nat) : Nat :=
  let w := clrMask v (7 * 2 ^ 56)
  match entType v with
  | 1 | 2 => clrMask w (7 * 2 ^ 59)
  | 3 => clrMask w (0xFFFF * 2 ^ 16)
  | _ => w

/-! ## Counters, gallery, pins -/


/-- The trace port drives its pins (R487, R502, R505). -/
def traceActive (s : State) : Bool :=
  bit (galCtrl s) 15 && !partDisabled s 5 && ([19, 20, 21, 22, 23] : List Nat).all fun n => decide (pinAf s n = 8)

/-- GALLERY_CTRL's status fields (R491). -/
def readGallery (s : State) (sub : Nat) : Nat :=
  let g := galNow s
  match sub with
  | 8 => flg (traceActive s) 15 + flg g.wrapped 14 + g.fifo.length
  | 9 => show32 g.lost
  | 10 => show32 g.dumpSeq
  | 11 => g.dumpBuf
  | 12 => g.ringHead
  | _ => 0

/-- GALLERY_RAM.DATA(w); under test it reads 0 (R492, R502). -/
def readGalRam (s : State) (r : Requester) (sub : Nat) : Nat :=
  if sub = 1 then (req s r).galAddr
  else if 16 ≤ sub ∧ testing s 5 = false then (get (galNow s).ram 0 (((req s r).galAddr + (sub - 16)) % 4096)).toNat
  else 0

/-- Another pin supplies the input function that the pin selects (R445). -/
def pinDup (s : State) (n : Nat) : Bool :=
  match pinAf s n with
  | 2 => !decide (podSupplier s (n % 16) = some n)
  | 3 => !decide (trigSupplier s (n % 8) = some n)
  | 8 =>
    match n with
    | 1 => seized s 9
    | 33 => seized s 9 || decide (pinAf s 1 = 8)
    | 35 => decide (pinAf s 3 = 8)
    | 4 | 5 => seized s 10
    | _ => false
  | _ => false

/-- PIN_CFG(n).LIVE (R456). -/
def pinLive (s : State) (n : Nat) : Nat :=
  flg (seized s n) 15 + flg (pinDup s n) 14 + flg (bit s.pins.locked n) 13 + flg (bankGood s n) 12 +
  flg (ballDrive s n).1 1 + flg (pinLevel s n) 0

/-- PEV_CFG.LEVEL (R461). -/
def pevLevels (s : State) : Nat := (List.range 8).foldl (fun a n => a + flg (pevOf s n).level n) 0

/-- PIN_LOCK (R457). -/
def readLock (s : State) (r : Requester) (sub : Nat) : Nat :=
  match sub with
  | 1 => (req s r).pinMask
  | 3 => s.pins.locked
  | 4 => compat s
  | _ => 0

/-! ## CAN, publish, two-wire, self-test, image -/

/-- CANA and CANB status fields (R396). -/
def readCan (s : State) (p : Port) (sub : Nat) : Nat :=
  let c := port s p
  match sub with
  | 7 => c.err * 2 ^ 24 + min c.tec 255 * 256 + c.rxe
  | 8 => c.queue.length * 256 + c.bufs
  | 9 => show32 c.dropped
  | _ => 0

/-- PUBLISH(m).CTRL with CFG_ERR, and REPLACED (R413). -/
def readPublish (s : State) (m sub : Nat) : Nat :=
  let x := get s.publish Publish.reset m
  if sub = 1 then clrBit (act s (0x1C10 + m) 1) 0 + flg x.cfgErr 0 else show32 x.replaced

/-- TWOWIRE.STATUS (R438). -/
def twiStatus (s : State) : Nat :=
  flg s.twi.engaged 15 + flg s.reqT.gather.isSome 14 + flg s.reqT.shadow.isSome 13 +
  flg (testing s 1) 12 + flg s.twi.lastRead 7 + s.twi.lastAddr

/-- TWOWIRE's status fields (R438). -/
def readTwi (s : State) (sub : Nat) : Nat :=
  match sub with
  | 6 => twiStatus s
  | 7 => s.twi.index * 2 ^ 16 + s.twi.sub * 256 + s.twi.word
  | 8 => show32 s.twi.timeouts
  | 9 => show32 s.twi.busyNacks
  | _ => 0

/-- BIST's status fields (R507). -/
def readBist (s : State) (sub : Nat) : Nat :=
  let b := s.bist
  match sub with
  | 4 => flg b.valid 15 + b.bootCause * 256 + b.bootPart * 16 + b.bootRes
  | 5 => b.memFail
  | 6 => show32 b.runs
  | 7 => show32 b.fails
  | 8 => show32 b.skips
  | _ =>
    if 16 ≤ sub ∧ sub ≤ 21 then get b.part 0 (sub - 16) + flg (testing s (sub - 16)) 10
    else if 32 ≤ sub then get b.sig 0 (sub - 32) else 0

/-- IMAGE's status fields (R391). -/
def readImage (s : State) (sub : Nat) : Nat :=
  let i := s.image
  match sub with
  | 4 => i.addr
  | 5 => flg i.busy 15 + flg i.openUpd 14 + flg i.verified 13 + flg i.seqErr 12 + i.result
  | 6 => i.infoA
  | 7 => i.infoB
  | 8 => i.genA
  | 9 => i.genB
  | 11 => flg i.authReq 1 + flg i.keySet 0
  | _ => 0

/-! ## Every field -/

/-- The value of a present field as a requester reads it. -/
def fieldValue (s : State) (r : Requester) (o : Obj) (f : Field) (idx sub : Nat) : Nat :=
  if sub = 0 then f.dflt
  else
    match o with
    | .identity => readIdentity s sub f.dflt
    | .modeCtrl => readMode s r sub
    | .devTime => readTime s sub
    | .evStatus => (snap s).evStatus
    | .supplyLive => readSupply (snap s).supply sub
    | .chanLive c => readChan (get (snap s).chans Chan.reset c) sub
    | .podLive p => readPod s r p sub
    | .podFlight _ => if 32 ≤ sub then entryShown (act s idx sub) else act s idx sub
    | .lineLive => readLine s r sub
    | .view v => readView s r v sub
    | .engProg => readProg s r sub
    | .galRam => readGalRam s r sub
    | .pinLock => readLock s r sub
    | .counter k => if sub = 1 then selOf s k else if sub = 2 then sampleWord s k else 0
    | .publish m => if sub = 1 ∨ sub = 5 then readPublish s m sub else act s idx sub
    | .image => if sub = 2 ∨ sub = 3 then act s idx sub else readImage s sub
    | .engCtrl => if sub = 1 then shownCtrl s else if sub = 2 then 0 else readEngine s sub
    | o =>
      match f.acc with
      | .rw | .rws => act s idx sub
      | .wo | .k => 0
      | .ro =>
        match o with
        | .tempLive => readTemp (snap s).supply sub
        | .margin c => readMargin s r c sub
        | .conv g => readConv s r g sub
        | .logCtrl => readLog s sub
        | .galCtrl => readGallery s sub
        | .pinCfg n => pinLive s n
        | .pevCfg => pevLevels s
        | .can p => readCan s p sub
        | .twowire => readTwi s sub
        | .bist => readBist s sub
        | _ => f.dflt

end Sys2Proof.Machine
end

