-- ==== Sys2Proof/Machine/Store.lean ====
section
/-!
DEFINITION. The dictionary store's ports: rights, reads with the word-0 shadow (R73 to R76), write gathers (R77),
staging and COMMIT (R57 to R66), the key (R345, R346), and what a write of each field starts.
-/
namespace Sys2Proof.Machine

/-! ## Rights (R14, R15, R57, R314, R315, R361) -/

def inHoldNow (s : State) : Bool := decide (s.sup.mode = .boot) && s.boot.hold

/-- COUNTER_ACCESS for a privilege (R478). -/
def counterAccess (s : State) (fp : Bool) : Nat := fld (act s 0x1980 2) (if fp then 0 else 2) 2

/-- The requester may read the object; `fp` is field privilege. -/
def readAllowed (s : State) (r : Requester) (fp : Bool) (o : Obj) : Bool :=
  if inHoldNow s then holdReaches s.boot.cause o
  else isHost r || engineMayRead (counterAccess s fp) o

/-- A read of the field keeps its rights: the requester may read the object, and the field is not write-only
(R14, R15). DESIGN CHOICE: a K field is read without a key, since R391 asks for one at the write alone (log 17). -/
def mayRead (s : State) (r : Requester) (fp : Bool) (o : Obj) (f : Field) : Bool :=
  readAllowed s r fp o && !decide (f.acc = .wo)

/-- The pin's owner and lock admit the write (R452, R453). -/
def pinWritable (s : State) (r : Requester) (o : Obj) (sub : Nat) : Bool :=
  match o with
  | .pinCfg n => pinAdmits (fld (act s (0x1A00 + n) 2) 0 2) (bit s.pins.locked n) (!isHost r) sub
  | _ => true

/-- The requester may write the field. -/
def writeAllowed (s : State) (r : Requester) (fp : Bool) (o : Obj) (f : Field) (sub : Nat) : Bool :=
  !decide (f.acc = .ro) && (!inHoldNow s || holdReaches s.boot.cause o) &&
  modeAccepts s.sup.mode s.boot.hold s.boot.cause o sub && pinWritable s r o sub &&
  (isHost r || (if fp then fieldMayWrite (engCtrl s) (counterAccess s true) o sub else engineMayWrite (counterAccess s false) o sub))

/-- The requester's accesses arrive: a host's through HOSTIF, the engine's while it runs (R361, R373, R502). -/
def mayAccess (s : State) (r : Requester) : Bool :=
  reachable s &&
  (if isHost r then !testing s 1
   else !testing s 2 && !inHoldNow s && !decide (s.eng.st = .halted ∨ s.eng.st = .trapped))

/-! ## Words -/

/-- The width in words with which a subindex counts; in BOOT-HOLD an object that is not reached is absent (R362, R378,
R401, R422). -/
def widthNow (s : State) (idx sub : Nat) : Nat :=
  match objOf idx with
  | some o => if inHoldNow s && !holdReaches s.boot.cause o then 1 else widthOf idx sub
  | none => 1

/-- Word k of a value of n words, word 0 the most significant (R11). -/
def wordOf (v n k : Nat) : Nat := v / 65536 ^ (n - 1 - k) % 65536

/-- The value that words spell, word 0 first (R11). -/
def fromWords (ws : List Nat) : Nat := ws.foldl (fun a w => a * 65536 + w % 65536) 0

/-- The store port that HOSTIF and the engine share has served no word of this tick; it serves one a tick (R80). -/
def portFree (s : State) : Bool := !s.now.hostPort && !s.now.engPort && !s.now.fired

/-- A word of a requester is served at the shared store port, which the requester then holds in this tick (R80, R471). -/
def served (s : State) (r : Requester) : State :=
  let s := occDict s 3 1
  if isHost r then { s with now := { s.now with hostPort := true } } else { s with now := { s.now with engPort := true } }

/-! ## Reads -/

/-- A read of word 0 of ENGINE_PROG.DATA moves the requester's ADDR on, from 0x1FFF to 0x1000 (R338). -/
def progStep (s : State) (r : Requester) : State :=
  modReq s r fun q => { q with progAddr := if q.progAddr = 0x1FFF then 0x1000 else q.progAddr + 1 }

/-- A read of a counter's SAMPLE, whose value is that of the whole tick (R475). -/
def noteSample (s : State) (idx sub : Nat) (place : SamplePlace) : State :=
  match objOf idx with
  | some (.counter k) =>
    if sub = 2 then { s with now := { s.now with samples := s.now.samples ++ [{ counter := k, place := place }] } } else s
  | _ => s

/-- A read of word 0 of a counter's SAMPLE that the requester may make goes on to show the whole tick in its place (R475, R478). -/
def noteRead (s : State) (r : Requester) (fp : Bool) (idx sub : Nat) (place : SamplePlace) : State :=
  match objOf idx, fieldOf idx sub with
  | some o, some f => if mayRead s r fp o f then noteSample s idx sub place else s
  | _, _ => s

/-- A read of a whole field; a multi-word field goes into the requester's shadow (R15, R73, R378). -/
def readField (s : State) (r : Requester) (fp : Bool) (idx sub : Nat) : State × Nat :=
  match objOf idx, fieldOf idx sub with
  | some o, some f =>
    if !mayRead s r fp o f then (violation s, 0)
    else
      let v := fieldValue s r o f idx sub
      let t := if 1 < f.words then modReq s r fun q => { q with shadow := some { key := keyOf idx sub, val := v, words := f.words } } else s
      let t := noteSample t idx sub (.shadow r)
      (if o = .engProg ∧ sub = 2 then progStep t r else t, v)
  | _, _ => (violation s, 0)

/-- What a read of one word answers and leaves (R73 to R76). -/
def readCore (s : State) (r : Requester) (fp : Bool) (idx sub k : Nat) : State × Nat :=
  match objOf idx, fieldOf idx sub with
  | some o, some f =>
    if !mayRead s r fp o f ∨ f.words ≤ k then (violation s, 0)
    else if k = 0 then
      let (t, v) := readField s r fp idx sub
      (t, wordOf v f.words 0)
    else
      match (req s r).shadow with
      | some h =>
        if h.key = keyOf idx sub then (s, wordOf h.val h.words k)
        else (modReq s r fun q => { q with shadow := none }, wordOf (fieldValue s r o f idx sub) f.words k)
      | none => (s, wordOf (fieldValue s r o f idx sub) f.words k)
  | _, _ => (violation s, 0)

/-- A read of one word through the store port. -/
def readWord (s : State) (r : Requester) (fp : Bool) (idx sub k : Nat) : State × Nat := readCore (served s r) r fp idx sub k

/-! ## Staging and COMMIT (R57 to R66) -/

/-- Put a field write into a staging buffer; a second write of a field replaces the first (R59). -/
def stageIn (l : List (Nat × Nat)) (key v : Nat) : List (Nat × Nat) :=
  if l.any fun e => decide (e.1 = key) then l.map fun e => if e.1 = key then (key, v) else e else l ++ [(key, v)]

/-- Stage a write (R58 to R60). While the buffer has overflowed and has not been emptied, OVERFLOW stays. -/
def stage (s : State) (r : Requester) (key v : Nat) : State :=
  let q := req s r
  let overfull := q.overflow && !q.staged.isEmpty
  let new := !q.staged.any fun e => decide (e.1 = key)
  if new && decide (128 ≤ q.staged.length) then occDict (setReq s r { q with overflow := true }) 7 1
  else setReq s r { q with staged := stageIn q.staged key v, overflow := overfull }

/-- A write of COMMIT (R60 to R62). -/
def commitWrite (s : State) (r : Requester) (v : Nat) : State :=
  let q := req s r
  if v ≠ 1 ∧ v ≠ 2 then s
  else if q.overflow && !q.staged.isEmpty then
    setReq s r { q with staged := [], discarded := true, applied := false }
  else if v = 2 then setReq s r { q with staged := [], discarded := true, overflow := false }
  else
    setReq s r { q with
      sets := q.sets ++ [q.staged], staged := [], applied := false, discarded := false, overflow := false }

/-! ## The key and the pin lock (R345, R346, R453) -/

/-- The requester's key is armed, for 4096 frames after the second write. -/
def armed (s : State) (r : Requester) : Bool :=
  match (req s r).key with
  | .armed t => decide (s.clk.time < t + 2097152)
  | _ => false

/-- A write ends the requester's key sequence and its lock sequence. -/
def disarm (s : State) (r : Requester) : State := modReq s r fun q => { q with key := .idle, lockHalf := false }

/-- A write of KEY (R345). -/
def keyWrite (s : State) (r : Requester) (before : KeyState) (v : Nat) : State :=
  modReq s r fun q => { q with
    key := if v = 0xA5 then .half else if v = 0x5A ∧ before = .half then .armed s.clk.time else .idle }

/-- A write of PIN_LOCK.LOCK (R453). -/
def lockWrite (s : State) (r : Requester) (half : Bool) (v : Nat) : State :=
  if v = 0x4C4B then modReq s r fun q => { q with lockHalf := true }
  else if v = 0xB4B4 ∧ half = true then { s with pins := { s.pins with locked := s.pins.locked ||| (req s r).pinMask } }
  else s

/-! ## What a write starts -/

/-- A request accepted at an action-queue port (R53, R156). -/
def accept (s : State) (ask : Ask) (src : Source) : State :=
  { s with accepted := s.accepted ++ [{ ask := ask, src := src, time := s.clk.time }] }

/-- A write of POD_LIVE(p).REQUEST (R155, R184). -/
def podAsk (s : State) (r : Requester) (p v : Nat) : State :=
  let s := modReq s r fun q => { q with podStat := put q.podStat 0 p 1 }
  accept s (if v = 1 then .rise p else if v = 2 then .fall p else .release p) (.port r)

/-- A write of MODE_REQ; a keyed value without an armed key is refused at once (R344, R346, R347). DESIGN CHOICE: a rise
or fall of pod 0 asked here shows in REQ_STAT at the boundary, until when the older code stays (log 29). -/
def modeAsk (s : State) (r : Requester) (keyed : Bool) (v : Nat) : State :=
  if (v = 3 ∨ v = 6) ∧ keyed = false then modReq s r fun q => { q with modeStat := 4 }
  else accept (modReq s r fun q => { q with modeStat := 1 }) (.mode v) (.port r)

/-- A margin, release or pip request (R292, R297, R299, R308). -/
def marginAsk (s : State) (r : Requester) (c : Nat) (ask : Ask) : State := accept (marginStat s r c 1) ask (.port r)

/-- The engine is stopped, or will be when a test's HALT is applied at the restore (R334, R502). -/
def willBeStopped (s : State) : Bool :=
  decide (s.eng.st = .halted ∨ s.eng.st = .trapped) || (engTested s && s.bist.halt)

/-- ENGINE_CTRL.COMMAND; what a test of the engine holds back is applied at the restore (R334, R502). -/
def engineCommand (s : State) (v : Nat) : State :=
  if v = 1 then
    if engTested s then modEng (modBist s fun b => { b with halt := true }) fun e => { e with startReq := false }
    else if s.eng.st = .trapped then modEng s fun e => { e with startReq := false } else haltEngine s
  else if v = 2 ∧ engineMode s.sup.mode = true ∧ willBeStopped s = true ∧ partDisabled s 2 = false then
    wantStart s
  else s

/-- ENGINE_PROG.DATA: the instruction word at the requester's ADDR (R338). -/
def progWrite (s : State) (r : Requester) (v : Nat) : State :=
  progStep (modEng s fun e => { e with prog := put e.prog 0 (req s r).progAddr (BitVec.ofNat 32 v) }) r

/-- ENGINE_PROG.CLEAR (R338). -/
def progClear (s : State) (v : Nat) : State :=
  if v = 0xA5 then
    setField (modEng s fun e => { e with prog := e.prog.filter fun w => decide (w.1 < 0x1000) }) (keyOf 0x1801 3) 0
  else s

/-- COUNTER(k).CLEAR. It takes effect before the additions of its tick: an overflow of this tick stays, and a zeroed
counter keeps what this tick has added (R476). -/
def counterClear (s : State) (k v : Nat) : State :=
  let c := get s.ctrs Ctr.reset k
  if v = 1 then { s with ctrs := put s.ctrs Ctr.reset k { c with ovf := bit s.now.wraps k } }
  else if v = 2 then
    { s with ctrs := put s.ctrs Ctr.reset k { count := get s.now.adds 0 k, ovf := false }
             now := { s.now with wraps := clrBit s.now.wraps k, due := clrBit s.now.due k } }
  else s

/-- IMAGE.COMMAND (R388 to R391). -/
def imageCommand (s : State) (keyed : Bool) (v : Nat) : State :=
  match v with
  | 1 => imageBegin s
  | 2 => imageVerify s
  | 3 => if s.image.verified && (inHoldNow s || keyed) then imageActivate s else violation s
  | 4 => imageAbort s
  | _ => s

/-- IMAGE.KEY and IMAGE.AUTH_CTRL, with an armed key (R391). -/
def imageKeyed (s : State) (keyed : Bool) (sub v : Nat) : State :=
  if !keyed then violation s
  else if sub = 10 then modImage s fun i => { i with keySlot := v, keySet := true }
  else if bit v 1 && s.image.keySet then modImage s fun i => { i with authReq := true }
  else s

/-- The new value of an RW field. Of a write by HOSTIF and one by the engine in one tick, the engine's value stands, in
whichever order the device has seen them (R68). -/
def rwWrite (s : State) (r : Requester) (key v : Nat) : State :=
  if isHost r then (if s.now.engWrites.any fun e => decide (e.1 = key) then s else setField s key v)
  else setField { s with now := { s.now with engWrites := ins s.now.engWrites key v } } key v

/-- A written OUT level of a GPIO output reaches its ball at the next CLK_BUS edge (R448). -/
def outWrite (s : State) (r : Requester) (n key v : Nat) : State :=
  let c := act s (0x1A00 + n) 1
  rwWrite (if fld c 12 4 = 0 ∧ bit c 7 = true then untilEdge s n else s) r key v

/-- What the device held of the requester when the write was presented. -/
def heldKey (s : State) (r : Requester) : KeyState × Bool × Bool := ((req s r).key, (req s r).lockHalf, armed s r)

/-- The effect of a write that has passed its checks (R14, R58). `h` is what the requester held. -/
def writeEffect (s : State) (r : Requester) (h : KeyState × Bool × Bool) (o : Obj) (f : Field) (idx sub v : Nat) : State :=
  let plain :=
    match f.acc with
    | .rw => rwWrite (holdMask s (keyOf idx sub)) r (keyOf idx sub) v
    | .rws => stage s r (keyOf idx sub) v
    | _ => s
  match o with
  | .modeCtrl =>
    match sub with
    | 2 => modeAsk s r h.2.2 v
    | 3 => keyWrite s r h.1 v
    | 4 => commitWrite s r v
    | 5 => if h.2.2 then (if v = 1 then clearCrash s else s) else violation s
    | _ => plain
  | .evClear => { s with sup := { s.sup with evStatus := clrMask s.sup.evStatus (clrMask v s.now.raised) } }
  | .podLive p => podAsk s r p v
  | .conv g => if sub = 2 then urgentWrite s r g v else plain
  | .margin c =>
    match sub with
    | 8 => marginAsk s r c (.margin c v)
    | 9 => if v = 1 then marginAsk s r c (.marginRelease c) else s
    | 10 => marginAsk s r c (.pip c v)
    | _ => plain
  | .lineCfg =>
    match sub with
    | 6 => lineCmd s r (decide (v = 1))
    | 7 => if v = 0xC5 then crashCmd s r else s
    | _ => plain
  | .engCtrl => if sub = 2 then engineCommand s v else plain
  | .engProg =>
    match sub with
    | 1 => modReq s r fun q => { q with progAddr := v }
    | 2 => progWrite s r v
    | 5 => progClear s v
    | _ => plain
  | .counter k => if sub = 3 then counterClear s k v else plain
  | .galRam => modReq s r fun q => { q with galAddr := v }
  | .view w => selectView s r w v
  | .pinCfg n => if sub = 3 then outWrite s r n (keyOf idx sub) v else plain
  | .pinLock =>
    match sub with
    | 1 => modReq s r fun q => { q with pinMask := v }
    | 2 => lockWrite s r h.2.1 v
    | _ => plain
  | .publish _ => if sub = 1 then stage s r (keyOf idx sub) (clrBit v 0) else plain
  | .bist => if sub = 3 then testNow s v else plain
  | .image =>
    if sub = 1 then imageCommand s h.2.2 v
    else if sub = 10 ∨ sub = 11 then imageKeyed s h.2.2 sub v
    else if 16 ≤ sub then imageChunk s []
    else plain
  | _ => plain

/-- A write of a whole field: it ends the requester's gather and its key and lock sequences, whatever its outcome; one
that breaks rights or range only counts (R15, R77, R87, R345). -/
def writeField (s : State) (r : Requester) (fp : Bool) (idx sub v : Nat) : State :=
  let h := heldKey s r
  let s := modReq (disarm s r) r fun q => { q with gather := none }
  match objOf idx, fieldOf idx sub with
  | some o, some f =>
    if writeAllowed s r fp o f sub && inRange false o sub v then writeEffect s r h o f idx sub v else violation s
  | _, _ => violation s

/-- A word of a gather that is not complete: an armed key outlives only a gather of the keyed IMAGE.KEY, and a sequence of
the key or of the lock none (R77, R345, R453). -/
def gatherWord (s : State) (r : Requester) (key : Nat) (ws : List Nat) : State :=
  let s :=
    if key = keyOf 0x1F00 10 then modReq s r fun q => { q with key := if q.key = .half then .idle else q.key, lockHalf := false }
    else disarm s r
  modReq s r fun q => { q with gather := some { key := key, words := ws } }

/-- A write of one word, whose word the store port has served (R77). -/
def writeCore (s : State) (r : Requester) (fp : Bool) (idx sub k v : Nat) : State :=
  let key := keyOf idx sub
  let n := widthNow s idx sub
  if n = 1 ∧ k = 0 ∨ (fieldOf idx sub).isNone then writeField s r fp idx sub v
  else if k = 0 then gatherWord s r key [v]
  else
    match (req s r).gather with
    | some g =>
      if g.key = key ∧ g.words.length = k then
        if k + 1 = n then writeField s r fp idx sub (fromWords (g.words ++ [v])) else gatherWord s r key (g.words ++ [v])
      else
        let s := violation (disarm s r)
        if g.key = key then s else modReq s r fun q => { q with gather := none }
    | none => violation (disarm s r)

/-- A write of one word through the store port. -/
def writeWord (s : State) (r : Requester) (fp : Bool) (idx sub k v : Nat) : State := writeCore (served s r) r fp idx sub k v

/-- An image chunk as one write of subindexes 0x10 to 0x2B, all of whose words have been served (R389). -/
def chunkWrite (s : State) (r : Requester) (bs : List Byte) : State :=
  let s := modReq (disarm s r) r fun q => { q with gather := none }
  if writeAllowed s r false .image { words := 1, acc := .wo, dflt := 0 } 16 then imageChunk s bs else violation s

/-! ## Accesses at the shared store port (R80) -/

/-- What an access does with its last word; the engine's carries the privilege that the engine then has. -/
def accessEffect (s : State) (a : Access) : State :=
  let fp := !isHost a.req && s.eng.field
  match a.op with
  | .read idx sub => (readCore s a.req fp idx sub 0).1
  | .write idx sub v => writeField s a.req fp idx sub v
  | .chunk bs => chunkWrite s a.req bs

/-- The port serves the next word of an access, and the last one has the effect; with what is left of the access. One whose
requester no longer has access ends. -/
def portWord (s : State) (a : Access) : State × List Access :=
  if !mayAccess s a.req then (s, [])
  else if 1 < a.words then (served s a.req, [{ a with words := a.words - 1 }])
  else (accessEffect (served s a.req) a, [])

end Sys2Proof.Machine
end

