-- ==== Sys2Proof/Machine/Engine.lean ====
section
/-!
DEFINITION. The instructions of the sequence engine, one meaning each (R311 to R331), timed actions (R323 to R326) and
interrupts (R327, R328). A command of an instruction takes effect in the present tick; its length counts where the
engine runs its own program (Tick).
-/
namespace Sys2Proof.Machine

/-! ## What every instruction shares -/

/-- The engine executes instructions: the device runs, and the engine runs and is not under test (R332, R502). -/
def executing (s : State) : Bool := running s && decide (s.eng.st = .running) && !engTested s

/-- The interrupt that was recognised is taken: its return state is saved and the handler entered (R327). -/
def takeIrq (s : State) : State :=
  let s := if s.eng.st = .waite then occEng s 1 1 else s
  occEng (modEng s fun e => { idleEngine e with
    st := .running, inHandler := true, ie := false
    epc := e.pc, ez := e.z, en := e.n, ec := e.c, ev := e.v, efield := e.field, field := false, pc := 8 }) 5 1

/-- What an instruction of a skid leaves: the interrupt is taken after the third, after one that waits, and after one
that leaves the sequence, since nothing behind it has been fetched (R327, R329). -/
def skidStep (before s : State) : State :=
  match before.eng.skid, s.eng.skid with
  | some _, some n =>
    if n ≤ 1 ∨ s.eng.st ≠ .running ∨ s.eng.pc ≠ nextPc before.eng then takeIrq s
    else modEng s fun e => { e with skid := some (n - 1) }
  | _, _ => s

/-- The engine can recognise one of these pending events (R327). -/
def interruptible (s : State) (pend : Nat) : Bool :=
  running s && !engTested s && s.eng.ie && !s.eng.inHandler && s.eng.skid.isNone && !decide (pend = 0) &&
  decide (s.eng.st = .running ∨ s.eng.st = .waitf ∨ s.eng.st = .waite)

/-- The pending events that an instruction finds: those raised before the present tick. An instruction behind another one
of its tick stands for a later tick, and finds every one (R329). -/
def pendSeen (s : State) : Nat := if s.now.ran then s.eng.pend else clrMask s.eng.pend s.now.pended

/-- An interrupt is recognised before the next instruction (R327). -/
def irqDue (s : State) : Bool := interruptible s (pendSeen s)

/-- The lowest-numbered of the pending events is recognised: its pending bit is cleared and EVNUM set (R327). -/
def recogniseIrq (s : State) (pend : Nat) (skid : Option Nat) : State :=
  let n := (lowestBit pend 64).getD 0
  modEng s fun e => { e with pend := clrBit e.pend n, evnum := n, skid := skid }

/-- An interrupt that is due is recognised, and at most three more instructions complete (R327, R330). -/
def recogniseDue (s : State) : State := if irqDue s then recogniseIrq s (pendSeen s) (some 3) else s

/-- One instruction, as the program or a command runs it; a PC outside the region of the privilege is sequential
execution past the region's end (R331). -/
def instrEffect (s : State) (op : State → State) : State :=
  if executing s then
    let s := recogniseDue s
    let t := { modEng s fun e => { e with busy := 0, read := none } with now := { s.now with ran := true } }
    skidStep s (if inRegion s.eng s.eng.pc then op t else trap t 3)
  else s

/-- A command of the engine waits behind those that wait for the store port (R80, R335). -/
def queueRow (s : State) (x : EngRow) : State := modEng s fun e => { e with rows := e.rows ++ [x] }

/-- The command of an instruction: it takes effect at once, or in its turn behind one that waits for the store port; an
engine that executes nothing ignores it. -/
def instr (s : State) (i : Instr) (op : State → State) : Host.Outcome State Fault Refusal :=
  done s fun s =>
    if s.eng.rows = [] then instrEffect s op else if executing s then queueRow s (.instr i) else s

/-- An instruction completes and execution goes on at an address. -/
def goto (s : State) (a : PAddr) (f : Eng → Eng) : State := occEng (modEng s fun e => { f e with pc := a }) 1 1

/-- An instruction completes and execution goes on in sequence. -/
def next (s : State) (f : Eng → Eng) : State := goto s (nextPc s.eng) f

/-- A result with Z and N (R318). -/
def result (e : Eng) (rd : Fin 16) (v : Word) : Eng := setReg (setZN e v) rd v

/-- A jump to a target inside the region of the privilege, else a trap (R331). -/
def jump (s : State) (a : PAddr) (f : Eng → Eng) : State := if inRegion s.eng a then goto s a f else trap s 3

/-- An instruction that field code may not execute (R314). -/
def intOnly (s : State) (op : State → State) : State := if s.eng.field then trap s 6 else op s

/-! ## Control of the engine itself -/

/-- ILLEGAL: trap, cause 1 (R318, R331). -/
def execIllegal (s : State) : Host.Outcome State Fault Refusal := instr s .illegal fun s => trap s 1

/-- NOP (R318). -/
def execNop (s : State) : Host.Outcome State Fault Refusal := instr s .nop fun s => next s id

/-- HALT: the engine is HALTED and its timed actions are discarded (R318, R326). -/
def execHalt (s : State) : Host.Outcome State Fault Refusal := instr s .halt fun s => haltEngine (next s id)

/-! ## Arithmetic and logic (R318) -/

/-- ADD: rd = ra + rb. -/
def execAdd (rd ra rb : Fin 16) (s : State) : Host.Outcome State Fault Refusal :=
  instr s (.add rd ra rb) fun s => next s fun e => setReg (addFlags e (reg e ra) (reg e rb)) rd (reg e ra + reg e rb)

/-- SUB: rd = ra − rb. -/
def execSub (rd ra rb : Fin 16) (s : State) : Host.Outcome State Fault Refusal :=
  instr s (.sub rd ra rb) fun s => next s fun e => setReg (subFlags e (reg e ra) (reg e rb)) rd (reg e ra - reg e rb)

/-- AND: rd = ra and rb. -/
def execAnd (rd ra rb : Fin 16) (s : State) : Host.Outcome State Fault Refusal :=
  instr s (.and rd ra rb) fun s => next s fun e => result e rd (reg e ra &&& reg e rb)

/-- OR: rd = ra or rb. -/
def execOr (rd ra rb : Fin 16) (s : State) : Host.Outcome State Fault Refusal :=
  instr s (.or rd ra rb) fun s => next s fun e => result e rd (reg e ra ||| reg e rb)

/-- XOR: rd = ra xor rb. -/
def execXor (rd ra rb : Fin 16) (s : State) : Host.Outcome State Fault Refusal :=
  instr s (.xor rd ra rb) fun s => next s fun e => result e rd (reg e ra ^^^ reg e rb)

/-- SHL: rd = ra shifted left by rb[3:0]. -/
def execShl (rd ra rb : Fin 16) (s : State) : Host.Outcome State Fault Refusal :=
  instr s (.shl rd ra rb) fun s => next s fun e => result e rd (reg e ra <<< ((reg e rb).toNat % 16))

/-- SHR: rd = ra shifted right, logical, by rb[3:0]. -/
def execShr (rd ra rb : Fin 16) (s : State) : Host.Outcome State Fault Refusal :=
  instr s (.shr rd ra rb) fun s => next s fun e => result e rd (reg e ra >>> ((reg e rb).toNat % 16))

/-- ASR: rd = ra shifted right, arithmetic, by rb[3:0]. -/
def execAsr (rd ra rb : Fin 16) (s : State) : Host.Outcome State Fault Refusal :=
  instr s (.asr rd ra rb) fun s => next s fun e => result e rd ((reg e ra).sshiftRight ((reg e rb).toNat % 16))

/-- MUL: rd = bits [15:0] of ra × rb. -/
def execMul (rd ra rb : Fin 16) (s : State) : Host.Outcome State Fault Refusal :=
  instr s (.mul rd ra rb) fun s => next s fun e => result e rd (reg e ra * reg e rb)

/-- MULH: rd = bits [31:16] of the signed product ra × rb. -/
def execMulh (rd ra rb : Fin 16) (s : State) : Host.Outcome State Fault Refusal :=
  instr s (.mulh rd ra rb) fun s => next s fun e => result e rd (BitVec.ofInt 16 ((reg e ra).toInt * (reg e rb).toInt / 65536))

/-- CMP: flags from ra − rb. -/
def execCmp (ra rb : Fin 16) (s : State) : Host.Outcome State Fault Refusal :=
  instr s (.cmp ra rb) fun s => next s fun e => subFlags e (reg e ra) (reg e rb)

/-- LDI: rd = imm16. -/
def execLdi (rd : Fin 16) (imm : Word) (s : State) : Host.Outcome State Fault Refusal :=
  instr s (.ldi rd imm) fun s => next s fun e => result e rd imm

/-- ADDI: rd = ra + imm16. -/
def execAddi (rd ra : Fin 16) (imm : Word) (s : State) : Host.Outcome State Fault Refusal :=
  instr s (.addi rd ra imm) fun s => next s fun e => setReg (addFlags e (reg e ra) imm) rd (reg e ra + imm)

/-- ANDI: rd = ra and imm16. -/
def execAndi (rd ra : Fin 16) (imm : Word) (s : State) : Host.Outcome State Fault Refusal :=
  instr s (.andi rd ra imm) fun s => next s fun e => result e rd (reg e ra &&& imm)

/-- ORI: rd = ra or imm16. -/
def execOri (rd ra : Fin 16) (imm : Word) (s : State) : Host.Outcome State Fault Refusal :=
  instr s (.ori rd ra imm) fun s => next s fun e => result e rd (reg e ra ||| imm)

/-- XORI: rd = ra xor imm16. -/
def execXori (rd ra : Fin 16) (imm : Word) (s : State) : Host.Outcome State Fault Refusal :=
  instr s (.xori rd ra imm) fun s => next s fun e => result e rd (reg e ra ^^^ imm)

/-- CMPI: flags from ra − imm16. -/
def execCmpi (ra : Fin 16) (imm : Word) (s : State) : Host.Outcome State Fault Refusal :=
  instr s (.cmpi ra imm) fun s => next s fun e => subFlags e (reg e ra) imm

/-- SHLI: rd = ra shifted left by imm16[3:0]. -/
def execShli (rd ra : Fin 16) (imm : BitVec 4) (s : State) : Host.Outcome State Fault Refusal :=
  instr s (.shli rd ra imm) fun s => next s fun e => result e rd (reg e ra <<< imm.toNat)

/-- SHRI: rd = ra shifted right, logical, by imm16[3:0]. -/
def execShri (rd ra : Fin 16) (imm : BitVec 4) (s : State) : Host.Outcome State Fault Refusal :=
  instr s (.shri rd ra imm) fun s => next s fun e => result e rd (reg e ra >>> imm.toNat)

/-! ## Data memory and the dictionary (R318, R320) -/

/-- LD: rd = D[ra + imm16]. -/
def execLd (rd ra : Fin 16) (imm : Word) (s : State) : Host.Outcome State Fault Refusal :=
  instr s (.ld rd ra imm) fun s =>
    let a := dataAddr (reg s.eng ra) imm
    if dataOk s.eng a then next s fun e => result e rd (dataWord e a) else trap s 2

/-- ST: D[ra + imm16] = rd; the flags stay. -/
def execSt (rd ra : Fin 16) (imm : Word) (s : State) : Host.Outcome State Fault Refusal :=
  instr s (.st rd ra imm) fun s =>
    let a := dataAddr (reg s.eng ra) imm
    if dataOk s.eng a then next s fun e => setData e a (reg e rd) else trap s 2

/-- What DRD reads: word ra[7:0] of the field imm16:ra[15:8], read as the engine. -/
def drdRead (s : State) (ra : Fin 16) (imm : Word) : State × Nat :=
  let a := reg s.eng ra
  readWord s .eng s.eng.field imm.toNat (dictSub a) (dictWordNo a)

/-- A SAMPLE that the engine reads shows the whole tick (R475). -/
def drdNote (s : State) (ra : Fin 16) (imm : Word) (place : SamplePlace) : State :=
  let a := reg s.eng ra
  if dictWordNo a = 0 then noteRead s .eng s.eng.field imm.toNat (dictSub a) place else s

/-- DRD ends: rd = the word that it has read. -/
def drdEnd (rd : Fin 16) (v : Nat) (s : State) : State := occEng (next s fun e => result e rd (BitVec.ofNat 16 v)) 3 1

/-- DRD as a command, whose access and end fall into one tick: rd = word ra[7:0] of the field imm16:ra[15:8]. -/
def drd (rd ra : Fin 16) (imm : Word) (s : State) : State :=
  let (t, v) := drdRead s ra imm
  drdEnd rd v (drdNote t ra imm (.register rd.val (v % 65536)))

/-- What DWR writes: word ra[7:0] of the field imm16:ra[15:8] = rd, written as the engine; the flags stay. -/
def dwrEnd (rd ra : Fin 16) (imm : Word) (s : State) : State :=
  let a := reg s.eng ra
  let t := writeCore s .eng s.eng.field imm.toNat (dictSub a) (dictWordNo a) (reg s.eng rd).toNat
  occEng (next t id) 3 1

/-- DWR as a command, whose access and end fall into one tick. -/
def dwr (rd ra : Fin 16) (imm : Word) (s : State) : State := dwrEnd rd ra imm (served s .eng)

/-! ## Timed actions (R323 to R326) -/

/-- A field that a timed action may target (R324). -/
def tactTarget (o : Obj) (sub : Nat) : Bool :=
  match o with
  | .podLive _ => decide (sub = 1)
  | .conv _ => decide (sub = 2)
  | .margin _ => decide (8 ≤ sub ∧ sub ≤ 10)
  | .lineCfg => decide (sub = 6)
  | _ => false

/-- The code that R324 gives a timed action, by its first condition that fails. -/
def tactCode (s : State) (idx w1 delay : Nat) : Nat :=
  let sub := w1 / 256
  if w1 % 256 ≠ 0 ∨ delay = 0 then 2
  else
    match objOf idx with
    | none => 3
    | some o =>
      if !tactTarget o sub then 3
      else if 32 ≤ s.eng.tacts.length then 4
      else if s.eng.field && !fieldMayWrite (engCtrl s) (counterAccess s true) o sub then 5
      else if !aqAdmits s then 6
      else 1

/-- TACT: a timed action from the descriptor at D[ra] to D[ra + 3]; rd = its code; the flags stay. -/
def execTact (rd ra : Fin 16) (s : State) : Host.Outcome State Fault Refusal :=
  instr s (.tact rd ra) fun s =>
    let at' (k : Nat) : Nat := dataAddr (reg s.eng ra) (BitVec.ofNat 16 k)
    let word (k : Nat) : Nat := (dataWord s.eng (at' k)).toNat
    if ([0, 1, 2, 3] : List Nat).all fun k => dataOk s.eng (at' k) then
      let code := tactCode s (word 0) (word 1) (word 3)
      let act' : Tact := { idx := word 0, sub := word 1 / 256, val := word 2, fire := frame s + word 3, field := s.eng.field }
      let s := if code = 6 then occPod s 8 else s
      let s := next s fun e => { setReg e rd (BitVec.ofNat 16 code) with
        tactStat := code, tacts := if code = 1 then e.tacts ++ [act'] else e.tacts }
      occEng s (if code = 1 then 6 else 7) 1
    else trap s 2

/-- A timed action is due to fire in the present frame. -/
def tactDue (s : State) : Bool := (takeDue (frame s) s.eng.tacts).isSome && !engTested s

/-- A timed action fires: an engine write with the privilege of its TACT, its queue entry freed (R325). -/
def fireTact (s : State) : State :=
  match takeDue (frame s) s.eng.tacts with
  | some (t, rest) =>
    let s := occEng (modEng s fun e => { e with tacts := rest, tactWait := false }) 8 1
    writeField (occDict { s with now := { s.now with fired := true } } 3 1) .eng t.field t.idx t.sub t.val
  | none => s

/-! ## Control flow (R319, R322) -/

/-- B: PC = target when the condition holds. -/
def execB (c : Cond) (target : PAddr) (s : State) : Host.Outcome State Fault Refusal :=
  instr s (.b c target) fun s => if condHolds s.eng c then jump s target id else next s id

/-- CALL: push the address of the next instruction; PC = target. -/
def execCall (target : PAddr) (s : State) : Host.Outcome State Fault Refusal :=
  instr s (.call target) fun s =>
    if inRegion s.eng target && decide (16 ≤ s.eng.stack.length) then trap s 4
    else jump s target fun e => { e with stack := nextPc e :: e.stack }

/-- The depth that RET may not pop below: FSD in a field call (R322). -/
def retFloor (e : Eng) : Nat := if inFieldCall e then e.fsd else 0

/-- RET: PC = popped address. -/
def execRet (s : State) : Host.Outcome State Fault Refusal :=
  instr s .ret fun s =>
    match s.eng.stack with
    | [] => trap s 5
    | a :: r => if s.eng.stack.length ≤ retFloor s.eng then trap s 5 else jump s a fun e => { e with stack := r }

/-- JR: PC = ra[12:0]; ra[15:13] must be 0. -/
def execJr (ra : Fin 16) (s : State) : Host.Outcome State Fault Refusal :=
  instr s (.jr ra) fun s =>
    let a := (reg s.eng ra).toNat
    if a < 0x2000 then jump s (BitVec.ofNat 13 a) id else trap s 3

/-- FCALL: a field call to 0x1000 (R322). -/
def execFcall (s : State) : Host.Outcome State Fault Refusal :=
  instr s .fcall fun s => intOnly s fun s =>
    goto s 0x1000 fun e => { e with fra := nextPc e, fsd := e.stack.length, field := true }

/-- FRET: the end of a field call; with integrator privilege, or with no field call in progress, a trap (R322). -/
def execFret (s : State) : Host.Outcome State Fault Refusal :=
  instr s .fret fun s =>
    if inFieldCall s.eng then
      goto s s.eng.fra fun e => { e with stack := cutStack e.stack e.fsd, c := false, field := false }
    else trap s 6

/-! ## Waits, interrupts and signals (R327, R328, R333) -/

/-- WAITF: wait for the next frame boundary; the PC stays at the WAITF until then. -/
def execWaitf (s : State) : Host.Outcome State Fault Refusal :=
  instr s .waitf fun s => modEng s fun e => { e with st := .waitf }

/-- WAITE: wait for an interrupt; the instruction after it runs after the handler's RETI. -/
def execWaite (s : State) : Host.Outcome State Fault Refusal :=
  instr s .waite fun s => modEng s fun e => { e with st := .waite, pc := nextPc e }

/-- EI: IE = 1. -/
def execEi (s : State) : Host.Outcome State Fault Refusal :=
  instr s .ei fun s => intOnly s fun s => next s fun e => { e with ie := true }

/-- DI: IE = 0. -/
def execDi (s : State) : Host.Outcome State Fault Refusal :=
  instr s .di fun s => intOnly s fun s => next s fun e => { e with ie := false }

/-- RETI: PC, FLAGS and privilege from EPC, EFLAGS and EPRIV; IE = 1; outside a handler a trap (R328). -/
def execReti (s : State) : Host.Outcome State Fault Refusal :=
  instr s .reti fun s => intOnly s fun s =>
    if s.eng.inHandler then
      goto s s.eng.epc fun e => { e with
        z := e.ez, n := e.en, c := e.ec, v := e.ev, field := e.efield, ie := true, inHandler := false }
    else trap s 6

/-- GETEV: rd = EVNUM; outside a handler a trap (R328). -/
def execGetev (rd : Fin 16) (s : State) : Host.Outcome State Fault Refusal :=
  instr s (.getev rd) fun s => intOnly s fun s =>
    if s.eng.inHandler then next s fun e => setReg e rd (BitVec.ofNat 16 e.evnum) else trap s 6

/-- SIG with imm16 = 0: raise event 51. -/
def execSigA (s : State) : Host.Outcome State Fault Refusal := instr s .sigA fun s => raise (next s id) 51

/-- SIG with imm16 = 1: raise event 63. -/
def execSigB (s : State) : Host.Outcome State Fault Refusal := instr s .sigB fun s => raise (next s id) 63

/-- TIME with imm16 = 0: rd = FRAME[15:0]. -/
def execTimeFrameLow (rd : Fin 16) (s : State) : Host.Outcome State Fault Refusal :=
  instr s (.timeFrameLow rd) fun s => next s fun e => setReg e rd (BitVec.ofNat 16 (frame s))

/-- TIME with imm16 = 1: rd = FRAME[31:16]. -/
def execTimeFrameHigh (rd : Fin 16) (s : State) : Host.Outcome State Fault Refusal :=
  instr s (.timeFrameHigh rd) fun s => next s fun e => setReg e rd (BitVec.ofNat 16 (frame s / 65536))

/-- TIME with imm16 = 2: rd = device time [8:0]. -/
def execTimeTick (rd : Fin 16) (s : State) : Host.Outcome State Fault Refusal :=
  instr s (.timeTick rd) fun s => next s fun e => setReg e rd (BitVec.ofNat 16 (s.clk.time % 512))

/-- INTERRUPT: an interrupt is taken at once. One that the engine recognises now skips its skid, and one that it has
recognised before ends it (R327, R328; log 14). -/
def execInterrupt (s : State) : Host.Outcome State Fault Refusal :=
  done s fun s =>
    if interruptible s s.eng.pend then takeIrq (recogniseIrq s s.eng.pend none)
    else if executing s && s.eng.skid.isSome then takeIrq s
    else s

end Sys2Proof.Machine
end

