-- ==== Sys2Proof/Machine/Odp.lean ====
section
/-!
DEFINITION. The ODP server: requests (R400, R401), their service one word per tick (R403, R404) and their responses
(R405, R407).
-/
namespace Sys2Proof.Machine

def otherPort : Port → Port
  | .a => .b
  | .b => .a

/-! ## Payloads (R400, R405) -/

/-- The payload lengths of CAN FD (R405). -/
def fdLengths : List Nat := [0, 1, 2, 3, 4, 5, 6, 7, 8, 12, 16, 20, 24, 32, 48, 64]

/-- The shortest payload that holds the bytes, padded with 0x00 (R405). -/
def fdPad (bs : List Byte) : List Byte := padTo ((fdLengths.find? fun n => decide (bs.length ≤ n)).getD 64) bs

/-- The values of COUNT subindexes from FIRST on, each in its field's width (R400, R401). -/
def takeValues (s : State) (idx : Nat) : Nat → Nat → List Byte → Option (List Nat × List Byte)
  | 0, _, bs => some ([], bs)
  | n + 1, sub, bs =>
    let w := 2 * widthNow s idx sub
    if bs.length < w then none
    else (takeValues s idx n (sub + 1) (bs.drop w)).map fun e => (natAt bs 0 w :: e.1, e.2)

/-- N items as INDEX, FIRST and the values; a READ item carries zeros for its COUNT (R400). -/
def parseItems (s : State) (write : Bool) : Nat → List Byte → Option (List (Nat × Nat × List Nat) × List Byte)
  | 0, bs => some ([], bs)
  | n + 1, bs =>
    let idx := natAt bs 0 2
    let first := natAt bs 2 1
    let count := natAt bs 3 1
    if bs.length < 4 ∨ count = 0 then none
    else
      match (if write then takeValues s idx count first (bs.drop 4) else some (List.replicate count 0, bs.drop 4)) with
      | none => none
      | some (vs, rest) => (parseItems s write n rest).map fun e => ((idx, first, vs) :: e.1, e.2)

/-- The items of a request, with true for a WRITE; none where it is malformed (R401). -/
def parseRequest (s : State) (bs : List Byte) : Option (Bool × List (Nat × Nat × List Nat)) :=
  let op := natAt bs 0 1
  let n := natAt bs 2 1
  if bs.length < 3 ∨ (op ≠ 0x11 ∧ op ≠ 0x12) ∨ n = 0 ∨ 15 < n then none
  else
    match parseItems s (decide (op = 0x12)) n (bs.drop 3) with
    | none => none
    | some (items, rest) => if rest.all fun b => decide (b = 0) then some (decide (op = 0x12), items) else none

/-- The fields that an item addresses, with the values it carries. -/
def itemFields (i : Nat × Nat × List Nat) : List (Nat × Nat × Nat) :=
  (List.range i.2.2.length).map fun k => (i.1, i.2.1 + k, i.2.2.getD k 0)

/-- The words that items address (R401). -/
def itemWords (s : State) (items : List (Nat × Nat × List Nat)) : Nat :=
  ((items.flatMap itemFields).map fun f => widthNow s f.1 f.2.1).sum

/-! ## Responses (R405) -/

/-- One segment of a response. -/
def segment (vo tag seg : Nat) (last : Bool) (status : Nat) (data : List Byte) : List Byte :=
  fdPad (bytes 1 vo ++ bytes 1 tag ++ bytes 1 (flg last 7 + seg) ++ bytes 1 status ++ data)

/-- A response frame: it waits on its port, also while the port is off (R403, R405). -/
def respond (s : State) (p : Port) (payload : List Byte) (lastSeg : Bool) : State :=
  queueFrame s p { id := odpId s p 7, payload := payload, lastSeg := lastSeg, pubMap := none }

/-- The segments that carry READ values, 60 bytes each; the last one frees the response buffer. -/
def sendSegments (s : State) (p : Port) (vo tag : Nat) (data : List Byte) : State :=
  let n := (data.length + 59) / 60
  each (List.range n) s fun s k =>
    let last := decide (k + 1 = n)
    respond s p (segment vo tag k last 0 ((data.drop (60 * k)).take 60)) last

/-- A response of one segment of 4 bytes. -/
def sendStatus (s : State) (p : Port) (vo tag status : Nat) : State := respond s p (segment vo tag 0 true status []) true

/-- The overload report of a port that dropped requests (R407); it holds no response buffer. -/
def overloadReport (s : State) (p : Port) : State :=
  match (port s p).dropTag with
  | none => s
  | some tag =>
    let s := respond s p (segment 0x1F tag 0 true 4 (bytes 4 (show32 (port s p).dropped))) false
    modPort s p fun c => { c with dropTag := none }

/-! ## Service (R403, R404) -/

/-- The accesses of a WRITE item; subindexes 0x10 to 0x2B of IMAGE in one item are an image chunk (R389). -/
def writeAccesses (i : Nat × Nat × List Nat) : List StoreOp :=
  if i.1 = 0x1F00 ∧ i.2.1 = 16 ∧ i.2.2.length = 28 then [.chunk (i.2.2.flatMap (bytes 2))]
  else (itemFields i).map fun f => .write f.1 f.2.1 f.2.2

/-- The accesses of a request, in order. -/
def accessesOf (write : Bool) (items : List (Nat × Nat × List Nat)) : List StoreOp :=
  if write then items.flatMap writeAccesses else (items.flatMap itemFields).map fun f => .read f.1 f.2.1

/-- The words that an access takes at the store port. -/
def accessWords (s : State) : StoreOp → Nat
  | .read idx sub => widthNow s idx sub
  | .write idx sub _ => widthNow s idx sub
  | .chunk _ => 28

/-- An access at its word k of n: a READ takes its value with its first word, a WRITE is accepted with its last (R73,
R77, R404). -/
def accessWord (s : State) (r : Requester) (k n : Nat) (data : List Byte) : StoreOp → State × List Byte
  | .read idx sub =>
    if k = 0 then
      let (t, v) := readField s r false idx sub
      (noteRead t r false idx sub (.job data.length), data ++ bytes (2 * n) v)
    else (s, data)
  | .write idx sub v => (if k + 1 = n then writeField s r false idx sub v else s, data)
  | .chunk bs => (if k + 1 = n then chunkWrite s r bs else s, data)

/-- The request in service ends with its response, and the snapshot is no longer pinned (R71, R405). -/
def endJob (s : State) (j : OdpJob) : State :=
  let s := { s with odp := { s.odp with job := none }, bankPin := none }
  if j.vo = 0x11 then sendSegments s j.port j.vo j.tag j.data else sendStatus s j.port j.vo j.tag 0

/-- The request in service takes the word of this tick at the shared store port (R80, R403, R404). -/
def odpWord (s : State) : State :=
  match s.odp.job with
  | none => s
  | some j =>
    match j.work with
    | [] => endJob s j
    | a :: rest =>
      if !portFree s then s
      else
        let r := portReq j.port
        let n := accessWords s a
        let (t, data) := accessWord (served s r) r j.word n j.data a
        if !running t then t
        else
          let j := if j.word + 1 < n then { j with word := j.word + 1, data := data } else { j with work := rest, word := 0, data := data }
          if j.work.isEmpty then endJob t j else { t with odp := { t.odp with job := some j } }

/-- A request is taken into service: a malformed one and one that is too large are answered at once (R401). -/
def takeRequest (s : State) (p : Port) (bs : List Byte) : State :=
  let vo := natAt bs 0 1
  let tag := natAt bs 1 1
  let s := occDict s 2 1
  match parseRequest s bs with
  | none => sendStatus s p vo tag 1
  | some (write, items) =>
    if !write && decide (480 < itemWords s items) then sendStatus s p vo tag 2
    else
      odpWord { s with
        bankPin := some s.bankCur
        odp := { s.odp with job := some { port := p, vo := vo, tag := tag, work := accessesOf write items, word := 0, data := [] } } }

/-- The port whose request the server takes: the other port first, then the one served last (R403). -/
def servePort (s : State) : Option Port :=
  [otherPort s.lastServed, s.lastServed].find? fun p => !(port s p).queue.isEmpty && decide ((port s p).bufs < 2)

/-- The next service instant: tick 32 of a frame whose FRAME[2:0] is 0, once in the frame (R403). -/
def odpInstant (s : State) : Option Nat :=
  if reachable s && !testing s 1 && decide (frame s % 8 = 0 ∧ s.clk.time % 512 ≤ 32 ∧ s.odp.frame ≠ frame s + 1) then
    some (inFrame s 32)
  else none

/-- The service instant of one period (R403, R407). -/
def serveOdp (s : State) : State :=
  let s := { s with odp := { s.odp with frame := frame s + 1 } }
  let s := overloadReport (overloadReport s .a) .b
  match servePort s with
  | none => s
  | some p =>
    match (port s p).queue with
    | [] => s
    | bs :: rest => takeRequest { modPort s p fun c => { c with queue := rest, bufs := c.bufs + 1 } with lastServed := p } p bs

/-! ## Accesses of commands (R80) -/

/-- A request is to be taken into service in this tick, whose word it then has (R403, R404). -/
def odpWaits (s : State) : Bool := decide (odpInstant s = some s.clk.time) && (servePort s).isSome

/-- The word of this tick is free for an access that a command presents. -/
def portReady (s : State) : Bool := portFree s && !odpWaits s

/-- The host access at the head of those that wait takes the word of this tick, where it is free (R80). -/
def hostWord (s : State) : State :=
  match s.hostQ with
  | [] => s
  | a :: rest =>
    if portReady s then
      let (t, left) := portWord { s with hostQ := rest } a
      { t with hostQ := left ++ t.hostQ }
    else s

end Sys2Proof.Machine
end

