-- ==== Sys2Proof/Machine/TwiOps.lean ====
section
/-!
DEFINITION. What the two-wire target's commands share: its addresses, acknowledges and pointer, and its one store access
in a frame (R417 to R428).
-/
namespace Sys2Proof.Machine

def modTwi (s : State) (f : Twi → Twi) : State := { s with twi := f s.twi }

/-! ## Addresses (R417 to R420) -/

/-- The addresses that no setting makes the target answer (R414, R419). -/
def twiReserved (a : Nat) : Bool := decide (a ≤ 0x07 ∨ 0x78 ≤ a)

/-- An extra address, or the masked range, matches (R418). -/
def twiExtra (t : TwiSet) (a : Nat) : Bool :=
  if bit t.ctrl 4 then bit t.ctrl 0 && decide (fld (clrMask (a ^^^ t.extra0) t.extra1) 0 7 = 0)
  else
    (bit t.ctrl 0 && decide (a = t.extra0)) || (bit t.ctrl 1 && decide (a = t.extra1)) ||
    (bit t.ctrl 2 && decide (a = t.extra2))

/-- The address byte is for this target. -/
def twiMatches (s : State) (a : Nat) : Bool :=
  !twiReserved a && (decide (a = 0x50 + s.boot.addrSel) || twiExtra s.twi.set a)

/-- The settings of the dictionary come into use (R420). -/
def twiTakeSettings (s : State) : State :=
  modTwi s fun t => { t with set := {
    ctrl := act s 0x1D00 1, extra0 := act s 0x1D00 2, extra1 := act s 0x1D00 3, extra2 := act s 0x1D00 4
    timeout := act s 0x1D00 5 } }

/-- The target's logic runs: STANDBY has been entered, or a wake with retention has made it ready (R373, R436). -/
def twiRuns (s : State) : Bool := (running s || waking s) && s.twi.ready

/-- The target takes part in the bus: it runs, it is enabled, and its pins are in use with a good bank (R373, R430, R432,
R436, R443). -/
def twiOn (s : State) : Bool := twiRuns s && bit s.twi.set.ctrl 15 && twiConnected s

/-! ## Acknowledges (R430) -/

/-- The target acknowledges n bytes. -/
def twiAck (s : State) (n : Nat) : State := occ (modTwi s fun t => { t with ack := true }) 34 2 2 n

/-- The target does not acknowledge a byte. -/
def twiNack (s : State) : State := modTwi s fun t => { t with ack := false }

/-- A NACK that BUSY_NACKS counts. -/
def twiBusyNack (s : State) : State := occTwi (modTwi s fun t => { t with ack := false, busyNacks := t.busyNacks + 1 }) 3

/-! ## The pointer (R421 to R424) -/

/-- The pointer after one word (R422). An absent subindex counts as one word; an object that does not exist has no
HIGHEST, and its subindexes run to 0xFF. -/
def nextPointer (s : State) (idx sub word : Nat) : Nat × Nat :=
  let top := match objOf idx with
    | some o => highest o
    | none => 255
  if word + 1 < widthNow s idx sub then (sub, word + 1)
  else if top ≤ sub then (1, 0)
  else (sub + 1, 0)

/-- Move the pointer past n words (R422, R423). -/
def twiAdvance : Nat → State → State
  | 0, s => s
  | n + 1, s =>
    let p := nextPointer s s.twi.index s.twi.sub s.twi.word
    twiAdvance n (modTwi s fun t => { t with sub := p.1, word := p.2 })

/-- Nothing read for an older pointer is sent (R426). -/
def dropFetches (s : State) : State := modTwi s fun t => { t with fetches := [], loaded := none }

/-! ## Fetching (R425 to R427) -/

/-- The word whose value the next access reads: the one at the pointer, and the one behind it while that is being sent
(R426). -/
def twiTarget (s : State) : Nat × Nat :=
  if s.twi.loaded.isSome then nextPointer s s.twi.index s.twi.sub s.twi.word else (s.twi.sub, s.twi.word)

/-- The word-0 candidate that an access takes of a multi-word field (R427). -/
def twiCandidate (s : State) (sub word : Nat) : Option Shadow :=
  let idx := s.twi.index
  match objOf idx, fieldOf idx sub with
  | some o, some f =>
    if decide (word = 0) && decide (1 < f.words) && mayRead s .twi false o f then
      some { key := keyOf idx sub, val := fieldValue s .twi o f idx sub, words := f.words }
    else none
  | _, _ => none

/-- The shadow that holds a word behind word 0: the requester's, or the candidate of the word being sent (R427). -/
def twiShadow (s : State) (sub word : Nat) : Option Shadow :=
  let has (h : Option Shadow) : Option Shadow := h.filter fun h => decide (h.key = keyOf s.twi.index sub)
  if word = 0 then none
  else match has (s.twi.loaded.bind (·.cand)) with
    | some h => some h
    | none => has s.reqT.shadow

/-- A word is read for sending; the read has no effect until the word is sent (R426, R427). -/
def twiFetch (s : State) (sub word : Nat) : State :=
  let w : TwiFetch := {
    time := s.clk.time, val := (readCore s .twi false s.twi.index sub word).2, cand := twiCandidate s sub word }
  let s := modTwi s fun t => { t with fetches := (w :: t.fetches).take 2 }
  if word = 0 then noteRead s .twi false s.twi.index sub .fetch else s

/-- The word at the pointer is to be sent, and its first bit goes out in this tick: a word of the shadow, else the value
of the latest access tick that is at least 8 ticks old (R426, R427); device time stands while the device wakes, and the
latest access counts (R436, log 21). -/
def twiLoad (s : State) : State :=
  let word := match twiShadow s s.twi.sub s.twi.word with
    | some h => some { time := s.clk.time, val := wordOf h.val h.words s.twi.word, cand := none }
    | none => s.twi.fetches.find? fun w => waking s || decide (w.time + 8 ≤ s.clk.time)
  modTwi s fun t => { t with fetches := [], loaded := word }

/-! ## The store access (R425 to R428) -/

/-- The access reads the word to be sent next, unless a shadow holds it (R425 to R427). -/
def twiRead (s : State) : State :=
  let (sub, word) := twiTarget s
  if !twiOn s || (twiShadow s sub word).isSome then s else twiFetch (served (occTwi s 6) .twi) sub word

/-- One store access: a waiting write, else the word to be sent next, unless a shadow holds it (R425). -/
def twiAccess (s : State) : State :=
  match s.twi.waiting with
  | w :: r =>
    writeWord (occTwi (modTwi s fun t => { t with waiting := r }) 6) .twi false (w.key / 256) (w.key % 256) w.wordNo w.val
  | [] => twiRead s

/-- The target's access of this frame has not been made (R425). -/
def accessDue (s : State) : Bool := mayAccess s .twi && !decide (s.twi.accessed = frame s + 1)

/-- Tick 16 of slot 0: the target's store access of the frame (R425). -/
def accessTick (s : State) : State :=
  if accessDue s && decide (s.clk.time % 512 = 16) && portFree s then twiAccess (modTwi s fun t => { t with accessed := frame s + 1 }) else s

/-- The access of this frame would do nothing: no write waits, and no word is to be read (R425). -/
def twiStill (s : State) : Bool :=
  s.twi.waiting.isEmpty &&
  (!twiOn s || (let (sub, word) := twiTarget s; (twiShadow s sub word).isSome))

end Sys2Proof.Machine
end

