-- ==== Sys2Proof/Machine/Tick.lean ====
section
/-!
DEFINITION. One CLK_CORE tick: what the device does by itself in it. The line cycle and the FLT receiver (R229, R231), the
two-wire target's store access (R425), the words of the request in service (R403) and of the accesses that wait for the
store port (R80), the engine's own program and its timed actions (R318, R321, R325, R327, R335), the engine's waits (R471)
and the comparison of the two copies of SUPERVISE (R29, R30). Commands of a tick come before the engine's share of it (R68,
R80).
-/
namespace Sys2Proof.Machine

/-! ## Instruction words (R317 to R319) -/

/-- Form RR. -/
def rr (w : InstrWord) (f : Fin 16 → Fin 16 → Fin 16 → Instr) : Instr :=
  if rrOk w then f (rdField w) (raField w) (rbField w) else .illegal

/-- Form RI. -/
def ri (w : InstrWord) (f : Fin 16 → Fin 16 → Word → Instr) : Instr :=
  if riOk w then f (rdField w) (raField w) (imm16 w) else .illegal

/-- A form with its opcode alone. -/
def alone (w : InstrWord) (i : Instr) : Instr := if bare w then i else .illegal

/-- The instruction of a program word; whatever R318 does not give is ILLEGAL. -/
def instrOf (w : InstrWord) : Instr :=
  match opField w with
  | 0x01 => alone w .nop
  | 0x02 => alone w .halt
  | 0x04 => rr w .add
  | 0x05 => rr w .sub
  | 0x06 => rr w .and
  | 0x07 => rr w .or
  | 0x08 => rr w .xor
  | 0x09 => rr w .shl
  | 0x0A => rr w .shr
  | 0x0B => rr w .asr
  | 0x0C => rr w .mul
  | 0x0D => rr w .mulh
  | 0x0E => rr w fun d a b => if d = 0 then .cmp a b else .illegal
  | 0x10 => ri w fun d a v => if a = 0 then .ldi d v else .illegal
  | 0x11 => ri w .addi
  | 0x12 => ri w .andi
  | 0x13 => ri w .ori
  | 0x14 => ri w .xori
  | 0x15 => ri w fun d a v => if d = 0 then .cmpi a v else .illegal
  | 0x16 => ri w fun d a v => if v.toNat < 16 then .shli d a (v.truncate 4) else .illegal
  | 0x17 => ri w fun d a v => if v.toNat < 16 then .shri d a (v.truncate 4) else .illegal
  | 0x18 => ri w .ld
  | 0x19 => ri w .st
  | 0x1C => ri w .drd
  | 0x1D => ri w .dwr
  | 0x1E => rr w fun d a b => if b = 0 then .tact d a else .illegal
  | 0x20 =>
    match condOf (rdField w).val with
    | some c => if jOk w then .b c (target13 w) else .illegal
    | none => .illegal
  | 0x21 => if jOk w ∧ rdField w = 0 then .call (target13 w) else .illegal
  | 0x22 => alone w .ret
  | 0x23 => rr w fun d a b => if d = 0 ∧ b = 0 then .jr a else .illegal
  | 0x24 => alone w .fcall
  | 0x25 => alone w .fret
  | 0x28 => alone w .waitf
  | 0x29 => alone w .waite
  | 0x2A => alone w .ei
  | 0x2B => alone w .di
  | 0x2C => alone w .reti
  | 0x2D => rr w fun d a b => if a = 0 ∧ b = 0 then .getev d else .illegal
  | 0x2E => ri w fun d a v => if d = 0 ∧ a = 0 then (if v = 0 then .sigA else if v = 1 then .sigB else .illegal) else .illegal
  | 0x2F =>
    ri w fun d a v =>
      if a ≠ 0 then .illegal
      else if v = 0 then .timeFrameLow d
      else if v = 1 then .timeFrameHigh d
      else if v = 2 then .timeTick d
      else .illegal
  | _ => .illegal

/-- What an instruction does, through the meaning of its command. -/
def runInstr (s : State) (i : Instr) : State :=
  let effect (o : Host.Outcome State Fault Refusal) : State :=
    match o with
    | .next t => t
    | _ => s
  match i with
  | .nop => effect (execNop s)
  | .halt => effect (execHalt s)
  | .add d a b => effect (execAdd d a b s)
  | .sub d a b => effect (execSub d a b s)
  | .and d a b => effect (execAnd d a b s)
  | .or d a b => effect (execOr d a b s)
  | .xor d a b => effect (execXor d a b s)
  | .shl d a b => effect (execShl d a b s)
  | .shr d a b => effect (execShr d a b s)
  | .asr d a b => effect (execAsr d a b s)
  | .mul d a b => effect (execMul d a b s)
  | .mulh d a b => effect (execMulh d a b s)
  | .cmp a b => effect (execCmp a b s)
  | .ldi d v => effect (execLdi d v s)
  | .addi d a v => effect (execAddi d a v s)
  | .andi d a v => effect (execAndi d a v s)
  | .ori d a v => effect (execOri d a v s)
  | .xori d a v => effect (execXori d a v s)
  | .cmpi a v => effect (execCmpi a v s)
  | .shli d a v => effect (execShli d a v s)
  | .shri d a v => effect (execShri d a v s)
  | .ld d a v => effect (execLd d a v s)
  | .st d a v => effect (execSt d a v s)
  | .drd d a v => instrEffect s (drd d a v)
  | .dwr d a v => instrEffect s (dwr d a v)
  | .tact d a => effect (execTact d a s)
  | .b c a => effect (execB c a s)
  | .call a => effect (execCall a s)
  | .ret => effect (execRet s)
  | .jr a => effect (execJr a s)
  | .fcall => effect (execFcall s)
  | .fret => effect (execFret s)
  | .waitf => effect (execWaitf s)
  | .waite => effect (execWaite s)
  | .ei => effect (execEi s)
  | .di => effect (execDi s)
  | .reti => effect (execReti s)
  | .getev d => effect (execGetev d s)
  | .sigA => effect (execSigA s)
  | .sigB => effect (execSigB s)
  | .timeFrameLow d => effect (execTimeFrameLow d s)
  | .timeFrameHigh d => effect (execTimeFrameHigh d s)
  | .timeTick d => effect (execTimeTick d s)
  | _ => effect (execIllegal s)

/-! ## The program (R318, R321, R327, R335) -/

/-- An instruction that uses the shared store port (R321). -/
def storeAccess : Instr → Bool
  | .drd _ _ _ | .dwr _ _ _ => true
  | _ => false

/-- The ticks of an instruction (R318), without the extra ticks of R321. -/
def ticksOf (e : Eng) (i : Instr) : Nat :=
  match i with
  | .drd _ _ _ | .dwr _ _ _ => 2
  | .tact _ _ => 5
  | .b c _ => if condHolds e c then 2 else 1
  | .call _ | .ret | .jr _ | .fcall | .fret | .reti => 2
  | _ => 1

/-- The instruction at the PC. -/
def current (s : State) : Instr := instrOf (get s.eng.prog 0 s.eng.pc.toNat)

/-- The extra ticks of a store access in this tick: one while HOSTIF holds the store port, and one when a timed action
fires (R80, R321). -/
def portDelay (s : State) : Nat := flg s.now.hostPort 0 + flg s.now.fired 0

/-- HOSTIF and the engine contend where HOSTIF holds the port in the tick of an engine access (R80, R471). -/
def contendHost (s : State) : State := if s.now.hostPort then contend s else s

/-- The access of the instruction in progress: the port serves its word, and a DRD reads it (R50, R72, R321). A PC outside
the region makes none (R331). -/
def portAccess (s : State) (i : Instr) : State :=
  if inRegion s.eng s.eng.pc then
    match i with
    | .drd _ ra imm =>
      let (t, v) := drdRead s ra imm
      drdNote (modEng t fun e => { e with read := some (v % 65536) }) ra imm .held
    | .dwr _ _ _ => served s .eng
    | _ => s
  else s

/-- The last tick of the instruction in progress: a DRD ends with the word that it has read, and a DWR is accepted (R321). -/
def endInstr (s : State) (i : Instr) : State :=
  match i with
  | .drd rd _ _ => instrEffect s (drdEnd rd (s.eng.read.getD 0))
  | .dwr rd ra imm => instrEffect s (dwrEnd rd ra imm)
  | i => runInstr s i

/-- The program's share of a tick: an instruction takes effect in the last of its ticks. A store access is made in the
last but one of them: the first, unless the port delays it there; each tick that this adds counts (R318, R321, R335). -/
def runTick (s : State) : State :=
  let i := current s
  match s.eng.busy with
  | 0 =>
    let n := ticksOf s.eng i + (if storeAccess i then portDelay s else 0)
    if n ≤ 1 then endInstr s i
    else
      let s := if storeAccess i then (if portDelay s = 0 then portAccess s i else contendHost s) else s
      modEng s fun e => { e with busy := n - 1 }
  | 1 => endInstr s i
  | n + 2 =>
    let s := if storeAccess i then occEng (if n = 0 then portAccess s i else s) 4 1 else s
    modEng s fun e => { e with busy := n + 1 }

/-! ## Commands of the engine that wait for the store port (R80, R321) -/

/-- The command uses the store port. -/
def rowAccess : EngRow → Bool
  | .instr i => storeAccess i
  | .access _ => true

/-- A command of the engine in its turn: an instruction, or one word of an access; with what is left of it. -/
def runRow (s : State) : EngRow → State × List EngRow
  | .instr i => (runInstr s i, [])
  | .access a =>
    let (t, left) := portWord s a
    (t, left.map EngRow.access)

/-- A command leaves the queue with its turn; the engine's end leaves none (R331, R334). -/
def headRow (s : State) (x : EngRow) (rest : List EngRow) : State :=
  let (t, left) := runRow (modEng s fun e => { e with rows := [], rowWait := 0 }) x
  if t.eng.st = .halted ∨ t.eng.st = .trapped then t else modEng t fun e => { e with rows := left ++ rest }

/-- The engine's share of a tick in which commands of it wait: one of them has its turn. What HOSTIF or a firing holds up
is delayed as a store access of the program is, and what an engine access of the same tick holds up has its turn in the next
one (R80, R321). -/
def rowTick (s : State) (x : EngRow) (rest : List EngRow) : State :=
  if s.eng.rowWait = 0 then
    if rowAccess x && s.now.engPort then s
    else if rowAccess x && decide (0 < portDelay s) then modEng (contendHost s) fun e => { e with rowWait := portDelay s }
    else headRow s x rest
  else
    let s := occEng s 4 1
    if s.eng.rowWait = 1 then headRow s x rest else modEng s fun e => { e with rowWait := e.rowWait - 1 }

/-! ## The engine's share of a tick -/

/-- The engine's share of a tick. An event raised in a tick is recognised in the next one; a running program then
completes at most three instructions, and an interrupt in a wait is taken at once and enters its handler two ticks
later (R327, R329). -/
def engineShare (s : State) : State :=
  if engTested s then s
  else
    match s.eng.rows with
    | x :: rest => rowTick s x rest
    | [] =>
      if 0 < s.eng.stall then modEng s fun e => { e with stall := e.stall - 1 }
      else
        match s.eng.st with
        | .running => if s.now.engPort && storeAccess (current s) && decide (s.eng.busy = 0) then s else runTick (recogniseDue s)
        | .waitf | .waite =>
          if irqDue s then modEng (takeIrq (recogniseIrq s (pendSeen s) none)) fun e => { e with stall := 1 } else s
        | _ => s

/-- A firing does not have the word of this tick: an access of the engine has had it, or HOSTIF holds the port, which
delays the firing by one tick (R80, R325). -/
def tactHeld (s : State) : Bool := s.now.engPort || (s.now.hostPort && !s.eng.tactWait)

/-- The timed actions' share of a tick: one action a tick, from tick 1 on, delayed by one tick while HOSTIF holds the
store port (R325). -/
def tactShare (s : State) : State :=
  if tactDue s && decide (1 ≤ s.clk.time % 512) && !s.now.fired then
    if tactHeld s then
      if s.now.hostPort then contend (modEng s fun e => { e with tactWait := true }) else s
    else fireTact s
  else s

/-! ## One tick -/

/-- No block but the line unit does anything by itself as ticks pass: the engine neither runs nor waits, no timed action
is held, no request is in service, no access waits for the store port, the two-wire target has nothing to access, and the
copies of SUPERVISE agree. -/
def still (s : State) : Bool :=
  (engTested s || (decide (s.eng.st = .halted ∨ s.eng.st = .trapped) && s.eng.tacts.isEmpty && decide (s.eng.stall = 0) &&
    s.eng.rows.isEmpty)) &&
  s.odp.job.isNone && s.hostQ.isEmpty && !s.sup.crash.lockNext && s.twin.isNone &&
  (twiStill s || decide (16 ≤ s.clk.time % 512))

/-- What a copy of the device does at the end of a tick, behind the commands of the tick: its receiver takes the tick's
sample, the windows that have passed are judged, a timed action fires, and the engine has its share. -/
def tickWork (s : State) : State := engineShare (tactShare (passWindows (receive s)))

/-- The end of the present tick, with the comparison of the two copies (R29, R30). -/
def endTick (s : State) : State := if running s then compareCopies (bothCopies s tickWork) else s

/-- A tick that the engine spends in WAITF or WAITE (R471). -/
def countWait (s : State) : State :=
  if decide (s.eng.st = .waitf ∨ s.eng.st = .waite) && !engTested s then occEng s 2 1 else s

/-- The present tick is over: its balls have been captured, its overflow events raised and its records and reads completed
(R441, R474, R475, R485). -/
def tickOver (s : State) (t : Nat) : State := settle (closeTick (captureBalls s t))

/-- The records of the present tick are complete, and an empty one begins at an instant. -/
def newTick (s : State) (t : Nat) : State :=
  let u := bothCopies s fun s => tickOver s t
  { u with clk := { u.clk with time := t }, now := { Now.reset with before := some (u.sup.mode, u.sup.pods) } }

/-- What a tick begins with: the line cycle that has ended, the crash that a disagreement of the copies in the tick before
makes (R30), the two-wire target's access, the next word of the request in service or of an access that waits, and the count
of the engine's waits. -/
def tickStart (s : State) : State :=
  let s := passCycles s
  let s := if s.sup.crash.lockNext then lockstep (modCrash s fun k => { k with lockNext := false }) else s
  countWait (hostWord (odpWord (accessTick s)))

/-- A tick begins. -/
def beginTick (s : State) : State := if running s then bothCopies s tickStart else s

/-- The present tick ends and the one at an instant of its frame begins. -/
def passTo (s : State) (t : Nat) : State := beginTick (newTick (endTick s) t)

/-- The present tick ends and the next one of the frame begins. -/
def passTick (s : State) : State := passTo s (s.clk.time + 1)

/-- The next instant, up to t, at which the device does something by itself. -/
def nextInstant (s : State) (t : Nat) : Nat :=
  if still s then ((lineInstants s).filter fun x => decide (s.clk.time < x)).foldl min t else s.clk.time + 1

/-- Ticks pass up to an instant, as long as the device runs; those in which nothing happens by itself pass at once. -/
def passUntil : Nat → State → Nat → State
  | 0, s, _ => s
  | n + 1, s, t =>
    if running s && decide (s.clk.time < t) then passUntil n (passTo s (nextInstant s t)) t else s

/-- Bring device time forward to an instant; time never goes back (R47). -/
def advance (s : State) (t : Nat) : State := passUntil (t - s.clk.time) s t

/-- What happens at the instant that `due` gives: the ticks before it pass, and the effect follows unless they have
changed that instant. An instant beyond the present frame is not reached. -/
def atInstant (s : State) (due : State → Option Nat) (f : State → State) : State :=
  match due s with
  | some t =>
    if t / 512 ≤ frame s then
      let u := advance s t
      if running u && decide (due u = some t) then f u else u
    else s
  | none => s

/-- The present tick is the last one of its frame, behind which only a command that ends the frame goes (log 2). -/
def lastOfFrame (s : State) : Bool := decide (s.clk.time % 512 = 511)

/-- A tick with no command. A frame ends only with a command that ends it, so time stops in tick 511 (log 2). -/
def tick (s : State) : State :=
  if running s && !lastOfFrame s then { flush (passTick s) with causes := [], pending := s.pending } else s

/-- TACT_FIRE: the next firing of the frame, from tick 1 on and one in a tick, in order of acceptance; a tick later while
HOSTIF holds the store port (R325). In tick 511 what holds the firing up leaves it to the tick's end (log 2). -/
def execTactFire (s : State) : Host.Outcome State Fault Refusal :=
  done s fun s =>
    if running s && tactDue s && !(s.now.fired && lastOfFrame s) then
      let t := advance s (if s.now.fired then s.clk.time + 1 else inFrame s 1)
      let t := if running t && tactDue t && tactHeld t && !lastOfFrame t then passTick t else t
      if running t && tactDue t && !t.now.fired && !tactHeld t then fireTact t else t
    else s

end Sys2Proof.Machine
end

