-- ==== Sys2Proof/Machine/Can.lean ====
section
/-!
DEFINITION. ODP over CAN FD: requests, service and responses (R397 to R407), heartbeats (R408), event frames (R409),
mirrors (R410), publish maps (R411, R412) and error states (R395).
-/
namespace Sys2Proof.Machine

/-- ODP_SERVE (R403). -/
def execOdpServe (s : State) : Host.Outcome State Fault Refusal := done s fun s => (atInstant s odpInstant serveOdp)

/-- The frame was in reception when a set changed the port, and is finished under the old values: it is the first one since
and carries the old node ID (R396, log 22). -/
def oldFrame (s : State) (p : Port) (node : Nat) : Bool := decide ((port s p).inRecv = some node)

/-- The port takes a frame for this node ID: it is on, or it finishes one in reception (R373, R396, R502). -/
def takesFrame (s : State) (p : Port) (node : Nat) : Bool :=
  reachable s && !testing s (portPart p) && (portOn s p || oldFrame s p node) && !decide ((port s p).err = 2) && canHears s p

/-- CAN_REQUEST_RECEIVED: a REQUEST frame becomes valid; it is queued when it carries the port's node ID, and dropped
on a full queue (R396, R398, R402). -/
def execCanRequestReceived (p : Port) (node : Nat) (payload : List Byte) (s : State) :
    Host.Outcome State Fault Refusal :=
  done s fun s =>
    if takesFrame s p node then
      let mine := oldFrame s p node || decide (node = nodeId s p)
      let s := occPort (modPort s p fun c => { c with inRecv := none }) p 1 1
      if !mine then s
      else if (port s p).queue.length < 16 then
        occPort (modPort s p fun c => { c with queue := c.queue ++ [payload] }) p 2 1
      else
        let s := modPort s p fun c => { c with
          dropped := c.dropped + 1
          dropTag := match c.dropTag with
            | some t => some t
            | none => some (natAt payload 1 1) }
        raise (occPort s p 3 1) 47
    else s

/-! ## Sending -/

/-- The frame in transmission at SLEEP entry, or when CTRL.EN became 0, has not ended yet (R369, R396). -/
def lastFrame (s : State) (p : Port) : Bool :=
  s.pwr.powered && !s.pwr.held && (port s p).finishing && !decide ((port s p).err = 2) &&
  !(decide (s.sup.mode = .sleep) && s.sleep.entered)

/-- The port sends a frame now: in a mode that serves the dictionary, or the one that was in transmission (R369, R396). -/
def sendsNow (s : State) (p : Port) : Bool := (reachable s && portSends s p) || lastFrame s p

/-- CAN_FRAME_SENT: the next frame has been sent; the last segment of a response frees its buffer (R399, R403). -/
def execCanFrameSent (p : Port) (s : State) : Host.Outcome State Fault Refusal :=
  done s fun s =>
    if sendsNow s p then
      match nextFrame (port s p) with
      | none => s
      | some (f, rest) =>
        let s := modPort s p fun c => { c with
          out := rest, bufs := if f.lastSeg then c.bufs - 1 else c.bufs, announce := false, finishing := false
          inRecv := if c.finishing then c.inRecv else none }
        let s := occPort s p 4 1
        if functionOf f = 2 then occPort s p 6 1 else s
    else s

/-- CAN_HEARTBEAT: HB_PERIOD ms after the latest announce or heartbeat (R408). -/
def execCanHeartbeat (p : Port) (s : State) : Host.Outcome State Fault Refusal :=
  done s fun s =>
    let period := act s (portIdx p) 6
    let due (s : State) : Option Nat :=
      if portLive s p && serviceable s.sup.mode && !decide (period = 0) then some ((port s p).hbLast + period * 200000) else none
    if running s then atInstant s due fun s => announce s p 1 else s

/-- The events that an event frame takes: at most seven of the lowest-numbered pending ones (R409). -/
def eventTake (c : CanPort) : List (Nat × Nat) := c.pend.take 7

/-- The EVENT payload (R409). -/
def eventPayload (c : CanPort) : List Byte :=
  let l := eventTake c
  fdPad (bytes 1 l.length ++ bytes 1 c.merged ++ l.flatMap fun e => bytes 2 e.1 ++ bytes 6 (e.2 - 1))

/-- EVENT_FRAME_ASSEMBLE: a port with pending events and no waiting EVENT frame, in BOOT-HOLD too (R362, R409). -/
def execEventFrameAssemble (p : Port) (s : State) : Host.Outcome State Fault Refusal :=
  done s fun s =>
    let c := port s p
    if portLive s p && !c.pend.isEmpty && !c.out.any fun f => decide (functionOf f = 2) then
      modPort (makeFrame s p 2 (eventPayload c) false none) p fun c => { c with pend := c.pend.drop 7, merged := 0 }
    else s

/-- LINE_MIRROR frames for a line command applied at a boundary, seen in frame f (R410). -/
def mirror (s : State) (up : Bool) (f : Nat) : State :=
  each [Port.a, Port.b] s fun s p =>
    if bit (act s (portIdx p) 1) 4 then
      makeFrame s p 1 (bytes 1 (if up then 1 else 2) ++ bytes 1 s.sup.line.index ++ zeros 2 ++ bytes 8 f) false none
    else s

/-! ## Publish maps (R411 to R413) -/

/-- The PUBLISH payload that a port's hosts read (R413). -/
def publishPayload (s : State) (p : Port) (m seq f : Nat) : List Byte :=
  fdPad (bytes 1 m ++ bytes 1 seq ++ bytes 4 f ++ (mapItems s m).flatMap fun v =>
    let idx := fld v 16 16
    let sub := fld v 8 8
    match objOf idx, fieldOf idx sub with
    | some o, some fd => bytes (2 * fd.words) (fieldValue s (portReq p) o fd idx sub)
    | _, _ => [])

/-- A publish frame of the map waits on the port. -/
def publishWaits (s : State) (p : Port) (m : Nat) : Bool := (port s p).out.any fun x => decide (x.pubMap = some m)

/-- The frame of the map that waits on the port is taken out, and REPLACED counts it (R412). -/
def dropPublish (s : State) (p : Port) (m : Nat) : State :=
  let s := modPort s p fun c => { c with out := c.out.filter fun x => !decide (x.pubMap = some m) }
  let x := get s.publish Publish.reset m
  occPort { s with publish := put s.publish Publish.reset m { x with replaced := x.replaced + 1 } } p 7 1

/-- A publish frame goes to a port, in place of one of the same map that still waits there; a port that is off makes none
(R396, R412). -/
def publishTo (m seq f : Nat) (s : State) (p : Port) : State :=
  let payload := publishPayload s p m seq f
  let s := if portOn s p && publishWaits s p m then dropPublish s p m else s
  makeFrame s p 9 payload false (some m)

/-- A map publishes the frame that has just closed (R411). -/
def publishDue (s : State) (m : Nat) : Bool :=
  let x := get s.publish Publish.reset m
  let f := frame s - 1
  bit (act s (0x1C10 + m) 1) 15 && !x.cfgErr && decide (1 ≤ frame s) && decide (f % act s (0x1C10 + m) 2 = act s (0x1C10 + m) 3) &&
  !decide (x.last = some f)

/-- PUBLISH_ASSEMBLE: at the boundary that opens the next frame, which is tick 0 (R411). -/
def execPublishAssemble (m : Nat) (s : State) : Host.Outcome State Fault Refusal :=
  done s fun s =>
    if reachable s && serviceable s.sup.mode && decide (m < 16 ∧ s.clk.time % 512 = 0) && publishDue s m then
      let f := frame s - 1
      let none := Publish.reset
      let x := get s.publish none m
      let seq := (x.seq + 1) % 256
      let s := { s with publish := put s.publish none m { x with seq := seq, last := some f } }
      let sel := fld (act s (0x1C10 + m) 1) 8 2
      let s := if bit sel 0 then publishTo m seq f s .a else s
      if bit sel 1 then publishTo m seq f s .b else s
    else s

/-! ## Error states (R395) -/

def errEvent : Port → Nat
  | .a => 45
  | .b => 46

/-- Bus-off discards what waits in the transmit buffers; announces stay (R395). -/
def busOff (s : State) (p : Port) : State :=
  let serving := s.odp.job.any fun j => decide (j.port = p)
  occPort (modPort s p fun c => { c with
    out := c.out.filter fun f => decide (functionOf f = 3), bufs := if serving then 1 else 0, ctrlSet := false }) p 8 1

/-- A port may leave bus-off: automatically, or after a committed set has written its CTRL (R395). -/
def mayRecover (s : State) (p : Port) : Bool := bit (act s (portIdx p) 1) 5 || (port s p).ctrlSet

/-- CAN_ERROR_STATE_CHANGE: the controller's error state and counters under ISO 11898-1 (R395). -/
def execCanErrorStateChange (p : Port) (es tec rxe : Nat) (s : State) : Host.Outcome State Fault Refusal :=
  done s fun s =>
    let old := (port s p).err
    if portLive s p && (!decide (old = 2 ∧ es ≠ 2) || mayRecover s p) then
      let s := modPort s p fun c => { c with err := es, tec := tec, rxe := rxe }
      if es = old then s
      else raise (if es = 2 then busOff s p else s) (errEvent p)
    else s

end Sys2Proof.Machine
end

