-- ==== Sys2Proof/Machine/Gallery.lean ====
section
/-!
DEFINITION. The central reader's dumps (R480 to R482), the stream records of a boundary (R485, R486), the counter
overflow (R474) and the trace port (R488, R489).
-/
namespace Sys2Proof.Machine

def modGal (s : State) (f : Gallery → Gallery) : State := { s with gal := f s.gal }

/-! ## Dumps -/

def allCounters (s : State) : List Ctr := (List.range 42).map (get s.ctrs Ctr.reset)

/-- The central reader takes the counters at the boundary that opens frame f, before the sets of the boundary
(R480). A dump that has not been written by then is given up. -/
def dumpCapture (s : State) (f : Nat) : State :=
  let c := galCtrl s
  let on := bit c 14 && !partDisabled s 5 && decide (0 < f ∧ f % 2 ^ fld c 8 5 = 0)
  modGal s fun g => { g with dump := if on then some (f - 1, allCounters s) else none }

/-- Bit k for counter k's OVF. -/
def ovfBits : Nat → List Ctr → Nat
  | _, [] => 0
  | k, c :: r => flg c.ovf k + ovfBits (k + 1) r

/-- The 256 bytes of a dump (R481). -/
def dumpBytes (f seq : Nat) (cs : List Ctr) : List Byte :=
  bytes 8 f ++ bytes 4 seq ++ zeros 4 ++ bytes 8 (ovfBits 0 cs) ++ zeros 8 ++ cs.flatMap (fun c => bytes 4 c.count) ++
    zeros 56

/-- COUNTER records of a dump, in increasing k (R485, R486). -/
def counterRecords (seq : Nat) : Nat → List Ctr → List (List Byte)
  | _, [] => []
  | k, c :: r =>
    (bytes 1 0xA4 ++ bytes 1 k ++ bytes 1 (flg c.ovf 7) ++ bytes 1 seq ++ bytes 4 c.count) :: counterRecords seq (k + 1) r

/-- The dump is written with event 60; a gallery under test makes neither the dump nor its records (R480, R502). -/
def writeDump (s : State) (f : Nat) (cs : List Ctr) : State :=
  let seq := s.gal.dumpSeq + 1
  let records := fun t => if bit (galCtrl t) 3 then each (counterRecords seq 0 cs) t record else t
  if testing s 5 then records (modGal s fun g => { g with dump := none })
  else
    let s := modGal s fun g => { g with
      dump := none, dumpSeq := seq, dumpBuf := seq % 2, ram := galStore g.ram (128 * (seq % 2)) (dumpBytes f seq cs) }
    raise (records s) 60

/-- COUNTER_OVERFLOW: an occurrence of counter k's selection that carries its count past the top; its event 49 comes as
the tick ends, unless a zeroing write of the tick comes before the addition (R474, R476). -/
def execCounterOverflow (k : Nat) (s : State) : Host.Outcome State Fault Refusal :=
  done s fun s => whenRunning s fun s =>
    if decide (k < 42) && !decide (selOf s k = 0) && decide ((get s.ctrs Ctr.reset k).count = 0xFFFFFFFF) then
      bump s k (selOf s k) 1
    else s

/-! ## The records of a boundary -/

/-- A CHANNEL record from the snapshot of the closing frame (R486). -/
def channelRecord (s : State) (f c : Nat) : List Byte :=
  let h := chan s c
  bytes 1 0xA3 ++ bytes 1 c ++ bytes 1 (flg h.disp 7 + h.slot) ++ bytes 2 h.raw ++ bytes 3 f

/-- The FRAME record of the closing frame and its CHANNEL records (R485). -/
def frameRecords (s : State) (f : Nat) : State :=
  let s := record s (bytes 1 0xA0 ++ bytes 7 f)
  if bit (galCtrl s) 2 then
    each (List.range 4) s fun s i =>
      let v := act s 0x1980 (3 + i)
      if bit v 7 then record s (channelRecord s f (fld v 0 7)) else s
  else s

/-! ## The trace port -/

/-- TRACE_RECORD_SENT: a record leaves the FIFO; a LOSS record that waits takes the room (R488, R489). -/
def execTraceRecordSent (s : State) : Host.Outcome State Fault Refusal :=
  done s fun s => whenRunning s fun s =>
    match s.gal.fifo with
    | r :: rest => if traceActive s && !testing s 5 then modGal s fun g => pushLoss { g with fifo := rest, sent := r } else s
    | [] => s

end Sys2Proof.Machine
end

