-- ==== Sys2Proof/Machine/LineRows.lean ====
section
/-!
DEFINITION. The commands of the fault line: what its receiver takes (R229, R230, R244), what falls on an instant of the
line cycle (R231, R233, R236, R238, R239, R242), of the arbitration (R245 to R247) and of a quiet line (R224).
-/
namespace Sys2Proof.Machine

/-! ## The receiver (R229, R230, R244) -/

/-- FLT_FALL: other devices pull the line low, and its filtered level goes low at a tick of the present frame (R229,
R244). Where this device holds it low already, the taken level has fallen before. -/
def execFltFall (tick : Nat) (s : State) : Host.Outcome State Fault Refusal :=
  done s fun s => whenRunning s fun s =>
    if s.sup.line.others ∨ 512 ≤ tick then s
    else
      let s := advance s (inFrame s tick)
      if running s then
        let s := modLine s fun l => { l with others := true }
        if s.sup.line.low then s else falls s
      else s

/-- FLT_PULSE_END: other devices release the line, and its filtered level goes high len ticks after the taken fall (R230);
where this device holds the line low, it stays low. A period of 128 ticks or more is a FAULT, which its 128th tick
recognises. -/
def execFltPulseEnd (len : Nat) (s : State) : Host.Outcome State Fault Refusal :=
  done s fun s => whenRunning s fun s =>
    let e := s.sup.line.fall
    if s.sup.line.low && decide ((e + len) / 512 ≤ frame s) then
      let s := advance s (e + len)
      if running s then
        let s := modLine s fun l => { l with others := false }
        if s.sup.line.low && !fltLow s then lowEnds s len else s
      else s
    else s

/-- FAULT_RECOGNITION: the low period reaches 128 ticks (R244). -/
def execFaultRecognition (s : State) : Host.Outcome State Fault Refusal :=
  done s fun s => whenRunning s fun s =>
    atInstant s (fun s => if s.sup.line.low && !s.sup.line.fault then some (s.sup.line.fall + 127) else none) recogniseFault

/-! ## The line cycle (R231, R233, R236) -/

/-- LISTEN_WINDOW_EXPIRY: no sync pulse was heard; the unit becomes the timekeeper from its own count (R233). A
standalone device never does (R237). DESIGN CHOICE: a standalone device stops then and takes no sync pulse any more, and the
line cycle that a timekeeper's start cuts short does not count in LINE_CYCLE (R254; log 20). -/
def execListenWindowExpiry (s : State) : Host.Outcome State Fault Refusal :=
  done s fun s => whenRunning s fun s =>
    atInstant s (fun s =>
        let l := s.sup.line
        if l.role = .listening then some (l.listenAt + 9600 + 3200 * l.index) else none)
      fun s =>
        if s.sup.line.index = 15 then modLine s fun l => { l with role := .stopped }
        else
          occLine (modLine s fun l => { l with
            role := .timekeeper, base := s.clk.time, cycle := cyclesNow s, sendFrom := cyclesNow s, seen := 0, judged := 0
            syncSeen := false, hist := [] }) 7

/-- SYNC_SEND: the timekeeper drives a sync pulse in ticks 40 to 103 of line slot 0 (R231). -/
def execSyncSend (s : State) : Host.Outcome State Fault Refusal :=
  done s fun s => whenRunning s fun s =>
    atInstant s (fun s => if sending s && isTk s.sup.line then some (nextAt s 40) else none) fun s =>
      if isTk s.sup.line then modLine s fun l => { l with syncDrive := some l.cycle } else s

/-- HEARTBEAT_SEND: a synchronised device drives its heartbeat in ticks 120 to 151 of its own slot (R231). -/
def execHeartbeatSend (s : State) : Host.Outcome State Fault Refusal :=
  done s fun s => whenRunning s fun s =>
    atInstant s (fun s => if sending s then some (nextAt s (200 * s.sup.line.index + 120)) else none)
      fun s => modLine s fun l => { l with hbDrive := some l.cycle }

/-- SYNC_LOSS: after three line cycles without a sync pulse the lowest index seen becomes the timekeeper (R236). -/
def execSyncLoss (s : State) : Host.Outcome State Fault Refusal :=
  done s fun s => whenRunning s fun s =>
    atInstant s (fun s =>
        if s.sup.line.role ≠ .synced then none
        else if syncLost s.sup.line then some s.clk.time
        else some (s.sup.line.base + 3200))
      fun s =>
        if syncLost s.sup.line then
          occLine (modLine s fun l => { l with role := .timekeeper, sendFrom := l.cycle }) 7
        else s

/-! ## Partners (R238 to R241) -/

/-- JOIN_WINDOW_EXPIRY: every expected partner whose window has ended without joining is absent (R238, R240). -/
def execJoinWindowExpiry (s : State) : Host.Outcome State Fault Refusal :=
  done s fun s => whenRunning s fun s =>
    atInstant s (fun s =>
        if !lineModes s.sup.mode then none
        else match ((List.range 15).filter (unjoined s)).map (joinEnd s) with
          | [] => none
          | t :: r => some (r.foldl min t))
      fun s =>
        let ended := (List.range 15).filter fun i => unjoined s i && decide (joinEnd s i ≤ s.clk.time)
        let s := each ended s fun s i =>
          partnerEvent (modLine s fun l => { l with absent := setBit l.absent i }) 32 10 i (bit (lineCfg s 1) 5)
        takeCauses s

/-- PARTNER_LOST: the third window in a row of a joined partner has passed without its heartbeat (R239, R240). -/
def execPartnerLost (i : Nat) (s : State) : Host.Outcome State Fault Refusal :=
  done s fun s => whenRunning s fun s =>
    atInstant s (fun s =>
        let l := s.sup.line
        let n := get l.misses 0 i
        if isSynced l && isPartner s i && bit l.joined i && !bit l.lost i && !missesSuspended s then
          if n = 3 then some s.clk.time
          else if n = 2 ∧ bit l.judged i = false ∧ bit l.seen i = false then some (windowAt l i)
          else none
        else none)
      fun s =>
        let s := judgeWindow s i
        let s := modLine s fun l => { l with lost := setBit l.lost i }
        takeCauses (partnerEvent s 31 9 i (bit (lineCfg s 1) 4))

/-! ## Line commands (R242) -/

/-- LINE_COMMAND_SEND: the pending command goes out in slot 15 of a line cycle after the write in which the line has
been quiet since the start of slot 14, with no low period of FAULT length in it (R224, R231, R242). -/
def execLineCommandSend (s : State) : Host.Outcome State Fault Refusal :=
  done s fun s => whenRunning s fun s =>
    atInstant s (fun s =>
        if s.sup.line.pending.isSome && isTk s.sup.line && sending s then some (nextAt s 3040) else none)
      fun s =>
        let l := s.sup.line
        if isTk l && decide (l.cmdCycle < l.cycle) && !faultShown s && decide (l.faultEnd ≤ l.base + 2800) then
          let up := l.pending.getD false
          modLine (discardCommand s 2) fun l => { l with cmdDrive := some (l.cycle, up) }
        else s

/-! ## Arbitration (R245 to R249) -/

/-- ORIGINATOR_HOLD_END: an originator stops driving FLT 4000 ticks after its crash tick (R245). -/
def execOriginatorHoldEnd (s : State) : Host.Outcome State Fault Refusal :=
  done s fun s => whenRunning s fun s =>
    atInstant s (fun s => if s.sup.line.origHold then some (s.sup.crash.time + 4000) else none)
      fun s => modLine s fun l => { l with origHold := false }

/-- ARBITRATION_START: the level has been high for 800 ticks; S is the tick after them (R246). -/
def execArbitrationStart (s : State) : Host.Outcome State Fault Refusal :=
  done s fun s => whenRunning s fun s =>
    atInstant s (fun s =>
        match s.sup.line.arb with
        | .gap h => some (h + 800)
        | _ => none)
      fun s =>
        match s.sup.line.arb with
        | .gap h => modLine s fun l => { l with arb := .running (h + 800), arbLow := 0, faultCycle := true }
        | _ => s

/-- ARBITRATION_RESULT: tick S + 1680 (R246), unless the arbitration is abandoned before (R247). The others leave a bit period
low where the operand says so, and where the sample of that period has taken it (log 20). -/
def execArbitrationResult (others : BitVec 21) (s : State) : Host.Outcome State Fault Refusal :=
  done s fun s => whenRunning s fun s =>
    atInstant s (fun s =>
        match s.sup.line.arb, s.sup.line.faultAt with
        | .running t0, some e => if t0 + 1680 ≤ e + 8000 then some (t0 + 1680) else none
        | _, _ => none)
      fun s =>
        let (winT, winI, tie) := arbitrate (originates s) s.sup.crash.ownTime s.sup.line.index (others &&& arbOthers s.sup.line)
        let s := modCrash s fun k => { k with
          arbResult := 0x8000 + flg tie 14 + winI, arbTime := winT, ownTime := if originates s then k.ownTime else 0 }
        finalHold (raise s 33)

/-- ARBITRATION_ABANDON: the arbitration has not completed by tick E + 8000 (R247, R249). -/
def execArbitrationAbandon (s : State) : Host.Outcome State Fault Refusal :=
  done s fun s => whenRunning s fun s =>
    atInstant s (fun s => if arbBusy s.sup.line then s.sup.line.faultAt.map (· + 8000) else none) fun s =>
      let s := modCrash s fun k => { k with
        arbResult := 0x200F, arbTime := 0, ownTime := if originates s then k.ownTime else 0 }
      finalHold (raise (occLine s 8) 33)

/-! ## A quiet line (R224) -/

/-- FLT_QUIET: the 3200th quiet tick while clearing (R224). -/
def execFltQuiet (s : State) : Host.Outcome State Fault Refusal :=
  done s fun s => whenRunning s fun s =>
    atInstant s (fun s =>
        if s.sup.crash.clearing && !faultShown s then some (s.sup.line.faultEnd + 3199) else none)
      fun s => modLine s fun l => { l with quiet := true }

end Sys2Proof.Machine
end

