-- ==== Sys2Proof/Machine/Pins.lean ====
section
/-!
DEFINITION. Edges on pins: pod request pins (R153, R447), pin event lines (R458 to R460), and the wake by a pin event (R371).
-/
namespace Sys2Proof.Machine

/-- PODREQ_SEL of the pod is k and its REQ_SRC.PIN is 1 (R153). -/
def podListens (s : State) (k p : Nat) : Bool := bit (podCfg s p 4) 1 && decide (podCfg s p 3 = k)

/-- PODREQ_EDGE: a synchronised edge on the pin that supplies PODREQ k (R153, R343, R447). -/
def execPodreqEdge (k : Nat) (rising : Bool) (s : State) : Host.Outcome State Fault Refusal :=
  done s fun s => whenRunning s fun s =>
    match podSupplier s k with
    | none => s
    | some n =>
      let fresh := bankGood s n && !edgeless s k
      let s := setLevel s n rising
      if fresh && serviceable s.sup.mode && !decide (s.sup.mode = .service) then
        each (podNums.filter (podListens s k)) s fun s p => accept s (if rising then .rise p else .fall p) .pin
      else s

/-! ## Pin event lines -/

/-- EDGE of the line selects the edge (R461). -/
def pevWants (s : State) (n : Nat) (rising : Bool) : Bool :=
  match fld (pevCfg s n) 13 2 with
  | 0 => rising
  | 1 => !rising
  | _ => true

/-- The line is in use and its pin's bank is good (R458, R460). -/
def pevLive (s : State) (n : Nat) : Bool := decide (n < 8) && bit (pevCfg s n) 15 && bankGood s (pevPin s n)

/-- DEB of the line (R461). -/
def pevDeb (s : State) (n : Nat) : Nat := fld (pevCfg s n) 0 8

/-- PIN_EVENT_EDGE: a synchronised edge on the pin of line n (R458, R459). -/
def execPinEventEdge (n : Nat) (rising : Bool) (s : State) : Host.Outcome State Fault Refusal :=
  done s fun s => whenRunning s fun s =>
    if pevLive s n then
      let s := setLevel s (pevPin s n) rising
      let s := if pevWants s n rising then occPins s (1 + n) else s
      if pevDeb s n = 0 then
        let s := setPev s n { level := rising, cnt := 0 }
        if pevWants s n rising then raise s (52 + n) else s
      else s
    else s

/-- What the frame sample of a debounced line makes: the line, and whether its accepted level changes (R459). -/
def pevNext (s : State) (n : Nat) : Pev × Bool :=
  let v := pevOf s n
  let now := pinLevel s (pevPin s n)
  if now = v.level then ({ v with cnt := 0 }, false)
  else if pevDeb s n ≤ v.cnt + 1 then ({ level := now, cnt := 0 }, true)
  else ({ v with cnt := v.cnt + 1 }, false)

/-- The line is sampled at tick 511 of each frame. -/
def pevSampled (s : State) (n : Nat) : Bool := pevLive s n && !decide (pevDeb s n = 0)

/-- The boundary after the present frame raises the event of line n (R459). -/
def pevDue (s : State) (n : Nat) : Bool := pevSampled s n && (pevNext s n).2 && pevWants s n (!(pevOf s n).level)

/-- The device in the tick before, whose drives the balls still show. -/
def tickBefore (s : State) : State := { s with clk := { s.clk with time := s.clk.time - 1 } }

/-- The samples of tick 511, with the events that the new frame's tick 0 raises (R459, R460). -/
def pevSample (s : State) : State :=
  each (List.range 8) s fun s n =>
    if !pevSampled s n then s
    else
      let t := setPev s n (pevNext (tickBefore s) n).1
      if pevDue (tickBefore s) n then raise t (52 + n) else t

/-- WAKE_PIN_EVENT: in SLEEP the line acts without debounce (R371, R459). -/
def execWakePinEvent (n : Nat) (rising : Bool) (s : State) : Host.Outcome State Fault Refusal :=
  done s fun s =>
    if s.pwr.powered && !s.pwr.held && decide (s.sup.mode = .sleep) && pevLive s n then
      let s := setPev (setLevel s (pevPin s n) rising) n { level := rising, cnt := 0 }
      if bit (sleepCfg s) n && pevWants s n rising then wakeEvent s (.pin n) else s
    else s

end Sys2Proof.Machine
end

