-- ==== Sys2Proof/Machine/Boundary.lean ====
section
/-!
DEFINITION. The frame boundary: the steps of R51 in their order with what other blocks do in that tick, and the
commands that name one effect of a boundary.
-/
namespace Sys2Proof.Machine

/-! ## The closing frame (R69, R70, R272) -/

/-- The bank that the next snapshot takes: one that is not pinned (R69). -/
def nextBank (s : State) : Nat :=
  let n := (s.bankCur + 1) % 3
  if s.bankPin = some n then (n + 1) % 3 else n

/-- The values that only a snapshot shows, as they stand at the end of the frame (R183, R254). -/
def closeSup (s : State) : State :=
  let s := { s with sup := { s.sup with aqHeld := aqHeld s, aqRes := aqReserved s } }
  modLine s fun l => { l with age := lineAge s }

/-- Step 1: the snapshot of the closing frame (R51, R69). -/
def takeSnapshot (s : State) : State :=
  match nextBank s with
  | 0 => { s with bank0 := s.sup, bankCur := 0 }
  | 1 => { s with bank1 := s.sup, bankCur := 1 }
  | _ => { s with bank2 := s.sup, bankCur := 2 }

/-- The scheduled raw values of the closing frame f join the history, and complete a capture whose deciding frame it is
(R264, R272). -/
def closeFrame (s : State) (f : Nat) : State :=
  let raws := channels.map fun c => (chan s c).raw
  let frames := lastN 16 (s.recs.frames ++ [raws])
  modRec s fun r => { r with
    frames := frames
    cap := r.cap.map fun c => if c.closed || !decide (c.frame = f) then c else { c with closed := true, raws := raws, frames := frames } }

/-! ## Sets (R62, R63) -/

/-- Every set of one requester applies, in the order of their COMMITs (R63). -/
def applySets (s : State) (r : Requester) : State :=
  let q := req s r
  if q.sets.isEmpty then s
  else
    let s := each q.sets s fun s kvs => occDict (applySet s kvs) 5 1
    { modReq s r fun q => { q with sets := [], applied := true } with
      sup := { s.sup with lastCommit := s.clk.time } }

/-- Steps 2 and 3: the sets, the latch, and the checks that follow a change (R51, R253, R298). -/
def commitStep (s : State) : State :=
  let t := each requesters s applySets
  if t.latched = t.dict then t
  else
    let t := each [Port.a, Port.b] t (portReceives s)
    let t := lineConfig (configChecks s t) (lineCfg s 2)
    each (activeMargins t) t guardCut

/-! ## Requests (R156) -/

/-- The place of a source among the requests of one tick. -/
def sourceRank : Source → Nat
  | .pin => 0
  | .line => 1
  | .port .eng => 2
  | .port _ => 3

def reqBefore (a b : Request) : Bool :=
  decide (a.time < b.time) || (decide (a.time = b.time) && decide (sourceRank a.src < sourceRank b.src))

/-- Insert behind every request that was accepted no later. -/
def insertReq (q : Request) : List Request → List Request
  | [] => [q]
  | x :: r => if reqBefore q x then q :: x :: r else x :: insertReq q r

def inOrder (l : List Request) : List Request := l.foldl (fun a q => insertReq q a) []

def podSource : Source → PodSrc
  | .pin => .pin
  | .line => .line
  | .port .eng => .engine
  | .port _ => .host

/-- REQ_STAT of the requester (R184). -/
def podOutcome (src : Source) (p : Nat) (e : State × Nat) : State :=
  match src with
  | .port r => modReq e.1 r fun q => { q with podStat := put q.podStat 0 p e.2 }
  | _ => e.1

/-- MODE_STAT of the requester: it shows the latest write, so that an earlier request of the frame no longer reports once a
write has been refused with code 4 (R347). -/
def modeOutcome (s : State) (r : Requester) (code : Nat) : State :=
  modReq s r fun q => { q with modeStat := if q.modeStat = 4 then 4 else code }

/-- The mode request of a value, once its key was checked at the write (R248, R344, R347, R369). -/
def modeRequest (s : State) (r : Requester) (v : Nat) : State :=
  let m := s.sup.mode
  let refuse := modeOutcome s r 3
  match v with
  | 1 => podOutcome (.port r) 0 (riseRequest (modeOutcome s r 6) 0 (podSource (.port r)))
  | 2 => podOutcome (.port r) 0 (fallRequest (modeOutcome s r 6) 0 (podSource (.port r)))
  | 3 => if m = .standby then haltEngine (setMode (modeOutcome s r 2) .service) else refuse
  | 4 => if m = .service then wantStart (entryFault (setMode (modeOutcome s r 2) .standby)) else refuse
  | 5 =>
    if m ≠ .standby then refuse
    else if sleepCfg s &&& 0x60FF = 0 then modeOutcome s r 5
    else enterSleep (modeOutcome s r 2)
  | 6 =>
    if m = .standby ∨ m = .service ∨ (m = .crash ∧ s.recs.commitEnded = true) then enterReset s causeHost
    else if m = .crash then modeOutcome s r 5 else refuse
  | _ => s

/-- One request at step 4 (R156); none takes effect once a reset has begun. -/
def handleRequest (s : State) (q : Request) : State :=
  if s.pwr.held then s
  else
    let port := match q.src with
      | .port r => r
      | _ => .eng
    match q.ask with
    | .rise p => podOutcome q.src p (riseRequest s p (podSource q.src))
    | .fall p => podOutcome q.src p (fallRequest s p (podSource q.src))
    | .release p => podOutcome q.src p (releaseRequest s p (podSource q.src))
    | .mode v => modeRequest s port v
    | .margin c target => marginRequest s port c target
    | .marginRelease c => marginReleaseRequest s port c
    | .pip c stepVal => pipRequest s port c stepVal

/-- A line command is mirrored once, unless it finds the device in a mode that ignores it (R343, R410). -/
def mirrorCommand (s : State) (f : Nat) (l : List Request) : State :=
  match l with
  | q :: _ =>
    if !running s || decide (s.sup.mode = .crash ∨ s.sup.mode = .service ∨ s.sup.mode = .sleep) then s
    else match q.ask with
      | .rise _ => mirror s true f
      | _ => mirror s false f
  | [] => s

/-- Step 4 (R51, R156). At most one line command is accepted in a frame, as the first of its requests shows. -/
def requestStep (s : State) (f : Nat) : State :=
  let (before, rest) := (inOrder s.accepted).span fun q => !decide (q.src = .line)
  let s := before.foldl handleRequest { s with accepted := [] }
  rest.foldl handleRequest (mirrorCommand s f rest)

/-! ## The boundary (R51) -/

/-- The causes of tick 0 in the order of R216: a disagreement of the copies in tick 511, then the pod unit's. -/
def podCauses (s : State) (mismatch : Bool) : List (Nat × Nat) :=
  (if mismatch then [(5, 0xFF)] else []) ++
  s.causes.filter (fun k => decide (k.1 = 6)) ++ s.causes.filter (fun k => !decide (k.1 = 6))

/-- Step 5, with the discharge limits, the crash of this tick, the margin servo and the converters' new frame. `mismatch`:
the copies of SUPERVISE disagreed in tick 511 (R30, R51, R204, R216, R296). -/
def evalStep (s : State) (mismatch : Bool) : State :=
  let s := evalPods s
  let s := each channels s fun s c => disBoundary s c (frame s)
  let s := if mismatch then raise s 41 else s
  let s := crash { s with causes := [] } (podCauses s mismatch)
  evalMargins s

/-- WAITF ends: the instruction after it runs in tick 1, as does the first one after a start (R332, R333). -/
def engineStep (s : State) : State :=
  let wake := decide (s.eng.st = .waitf) && !engTested s
  let s := if wake then occEng (modEng s fun e => { e with st := .running, pc := nextPc e }) 1 1 else s
  let start := startDue s
  let s := startEngine s
  if wake || start then modEng s fun e => { e with stall := 1 } else s

/-- BOOT counts its reference-check frames and ends with the last one (R360). -/
def bootStep (s : State) : State :=
  if booting s && s.boot.imageDone then
    let s := { s with boot := { s.boot with refFrames := s.boot.refFrames - 1 } }
    if s.boot.refFrames = 0 then bootEnds s else s
  else s

/-- Step 5 in the modes that judge pods, unless the device has gone to SLEEP or into reset. -/
def evalNow (s : State) (mismatch : Bool) : State :=
  if running s && serviceable s.sup.mode then evalStep s mismatch else s

/-- Steps 4 and 5. The crash of a disagreement in tick 511 comes ahead of the requests, which then find CRASH (R30, R157;
log 13). -/
def requestsAndPods (s : State) (f : Nat) (mismatch : Bool) : State :=
  if mismatch then requestStep (evalNow s true) f else evalNow (requestStep s f) false

/-- What the new frame begins with, its tick 0's word at the store port among it (R80), unless the device has gone to SLEEP or into reset. -/
def openFrame (s : State) : State :=
  if running s then
    let s := if converting s then each converters s convFrameStart else s
    let s := modLine s fun l => { l with faultFrame := l.low && l.fault }
    countWait (hostWord (odpWord (startRun (bootStep s) true)))
  else s

/-- The steps of the boundary between frame f and the next one, in tick 0. -/
def openTick (s : State) (f : Nat) : State :=
  let s := frameRecords (takeSnapshot (samplePips (dumpCapture s (f + 1)))) f
  let s := pevSample (passCycles (closeFrame s f))
  let mismatch := s.sup.crash.lockNext
  let s := modCrash s fun k => { k with lockNext := false }
  let s := openCrashWatches (engineStep (commitStep s)) (f + 1)
  openFrame (requestsAndPods (autoClear (leaveCrash s)) f mismatch)

/-- The end of tick 511 of the present frame, with the pin levels that it samples. -/
def lastTick (s : State) (level : Pins) : State :=
  let s := advance s (inFrame s 511)
  endTick { s with pins := { s.pins with level := level } }

/-- The levels of the PODREQ lines in the present tick, for the landings (R163). -/
def samplePodreq (s : State) : State :=
  { s with pins := { s.pins with podreq := (List.range 16).foldl (fun m k => m + flg (podLevel s k) k) 0 } }

/-- The boundary that closes the present frame. -/
def boundary (s : State) (level : Pins) : State :=
  let s := samplePodreq (lastTick s level)
  if running s then
    let t := newTick (bothCopies s closeSup) (inFrame s 512)
    bothCopies t fun t => openTick t (frame s)
  else s

/-- FRAME_BOUNDARY, with the synchronised pin levels of tick 511 (R51, R459). -/
def execFrameBoundary (pins : Pins) (s : State) : Host.Outcome State Fault Refusal :=
  done s fun s => whenRunning s fun s => boundary s pins

/-! ## Commands that name one effect of a boundary

Each performs the boundary that closes the present frame, with the pins as they stand, when its effect is due there, and
does nothing otherwise (log 2). -/

def atBoundary (s : State) (due : State → Bool) : Host.Outcome State Fault Refusal :=
  done s fun s => whenRunning s fun s => if due s then boundary s s.pins.level else s

/-- The device as it stands, at the time of the boundary that closes the present frame. -/
def atNext (s : State) : State := { s with clk := { s.clk with time := inFrame s 512 } }

/-- RISE_DEADLINE_EXPIRY (R165). -/
def execRiseDeadlineExpiry (p k : Nat) (s : State) : Host.Outcome State Fault Refusal :=
  atBoundary s fun s => decide ((pod s p).st = .rising) && (ent s p k).waiting && deadlineDue s p k (frame s + 1)

/-- LANDING_TIMEOUT (R163, R165). -/
def execLandingTimeout (p : Nat) (s : State) : Host.Outcome State Fault Refusal :=
  atBoundary s fun s =>
    let q := pod s p
    let dl := entDl (entryOf s p q.k)
    q.held && !decide (dl = 0) && decide (dl * podUnit s p ≤ q.hf + 1)

/-- RETRY_COOLDOWN_EXPIRY (R170). -/
def execRetryCooldownExpiry (p : Nat) (s : State) : Host.Outcome State Fault Refusal :=
  atBoundary s fun s => decide ((pod s p).st = .rising) && cooldownDue (atNext s) p

/-- DESCENT_LIMIT_EXPIRY (R191, R192). -/
def execDescentLimitExpiry (p : Nat) (s : State) : Host.Outcome State Fault Refusal :=
  atBoundary s fun s => decide ((pod s p).st = .falling) && decide (podCfg s p 8 * podUnit s p ≤ (pod s p).dc + 1)

/-- DIS_LIMIT_EXPIRY (R204, R205). -/
def execDisLimitExpiry (c : Nat) (s : State) : Host.Outcome State Fault Refusal :=
  atBoundary s fun s => disLimitDue s c (frame s + 1)

/-- PIP_BASELINE_END (R300). -/
def execPipBaselineEnd (c : Nat) (s : State) : Host.Outcome State Fault Refusal :=
  atBoundary s fun s => baselineDue (atNext s) c

/-- PIP_CAPTURE_END (R300, R304). -/
def execPipCaptureEnd (c : Nat) (s : State) : Host.Outcome State Fault Refusal :=
  atBoundary s fun s => captureDue (atNext s) c

/-- AUTO_CLEAR (R226). -/
def execAutoClear (s : State) : Host.Outcome State Fault Refusal :=
  atBoundary s fun s => autoClearDue (atNext s)

/-- BOOT_COMPLETE (R341, R360). -/
def execBootComplete (s : State) : Host.Outcome State Fault Refusal :=
  atBoundary s fun s => booting s && s.boot.imageDone && decide (s.boot.refFrames = 1)

/-- ENGINE_START (R332, R334). -/
def execEngineStart (s : State) : Host.Outcome State Fault Refusal := atBoundary s startDue

/-- PIN_EVENT_DEBOUNCED (R459). -/
def execPinEventDebounced (n : Nat) (s : State) : Host.Outcome State Fault Refusal := atBoundary s fun s => pevDue s n

/-- WAITF_RESUME: the boundary, then tick 1, in which the instruction after the WAITF runs (R333). -/
def execWaitfResume (s : State) : Host.Outcome State Fault Refusal :=
  done s fun s => whenRunning s fun s =>
    if decide (s.eng.st = .waitf) && !engTested s then
      let t := boundary s s.pins.level
      if running t then advance t (inFrame t 2) else t
    else s

end Sys2Proof.Machine
end

