-- ==== Sys2Proof/Machine/Instants.lean ====
section
/-!
DEFINITION. Commands that stand for one instant of device time: the end of a key (R345), a scheduling point of the
self-test (R498), a counter dump (R480) and the end of an EVO pulse (R466).
-/
namespace Sys2Proof.Machine

/-- KEY_EXPIRY: 4096 frames after the key was armed (R345). -/
def execKeyExpiry (r : Requester) (s : State) : Host.Outcome State Fault Refusal :=
  done s fun s => whenRunning s fun s =>
    atInstant s (fun s =>
        match (req s r).key with
        | .armed t => some (t + 2097152)
        | _ => none)
      fun s => modReq s r fun q => { q with key := .idle }

/-- BIST_SCHEDULING_POINT: the next point of the grid (R498). -/
def execBistSchedulingPoint (s : State) : Host.Outcome State Fault Refusal :=
  done s fun s => whenRunning s fun s =>
    atInstant s (fun s => if serviceable s.sup.mode then some (nextPoint s) else none) takePoint

/-- COUNTER_DUMP: tick 64 of a dump frame (R480, R485). -/
def execCounterDump (s : State) : Host.Outcome State Fault Refusal :=
  done s fun s => whenRunning s fun s =>
    atInstant s (fun s => if s.gal.dump.isSome && decide (s.clk.time % 512 ≤ 64) then some (inFrame s 64) else none)
      fun s =>
        match s.gal.dump with
        | some (f, cs) => writeDump s f cs
        | none => s

/-- EVO_PULSE_END: four CLK_BUS cycles after the latest raise (R466). -/
def execEvoPulseEnd (k : Nat) (s : State) : Host.Outcome State Fault Refusal :=
  done s fun s => whenRunning s fun s =>
    atInstant s (fun s => if evoUntil s k = 0 then none else some (evoUntil s k))
      fun s => { s with pins := { s.pins with evoPulse := put s.pins.evoPulse 0 k 0 } }

end Sys2Proof.Machine
end

