-- ==== Sys2Proof/Machine/Requests.lean ====
section
/-!
DEFINITION. The commands that are a requester's write or read of one named field, and the engine's DRD and DWR. The store
port that HOSTIF and the engine share serves one word per tick (R80): a command presents its access, and the words that the
present tick does not serve follow as ticks pass. Each access goes through the store's ports, so that rights, mode locks,
ranges, keys and gathers apply to it as to any access.
-/
namespace Sys2Proof.Machine

/-! ## The shared store port (R80) -/

/-- A host's access comes to the port: its words are served one a tick, behind those of the host accesses that wait, the
first of them in this tick where it is free. -/
def hostAccess (s : State) (a : Access) : State :=
  let t := { s with hostQ := s.hostQ ++ [a] }
  let t := if s.now.engPort || s.now.fired then contend t else t
  if s.hostQ = [] then hostWord t else t

/-- An access of the engine comes to the port: in this tick where it is free, and else in the engine's turn (R80, R321). -/
def engAccess (s : State) (a : Access) : State :=
  if s.eng.rows = [] ∧ portReady s = true then
    let (t, left) := portWord s a
    modEng t fun e => { e with rows := e.rows ++ left.map EngRow.access }
  else queueRow s (.access a)

/-- An access of n words by a requester; the two-wire target reads and writes a whole field with one word (R425). -/
def access (s : State) (r : Requester) (n : Nat) (op : StoreOp) : State :=
  let a : Access := { req := r, op := op, words := if r = .twi then 1 else n }
  if mayAccess s r then (if isHost r then hostAccess s a else engAccess s a) else s

/-- A host's or the engine's write of one field, as a command of its own. -/
def present (s : State) (r : Requester) (idx sub v : Nat) : State :=
  let n := widthNow s idx sub
  access s r n (.write idx sub (v % 65536 ^ n))

/-- A read of word 0 of a field, as a command of its own (R73). -/
def presentRead (s : State) (r : Requester) (idx sub : Nat) : State := access s r 1 (.read idx sub)

/-- Two writes of a command, which cannot fall into one tick: the second comes with the next tick (R80; log 2). -/
def presentTwo (s : State) (r : Requester) (idx sub v w : Nat) : State :=
  let t := present s r idx sub v
  present (if running t && !lastOfFrame t then passTick t else t) r idx sub w

/-! ## The dictionary (R57 to R77) -/

/-- DICTIONARY_WRITE (R14, R15, R58 to R60, R77, R87). -/
def execDictionaryWrite (r : Requester) (idx sub val : Nat) (s : State) : Host.Outcome State Fault Refusal :=
  done s fun s => present s r idx sub val

/-- COMMIT: a write of 0x0001 (R61, R62). -/
def execCommit (r : Requester) (s : State) : Host.Outcome State Fault Refusal := done s fun s => present s r 0x0200 4 1

/-- COMMIT_DISCARD: a write of 0x0002 (R61). -/
def execCommitDiscard (r : Requester) (s : State) : Host.Outcome State Fault Refusal := done s fun s => present s r 0x0200 4 2

/-- WORD0_SHADOW_READ: a read of word 0 of a field (R73). -/
def execWord0ShadowRead (r : Requester) (idx sub : Nat) (s : State) : Host.Outcome State Fault Refusal :=
  done s fun s => presentRead s r idx sub

/-- An instruction that uses the shared store port: in this tick where it is free, and else in the engine's turn (R80,
R321). -/
def portInstr (s : State) (i : Instr) (op : State → State) : State :=
  if s.eng.rows = [] ∧ portReady s = true then instrEffect s op
  else if executing s then queueRow s (.instr i) else s

/-- DRD (R318, R320, R321). -/
def execDrd (rd ra : Fin 16) (imm : Word) (s : State) : Host.Outcome State Fault Refusal :=
  done s fun s => portInstr s (.drd rd ra imm) (drd rd ra imm)

/-- DWR (R318, R320, R321). -/
def execDwr (rd ra : Fin 16) (imm : Word) (s : State) : Host.Outcome State Fault Refusal :=
  done s fun s => portInstr s (.dwr rd ra imm) (dwr rd ra imm)

/-! ## Requests and commands by name -/

/-- URGENT_REQ: a write of CONV(g).URGENT_REQ (R104, R105). -/
def execUrgentReq (r : Requester) (g entry : Nat) (s : State) : Host.Outcome State Fault Refusal :=
  done s fun s => if g < 8 then present s r (0x1500 + g) 2 entry else s

/-- RISE_REQUEST: a write of 1 to POD_LIVE(p).REQUEST (R155 to R157). -/
def execRiseRequest (r : Requester) (p : Nat) (s : State) : Host.Outcome State Fault Refusal :=
  done s fun s => if p < 48 then present s r (0x1300 + p) 1 1 else s

/-- FALL_REQUEST: a write of 2 to POD_LIVE(p).REQUEST (R155 to R157). -/
def execFallRequest (r : Requester) (p : Nat) (s : State) : Host.Outcome State Fault Refusal :=
  done s fun s => if p < 48 then present s r (0x1300 + p) 1 2 else s

/-- LANDING_RELEASE: a write of 3 to POD_LIVE(p).REQUEST (R163, R164). -/
def execLandingRelease (r : Requester) (p : Nat) (s : State) : Host.Outcome State Fault Refusal :=
  done s fun s => if p < 48 then present s r (0x1300 + p) 1 3 else s

/-- CRASH_CMD: a write of 0x00C5 to LINE_CFG.CRASH_CMD (R252). -/
def execCrashCmd (r : Requester) (s : State) : Host.Outcome State Fault Refusal := done s fun s => present s r 0x1600 7 0xC5

/-- CLEAR_CRASH: a write of 0x0001 to MODE_CTRL.CLEAR_CRASH, which needs an armed key (R222, R346). -/
def execClearCrash (r : Requester) (s : State) : Host.Outcome State Fault Refusal := done s fun s => present s r 0x0200 5 1

/-- LINE_CMD_START: a write of 1 to LINE_CFG.LINE_CMD (R242). -/
def execLineCmdStart (r : Requester) (s : State) : Host.Outcome State Fault Refusal := done s fun s => present s r 0x1600 6 1

/-- LINE_CMD_STOP: a write of 2 to LINE_CFG.LINE_CMD (R242). -/
def execLineCmdStop (r : Requester) (s : State) : Host.Outcome State Fault Refusal := done s fun s => present s r 0x1600 6 2

/-- The index of a view's object (R287). -/
def viewIdx : ViewId → Nat
  | .kernel => 0x1701
  | .husk => 0x1702
  | .summary => 0x1703

/-- VIEW_SELECT: a write of a view's SELECT (R287, R288). -/
def execViewSelect (r : Requester) (v : ViewId) (sel : Nat) (s : State) : Host.Outcome State Fault Refusal :=
  done s fun s => present s r (viewIdx v) 1 sel

/-- MARGIN_TARGET: a write of MARGIN(c).MARGIN_TARGET (R292). -/
def execMarginTarget (r : Requester) (c target : Nat) (s : State) : Host.Outcome State Fault Refusal :=
  done s fun s => if c < 96 then present s r (0x1400 + c) 8 target else s

/-- MARGIN_RELEASE: a write of 0x0001 to MARGIN(c).MARGIN_RELEASE (R297). -/
def execMarginRelease (r : Requester) (c : Nat) (s : State) : Host.Outcome State Fault Refusal :=
  done s fun s => if c < 96 then present s r (0x1400 + c) 9 1 else s

/-- PIP_REQ: a write of MARGIN(c).PIP_REQ (R299). -/
def execPipReq (r : Requester) (c stepVal : Nat) (s : State) : Host.Outcome State Fault Refusal :=
  done s fun s => if c < 96 then present s r (0x1400 + c) 10 stepVal else s

/-- ENGINE_COMMAND_HALT: a write of 0x0001 to ENGINE_CTRL.COMMAND (R334). -/
def execEngineCommandHalt (r : Requester) (s : State) : Host.Outcome State Fault Refusal :=
  done s fun s => present s r 0x1800 2 1

/-- ENGINE_COMMAND_START: a write of 0x0002 to ENGINE_CTRL.COMMAND (R334). -/
def execEngineCommandStart (r : Requester) (s : State) : Host.Outcome State Fault Refusal :=
  done s fun s => present s r 0x1800 2 2

/-- ENGINE_PROG_CLEAR: a write of 0x00A5 to ENGINE_PROG.CLEAR (R338). -/
def execEngineProgClear (r : Requester) (s : State) : Host.Outcome State Fault Refusal :=
  done s fun s => present s r 0x1801 5 0xA5

/-- ENGINE_PROG_DATA_WRITE: a write of ENGINE_PROG.DATA at the requester's ADDR (R338). -/
def execEngineProgDataWrite (r : Requester) (w : InstrWord) (s : State) : Host.Outcome State Fault Refusal :=
  done s fun s => present s r 0x1801 2 w.toNat

/-- ENGINE_PROG_DATA_READ: a read of word 0 of ENGINE_PROG.DATA (R338). -/
def execEngineProgDataRead (r : Requester) (s : State) : Host.Outcome State Fault Refusal :=
  done s fun s => presentRead s r 0x1801 2

/-- MODE_REQ_RISE: a write of 0x0001 to MODE_REQ (R344). -/
def execModeReqRise (r : Requester) (s : State) : Host.Outcome State Fault Refusal := done s fun s => present s r 0x0200 2 1

/-- MODE_REQ_FALL: a write of 0x0002 to MODE_REQ (R344). -/
def execModeReqFall (r : Requester) (s : State) : Host.Outcome State Fault Refusal := done s fun s => present s r 0x0200 2 2

/-- MODE_REQ_ENTER_SERVICE: a write of 0x0003 to MODE_REQ, which needs an armed key (R344, R367). -/
def execModeReqEnterService (r : Requester) (s : State) : Host.Outcome State Fault Refusal :=
  done s fun s => present s r 0x0200 2 3

/-- MODE_REQ_LEAVE_SERVICE: a write of 0x0004 to MODE_REQ (R344, R368). -/
def execModeReqLeaveService (r : Requester) (s : State) : Host.Outcome State Fault Refusal :=
  done s fun s => present s r 0x0200 2 4

/-- MODE_REQ_ENTER_SLEEP: a write of 0x0005 to MODE_REQ (R344, R369). -/
def execModeReqEnterSleep (r : Requester) (s : State) : Host.Outcome State Fault Refusal :=
  done s fun s => present s r 0x0200 2 5

/-- MODE_REQ_RESET: a write of 0x0006 to MODE_REQ, which needs an armed key (R344). -/
def execModeReqReset (r : Requester) (s : State) : Host.Outcome State Fault Refusal := done s fun s => present s r 0x0200 2 6

/-- KEY: writes of 0x00A5 and 0x005A to MODE_CTRL.KEY (R345). -/
def execKey (r : Requester) (s : State) : Host.Outcome State Fault Refusal :=
  done s fun s => presentTwo s r 0x0200 3 0xA5 0x5A

/-- IMAGE_BEGIN: a write of 0x0001 to IMAGE.COMMAND (R388). -/
def execImageBegin (r : Requester) (s : State) : Host.Outcome State Fault Refusal := done s fun s => present s r 0x1F00 1 1

/-- IMAGE_CHUNK: one write item of image bytes (R389). -/
def execImageChunk (r : Requester) (bytes : List Byte) (s : State) : Host.Outcome State Fault Refusal :=
  done s fun s => access s r 28 (.chunk bytes)

/-- IMAGE_VERIFY: a write of 0x0002 to IMAGE.COMMAND (R390). -/
def execImageVerify (r : Requester) (s : State) : Host.Outcome State Fault Refusal := done s fun s => present s r 0x1F00 1 2

/-- IMAGE_ACTIVATE: a write of 0x0003 to IMAGE.COMMAND, which in SERVICE needs an armed key (R391). -/
def execImageActivate (r : Requester) (s : State) : Host.Outcome State Fault Refusal := done s fun s => present s r 0x1F00 1 3

/-- IMAGE_ABORT: a write of 0x0004 to IMAGE.COMMAND (R390). -/
def execImageAbort (r : Requester) (s : State) : Host.Outcome State Fault Refusal := done s fun s => present s r 0x1F00 1 4

/-- IMAGE_KEY_WRITE: a write of IMAGE.KEY, which needs an armed key (R387, R391). -/
def execImageKeyWrite (r : Requester) (keyVal : Nat) (s : State) : Host.Outcome State Fault Refusal :=
  done s fun s => present s r 0x1F00 10 keyVal

/-- AUTH_REQUIRED_SET: a write of IMAGE.AUTH_CTRL with AUTH_REQUIRED 1, which needs an armed key and KEY_SET
(R387, R391). -/
def execAuthRequiredSet (r : Requester) (s : State) : Host.Outcome State Fault Refusal := done s fun s => present s r 0x1F00 11 2

/-- EVENT_CLEAR: a write of EVENT_CLEAR (R464). -/
def execEventClear (r : Requester) (mask : Nat) (s : State) : Host.Outcome State Fault Refusal :=
  done s fun s => present s r 0x0303 1 mask

/-- COUNTER_CLEAR_OVF: a write of 0x0001 to COUNTER(k).CLEAR (R476). -/
def execCounterClearOvf (r : Requester) (k : Nat) (s : State) : Host.Outcome State Fault Refusal :=
  done s fun s => if k < 42 then present s r (0x1900 + k) 3 1 else s

/-- COUNTER_ZERO: a write of 0x0002 to COUNTER(k).CLEAR (R476). -/
def execCounterZero (r : Requester) (k : Nat) (s : State) : Host.Outcome State Fault Refusal :=
  done s fun s => if k < 42 then present s r (0x1900 + k) 3 2 else s

/-- PIN_OUT_WRITE: a write of PIN_CFG(n).OUT (R448, R452, R453). -/
def execPinOutWrite (r : Requester) (n val : Nat) (s : State) : Host.Outcome State Fault Refusal :=
  done s fun s => if n < 48 then present s r (0x1A00 + n) 3 val else s

/-- PIN_LOCK_SEQUENCE: writes of 0x4C4B and 0xB4B4 to PIN_LOCK.LOCK (R453). -/
def execPinLockSequence (r : Requester) (s : State) : Host.Outcome State Fault Refusal :=
  done s fun s => presentTwo s r 0x1A41 2 0x4C4B 0xB4B4

/-- TEST_NOW: a write of BIST.TEST_NOW (R501). -/
def execTestNow (r : Requester) (val : Nat) (s : State) : Host.Outcome State Fault Refusal :=
  done s fun s => present s r 0x1E00 3 val

end Sys2Proof.Machine
end

