-- ==== Sys2Proof/Machine/Samples.lean ====
section
/-!
DEFINITION. The commands of a slot: conversions (R97), decisions (R119), and a disagreement of the two copies of
SUPERVISE (R29, R30).
-/
namespace Sys2Proof.Machine

/-- CONVERSION: slot k's samples, taken at tick 10 with the pin levels of that tick; their results are ready at tick 28
(R55, R97, R99, R105, R516, R517). -/
def execConversion (k : Nat) (raws : List Nat) (pins : Pins) (s : State) : Host.Outcome State Fault Refusal :=
  done s fun s => whenRunning s fun s =>
    let s := if converting s then advance s (inFrame s (32 * k + 10)) else s
    let s := { s with pins := { s.pins with level := pins } }
    if converting s then
      let vals := converters.map fun g => slotSample s k g (raws.getD g 0)
      let s := advance s (inFrame s (32 * k + 28))
      if converting s then each converters s fun s g => convert s k g (vals.getD g 0) else s
    else s

/-- JUDGE_SAMPLE: the judges of all converters decide at tick 30 of slot k (R97). -/
def execJudgeSample (k : Nat) (s : State) : Host.Outcome State Fault Refusal :=
  done s fun s => whenRunning s fun s =>
    if converting s then
      let s := advance s (inFrame s (32 * k + 30))
      if converting s then judgeSlot s k else s
    else s

/-- LOCKSTEP_MISMATCH: registers and outputs of the second copy of SUPERVISE stand otherwise in tick t, the comparison of
the tick finds it (R29), and the device crashes in tick t + 1 (R30); after tick 511 that is tick 0 of the frame that the
next boundary opens. -/
def execLockstepMismatch (s : State) (l : List SupPart := [.register .events 0 0 1]) : Host.Outcome State Fault Refusal :=
  finish s (
    if running s then
      let t := upsetCopy s l
      if lastOfFrame t then t else passTick t
    else s)

end Sys2Proof.Machine
end

