-- ==== Sys2Proof/Machine/Twi.lean ====
section
/-!
DEFINITION. The commands of the two-wire target (R414 to R438). A command of a data byte pair stands for both bytes and
their acknowledges.
-/
namespace Sys2Proof.Machine

/-! ## Transactions (R418, R421 to R424, R437) -/

/-- The target no longer takes part in the transaction; a chunk transaction before its 56th data byte sets SEQ_ERR
(R437). -/
def twiEnd (s : State) : State :=
  let s := twiShort s
  modTwi (if s.twi.loaded.isSome then dropFetches s else s) fun t => { t with phase := .idle, chunkTx := false, chunk := [] }

/-- A STOP or a timeout ends the transaction, and pending settings come into use (R420, R431). -/
def twiOver (s : State) : State := twiTakeSettings (modTwi (twiEnd s) fun t => { t with engaged := false })

/-- An address byte while the target runs (R418, R426, R430). -/
def twiAddressed (s : State) (a : Nat) (read : Bool) : State :=
  let s := twiEnd s
  if !twiMatches s a || !twiOn s then twiNack s
  else if testing s 1 then twiBusyNack s
  else
    let s := modTwi s fun t => { t with
      phase := if read then .read else .write 0, lastRead := read, lastAddr := a, engaged := true }
    let s := twiAck (occTwi s 1) 1
    if read then twiLoad s else s

/-- An address byte from SLEEP entry to readiness after a wake (R371, R430, R435, R436). -/
def twiAsleep (s : State) (a : Nat) (read : Bool) : State :=
  let wakes := bit (sleepCfg s) 14 && twiConnected s
  if s.twi.ready then twiAddressed s a read
  else if !twiMatches s a || !bit s.twi.set.ctrl 15 then twiNack s
  else if s.sleep.entered && s.sleep.wake.isNone && !wakes then twiNack s
  else
    let s := twiBusyNack s
    if wakes then wakeEvent s .twoWire else s

/-- An address byte on the bus. -/
def twiAddressByte (s : State) (a : Nat) (read : Bool) : State :=
  if !s.pwr.powered || s.pwr.held then s
  else if s.sup.mode = .sleep then twiAsleep s a read
  else twiAddressed s a read

/-- TWI_ADDRESS (R414, R417 to R419, R430). -/
def execTwiAddress (addr : Nat) (read : Bool) (s : State) : Host.Outcome State Fault Refusal :=
  done s fun s => (twiAddressByte s addr read)

/-- WAKE_TWO_WIRE: an address byte in SLEEP (R371, R435). -/
def execWakeTwoWire (addr : Nat) (s : State) : Host.Outcome State Fault Refusal :=
  done s fun s => if s.pwr.powered && !s.pwr.held && decide (s.sup.mode = .sleep) then twiAsleep s addr false else s

/-- The subindex byte is NACKed: an image chunk while the update is busy (R430). -/
def chunkBusy (s : State) (idx sub : Nat) : Bool := decide (idx = 0x1F00 ∧ 0x10 ≤ sub ∧ sub ≤ 0x2B) && s.image.busy

/-- TWI_POINTER_SET: data bytes 1 to 3 of a write transaction (R421, R430, R437). -/
def execTwiPointerSet (b1 b2 b3 : Byte) (s : State) : Host.Outcome State Fault Refusal :=
  done s fun s =>
    if twiOn s && decide (s.twi.phase = .write 0) then
      let idx := b1.toNat * 256 + b2.toNat
      let s := twiAck s 2
      if chunkBusy s idx b3.toNat then modTwi (twiBusyNack s) fun t => { t with phase := .write 2 }
      else
        twiAck (modTwi (dropFetches s) fun t => { t with
          phase := .write 3, index := idx, sub := b3.toNat, word := 0
          chunkTx := decide (idx = 0x1F00 ∧ b3.toNat = 0x10), chunk := [] }) 1
    else s

/-- A data byte of a chunk transaction: the chunk is written with its 56th byte, and a byte after it is not acknowledged
(R389, R430, R437). -/
def chunkByte (s : State) (b : Byte) : State :=
  if 56 ≤ s.twi.chunk.length then twiNack s
  else
    let bs := s.twi.chunk ++ [b]
    let s := twiAck (modTwi s fun t => { t with chunk := bs }) 1
    if bs.length = 56 then twiAdvance 28 (dropFetches (chunkWrite s .twi bs)) else s

/-- Data bytes from data byte 4 on come in. -/
def twiWriting (s : State) : Bool :=
  twiOn s &&
  (match s.twi.phase with
   | .write n => decide (3 ≤ n)
   | _ => false)

/-- TWI_WORD_WRITE: a byte pair from data byte 4 on (R422, R428, R437). -/
def execTwiWordWrite (hi lo : Byte) (s : State) : Host.Outcome State Fault Refusal :=
  done s fun s =>
    if !twiWriting s then s
    else if s.twi.chunkTx then chunkByte (chunkByte s hi) lo
    else
      let w : TwiWrite := { key := keyOf s.twi.index s.twi.sub, wordNo := s.twi.word, val := hi.toNat * 256 + lo.toNat }
      twiAdvance 1 (dropFetches (twiAck (modTwi s fun t => { t with waiting := t.waiting ++ [w] }) 2))

/-- TWI_IMAGE_CHUNK: data bytes of a chunk transaction, 56 for a chunk (R389, R437). -/
def execTwiImageChunk (bs : List Byte) (s : State) : Host.Outcome State Fault Refusal :=
  done s fun s => if twiWriting s && s.twi.chunkTx then each bs s chunkByte else s

/-! ## The store access and the words sent (R423, R425 to R428) -/

/-- TWI_STORE_ACCESS: tick 16 of slot 0, once in a frame (R425). A target that is ready while the device wakes reads the
word that is to be sent next, and writes wait for STANDBY (R436, log 21). -/
def execTwiStoreAccess (s : State) : Host.Outcome State Fault Refusal :=
  done s fun s =>
    if waking s then (if s.twi.ready then twiRead s else s)
    else
      atInstant s (fun s => if accessDue s && decide (s.clk.time % 512 ≤ 16) then some (inFrame s 16) else none) accessTick

/-- The target sends the word that its first bit has fixed, or its high byte alone. The effects of the read happen with
the high byte, and the candidate becomes the shadow, as its access tick has left it; the low byte moves the pointer, and the next word follows where the
controller acknowledges (R423, R426, R427). -/
def twiSend (s : State) (low more : Bool) : State :=
  match s.twi.loaded with
  | none => s
  | some w =>
    let t := (readCore s .twi false s.twi.index s.twi.sub s.twi.word).1
    let t := { t with now := { t.now with samples := s.now.samples } }
    let t := match w.cand with
      | some h => { t with reqT := { t.reqT with shadow := some h } }
      | none => t
    let t := modTwi t fun x => { x with sent := if low then w.val else w.val / 256 * 256, loaded := none }
    if !low then dropFetches t
    else if more then twiLoad (twiAdvance 1 t)
    else twiAdvance 1 t

/-- TWI_WORD_READ: the word at the pointer goes out, or its high byte alone; `more`: the controller acknowledges the low
byte and so asks for the next word (R423). -/
def execTwiWordRead (s : State) (low more : Bool := true) : Host.Outcome State Fault Refusal :=
  done s fun s => if twiOn s && decide (s.twi.phase = .read) then twiSend s low more else s

/-! ## Bus conditions (R420, R432, R433) -/

/-- TWI_STOP (R420, R421, R437). -/
def execTwiStop (s : State) : Host.Outcome State Fault Refusal := done s fun s => if twiRuns s then twiOver s else s

/-- TWI_MIDBYTE_CONDITION: a START or a STOP before a byte's acknowledge (R433). -/
def execTwiMidbyteCondition (start : Bool) (s : State) : Host.Outcome State Fault Refusal :=
  done s fun s =>
    if twiRuns s then
      let t := if twiOn s then occTwi s 5 else s
      if start then twiEnd t else twiOver t
    else s

/-- TWI_TIMEOUT: a line of the target's pins has been low for TIMEOUT ms (R432). -/
def execTwiTimeout (s : State) : Host.Outcome State Fault Refusal :=
  done s fun s =>
    if running s && s.twi.ready && twiConnected s && !testing s 1 then
      let s := modReq (twiOver s) .twi fun q => { q with gather := none }
      let s := modTwi s fun t => { t with timeouts := t.timeouts + 1 }
      raise (occTwi s 4) 48
    else s

end Sys2Proof.Machine
end

