-- ==== Sys2Proof/Machine/Dispatch.lean ====
section
/-!
DEFINITION. The dispatch of the commands to their meanings: one arm per constructor of Instr.
-/
namespace Sys2Proof.Machine

/-- The effect of one command on everything but the queue. -/
def exec (i : Instr) (s : State) : Host.Outcome State Fault Refusal :=
  match i with
  | .powerOn => Sys2Proof.Machine.execPowerOn s
  | .resetRelease addr0 addr1 => Sys2Proof.Machine.execResetRelease addr0 addr1 s
  | .resetNAssert => Sys2Proof.Machine.execResetNAssert s
  | .pllLockLoss => Sys2Proof.Machine.execPllLockLoss s
  | .pllLock addr0 addr1 => Sys2Proof.Machine.execPllLock s addr0 addr1
  | .crystalCheck pass => Sys2Proof.Machine.execCrystalCheck pass s
  | .crystalMonitorGate edges => Sys2Proof.Machine.execCrystalMonitorGate edges s
  | .memoryBist fail => Sys2Proof.Machine.execMemoryBist fail s
  | .logicBist part run copy silent => Sys2Proof.Machine.execLogicBist part run copy s silent
  | .ringScan => Sys2Proof.Machine.execRingScan s
  | .imageLoad => Sys2Proof.Machine.execImageLoad s
  | .bootStepOverrun stepNo => Sys2Proof.Machine.execBootStepOverrun stepNo s
  | .bootComplete => Sys2Proof.Machine.execBootComplete s
  | .frameBoundary pins => Sys2Proof.Machine.execFrameBoundary pins s
  | .conversion slot raws pins => Sys2Proof.Machine.execConversion slot raws pins s
  | .judgeSample slot => Sys2Proof.Machine.execJudgeSample slot s
  | .lockstepMismatch parts => Sys2Proof.Machine.execLockstepMismatch s parts
  | .trigEdge g rising => Sys2Proof.Machine.execTrigEdge g rising s
  | .urgentReq r g entry => Sys2Proof.Machine.execUrgentReq r g entry s
  | .dictionaryWrite r idx sub val => Sys2Proof.Machine.execDictionaryWrite r idx sub val s
  | .commit r => Sys2Proof.Machine.execCommit r s
  | .commitDiscard r => Sys2Proof.Machine.execCommitDiscard r s
  | .word0ShadowRead r idx sub => Sys2Proof.Machine.execWord0ShadowRead r idx sub s
  | .riseRequest r p => Sys2Proof.Machine.execRiseRequest r p s
  | .fallRequest r p => Sys2Proof.Machine.execFallRequest r p s
  | .landingRelease r p => Sys2Proof.Machine.execLandingRelease r p s
  | .podreqEdge k rising => Sys2Proof.Machine.execPodreqEdge k rising s
  | .riseDeadlineExpiry p k => Sys2Proof.Machine.execRiseDeadlineExpiry p k s
  | .landingTimeout p => Sys2Proof.Machine.execLandingTimeout p s
  | .retryCooldownExpiry p => Sys2Proof.Machine.execRetryCooldownExpiry p s
  | .descentLimitExpiry p => Sys2Proof.Machine.execDescentLimitExpiry p s
  | .disLimitExpiry c => Sys2Proof.Machine.execDisLimitExpiry c s
  | .crashCmd r => Sys2Proof.Machine.execCrashCmd r s
  | .clearCrash r => Sys2Proof.Machine.execClearCrash r s
  | .autoClear => Sys2Proof.Machine.execAutoClear s
  | .fltQuiet => Sys2Proof.Machine.execFltQuiet s
  | .fltFall tick => Sys2Proof.Machine.execFltFall tick s
  | .fltPulseEnd len => Sys2Proof.Machine.execFltPulseEnd len s
  | .faultRecognition => Sys2Proof.Machine.execFaultRecognition s
  | .listenWindowExpiry => Sys2Proof.Machine.execListenWindowExpiry s
  | .syncSend => Sys2Proof.Machine.execSyncSend s
  | .heartbeatSend => Sys2Proof.Machine.execHeartbeatSend s
  | .syncLoss => Sys2Proof.Machine.execSyncLoss s
  | .joinWindowExpiry => Sys2Proof.Machine.execJoinWindowExpiry s
  | .partnerLost idx => Sys2Proof.Machine.execPartnerLost idx s
  | .lineCmdStart r => Sys2Proof.Machine.execLineCmdStart r s
  | .lineCmdStop r => Sys2Proof.Machine.execLineCmdStop r s
  | .lineCommandSend => Sys2Proof.Machine.execLineCommandSend s
  | .originatorHoldEnd => Sys2Proof.Machine.execOriginatorHoldEnd s
  | .arbitrationStart => Sys2Proof.Machine.execArbitrationStart s
  | .arbitrationResult others => Sys2Proof.Machine.execArbitrationResult others s
  | .arbitrationAbandon => Sys2Proof.Machine.execArbitrationAbandon s
  | .kernelCommitStart => Sys2Proof.Machine.execKernelCommitStart s
  | .kernelCommitEnd ok => Sys2Proof.Machine.execKernelCommitEnd ok s
  | .huskWriteEnd ok => Sys2Proof.Machine.execHuskWriteEnd ok s
  | .summaryWriteStart => Sys2Proof.Machine.execSummaryWriteStart s
  | .summaryWriteEnd ok => Sys2Proof.Machine.execSummaryWriteEnd ok s
  | .collapse => Sys2Proof.Machine.execCollapse s
  | .holdLow => Sys2Proof.Machine.execHoldLow s
  | .holdRecover => Sys2Proof.Machine.execHoldRecover s
  | .viewSelect r v sel => Sys2Proof.Machine.execViewSelect r v sel s
  | .viewLoadDone r v => Sys2Proof.Machine.execViewLoadDone r v s
  | .marginTarget r c target => Sys2Proof.Machine.execMarginTarget r c target s
  | .marginRelease r c => Sys2Proof.Machine.execMarginRelease r c s
  | .pipReq r c stepVal => Sys2Proof.Machine.execPipReq r c stepVal s
  | .pipBaselineEnd c => Sys2Proof.Machine.execPipBaselineEnd c s
  | .pipCaptureEnd c => Sys2Proof.Machine.execPipCaptureEnd c s
  | .illegal => Sys2Proof.Machine.execIllegal s
  | .nop => Sys2Proof.Machine.execNop s
  | .halt => Sys2Proof.Machine.execHalt s
  | .add rd ra rb => Sys2Proof.Machine.execAdd rd ra rb s
  | .sub rd ra rb => Sys2Proof.Machine.execSub rd ra rb s
  | .and rd ra rb => Sys2Proof.Machine.execAnd rd ra rb s
  | .or rd ra rb => Sys2Proof.Machine.execOr rd ra rb s
  | .xor rd ra rb => Sys2Proof.Machine.execXor rd ra rb s
  | .shl rd ra rb => Sys2Proof.Machine.execShl rd ra rb s
  | .shr rd ra rb => Sys2Proof.Machine.execShr rd ra rb s
  | .asr rd ra rb => Sys2Proof.Machine.execAsr rd ra rb s
  | .mul rd ra rb => Sys2Proof.Machine.execMul rd ra rb s
  | .mulh rd ra rb => Sys2Proof.Machine.execMulh rd ra rb s
  | .cmp ra rb => Sys2Proof.Machine.execCmp ra rb s
  | .ldi rd imm => Sys2Proof.Machine.execLdi rd imm s
  | .addi rd ra imm => Sys2Proof.Machine.execAddi rd ra imm s
  | .andi rd ra imm => Sys2Proof.Machine.execAndi rd ra imm s
  | .ori rd ra imm => Sys2Proof.Machine.execOri rd ra imm s
  | .xori rd ra imm => Sys2Proof.Machine.execXori rd ra imm s
  | .cmpi ra imm => Sys2Proof.Machine.execCmpi ra imm s
  | .shli rd ra imm => Sys2Proof.Machine.execShli rd ra imm s
  | .shri rd ra imm => Sys2Proof.Machine.execShri rd ra imm s
  | .ld rd ra imm => Sys2Proof.Machine.execLd rd ra imm s
  | .st rd ra imm => Sys2Proof.Machine.execSt rd ra imm s
  | .drd rd ra imm => Sys2Proof.Machine.execDrd rd ra imm s
  | .dwr rd ra imm => Sys2Proof.Machine.execDwr rd ra imm s
  | .tact rd ra => Sys2Proof.Machine.execTact rd ra s
  | .b c target => Sys2Proof.Machine.execB c target s
  | .call target => Sys2Proof.Machine.execCall target s
  | .ret => Sys2Proof.Machine.execRet s
  | .jr ra => Sys2Proof.Machine.execJr ra s
  | .fcall => Sys2Proof.Machine.execFcall s
  | .fret => Sys2Proof.Machine.execFret s
  | .waitf => Sys2Proof.Machine.execWaitf s
  | .waitfResume => Sys2Proof.Machine.execWaitfResume s
  | .waite => Sys2Proof.Machine.execWaite s
  | .ei => Sys2Proof.Machine.execEi s
  | .di => Sys2Proof.Machine.execDi s
  | .reti => Sys2Proof.Machine.execReti s
  | .getev rd => Sys2Proof.Machine.execGetev rd s
  | .sigA => Sys2Proof.Machine.execSigA s
  | .sigB => Sys2Proof.Machine.execSigB s
  | .timeFrameLow rd => Sys2Proof.Machine.execTimeFrameLow rd s
  | .timeFrameHigh rd => Sys2Proof.Machine.execTimeFrameHigh rd s
  | .timeTick rd => Sys2Proof.Machine.execTimeTick rd s
  | .interrupt => Sys2Proof.Machine.execInterrupt s
  | .tactFire => Sys2Proof.Machine.execTactFire s
  | .engineStart => Sys2Proof.Machine.execEngineStart s
  | .engineCommandHalt r => Sys2Proof.Machine.execEngineCommandHalt r s
  | .engineCommandStart r => Sys2Proof.Machine.execEngineCommandStart r s
  | .engineProgClear r => Sys2Proof.Machine.execEngineProgClear r s
  | .engineProgDataWrite r w => Sys2Proof.Machine.execEngineProgDataWrite r w s
  | .engineProgDataRead r => Sys2Proof.Machine.execEngineProgDataRead r s
  | .modeReqRise r => Sys2Proof.Machine.execModeReqRise r s
  | .modeReqFall r => Sys2Proof.Machine.execModeReqFall r s
  | .modeReqEnterService r => Sys2Proof.Machine.execModeReqEnterService r s
  | .modeReqLeaveService r => Sys2Proof.Machine.execModeReqLeaveService r s
  | .modeReqEnterSleep r => Sys2Proof.Machine.execModeReqEnterSleep r s
  | .modeReqReset r => Sys2Proof.Machine.execModeReqReset r s
  | .key r => Sys2Proof.Machine.execKey r s
  | .keyExpiry r => Sys2Proof.Machine.execKeyExpiry r s
  | .sleepEntryComplete => Sys2Proof.Machine.execSleepEntryComplete s
  | .wakeTwoWire addr => Sys2Proof.Machine.execWakeTwoWire addr s
  | .wakePinEvent n rising => Sys2Proof.Machine.execWakePinEvent n rising s
  | .wakeTimer => Sys2Proof.Machine.execWakeTimer s
  | .wakeReady => Sys2Proof.Machine.execWakeReady s
  | .supplyLoss which => Sys2Proof.Machine.execSupplyLoss which s
  | .venBankChange g good => Sys2Proof.Machine.execVenBankChange g good s
  | .vioBankChange bank good => Sys2Proof.Machine.execVioBankChange bank good s
  | .supplyMeasure m => Sys2Proof.Machine.execSupplyMeasure m s
  | .supplyWarning bit => Sys2Proof.Machine.execSupplyWarning bit s
  | .supplyWarningClear bit => Sys2Proof.Machine.execSupplyWarningClear bit s
  | .tempWarning => Sys2Proof.Machine.execTempWarning s
  | .tempWarningClear => Sys2Proof.Machine.execTempWarningClear s
  | .thermalShutdown => Sys2Proof.Machine.execThermalShutdown s
  | .imageBegin r => Sys2Proof.Machine.execImageBegin r s
  | .imageChunk r bytes => Sys2Proof.Machine.execImageChunk r bytes s
  | .imageChunkDone ok => Sys2Proof.Machine.execImageChunkDone ok s
  | .imageVerify r => Sys2Proof.Machine.execImageVerify r s
  | .imageVerifyDone => Sys2Proof.Machine.execImageVerifyDone s
  | .imageActivate r => Sys2Proof.Machine.execImageActivate r s
  | .imageAbort r => Sys2Proof.Machine.execImageAbort r s
  | .imageKeyWrite r keyVal => Sys2Proof.Machine.execImageKeyWrite r keyVal s
  | .authRequiredSet r => Sys2Proof.Machine.execAuthRequiredSet r s
  | .canRequestReceived p node payload => Sys2Proof.Machine.execCanRequestReceived p node payload s
  | .odpServe => Sys2Proof.Machine.execOdpServe s
  | .canFrameSent p => Sys2Proof.Machine.execCanFrameSent p s
  | .canHeartbeat p => Sys2Proof.Machine.execCanHeartbeat p s
  | .eventFrameAssemble p => Sys2Proof.Machine.execEventFrameAssemble p s
  | .publishAssemble m => Sys2Proof.Machine.execPublishAssemble m s
  | .canErrorStateChange p es tec rxe => Sys2Proof.Machine.execCanErrorStateChange p es tec rxe s
  | .twiAddress addr read => Sys2Proof.Machine.execTwiAddress addr read s
  | .twiPointerSet b1 b2 b3 => Sys2Proof.Machine.execTwiPointerSet b1 b2 b3 s
  | .twiWordWrite hi lo => Sys2Proof.Machine.execTwiWordWrite hi lo s
  | .twiWordRead low more => Sys2Proof.Machine.execTwiWordRead s low more
  | .twiStoreAccess => Sys2Proof.Machine.execTwiStoreAccess s
  | .twiStop => Sys2Proof.Machine.execTwiStop s
  | .twiMidbyteCondition start => Sys2Proof.Machine.execTwiMidbyteCondition start s
  | .twiTimeout => Sys2Proof.Machine.execTwiTimeout s
  | .twiImageChunk bytes => Sys2Proof.Machine.execTwiImageChunk bytes s
  | .pinOutWrite r n val => Sys2Proof.Machine.execPinOutWrite r n val s
  | .pinLockSequence r => Sys2Proof.Machine.execPinLockSequence r s
  | .pinEventEdge n rising => Sys2Proof.Machine.execPinEventEdge n rising s
  | .pinEventDebounced n => Sys2Proof.Machine.execPinEventDebounced n s
  | .eventClear r mask => Sys2Proof.Machine.execEventClear r mask s
  | .evoPulseEnd k => Sys2Proof.Machine.execEvoPulseEnd k s
  | .counterClearOvf r k => Sys2Proof.Machine.execCounterClearOvf r k s
  | .counterZero r k => Sys2Proof.Machine.execCounterZero r k s
  | .counterOverflow k => Sys2Proof.Machine.execCounterOverflow k s
  | .counterDump => Sys2Proof.Machine.execCounterDump s
  | .bistSchedulingPoint => Sys2Proof.Machine.execBistSchedulingPoint s
  | .bistRunStart busy => Sys2Proof.Machine.execBistRunStart s busy
  | .bistSkip => Sys2Proof.Machine.execBistSkip s
  | .bistRunEnd run => Sys2Proof.Machine.execBistRunEnd run s
  | .testNow r val => Sys2Proof.Machine.execTestNow r val s
  | .powerLoss => Sys2Proof.Machine.execPowerLoss s
  | .twoWireTargetReady => Sys2Proof.Machine.execTwoWireTargetReady s
  | .traceRecordSent => Sys2Proof.Machine.execTraceRecordSent s

end Sys2Proof.Machine
end

