-- ==== Sys2Proof/Machine/EngineWords.lean ====
section
/-!
DEFINITION. The program words of the engine's instructions, written from the forms of R317 and the opcodes of R318 and
R319: the other direction of instrOf.
-/
namespace Sys2Proof.Machine

/-- Form RR. -/
def wordRR (op : Nat) (d a b : Fin 16) : InstrWord :=
  BitVec.ofNat 32 (op * 2 ^ 26 + d.val * 2 ^ 22 + a.val * 2 ^ 18 + b.val * 2 ^ 14)

/-- Form RI. -/
def wordRI (op : Nat) (d a : Fin 16) (v : Word) : InstrWord :=
  BitVec.ofNat 32 (op * 2 ^ 26 + d.val * 2 ^ 22 + a.val * 2 ^ 18 + v.toNat)

/-- Form J. -/
def wordJ (op cond : Nat) (t : PAddr) : InstrWord := BitVec.ofNat 32 (op * 2 ^ 26 + cond * 2 ^ 22 + t.toNat)

/-- The code of a branch condition (R319). -/
def condCode : Cond → Nat
  | .al => 0
  | .eq => 1
  | .ne => 2
  | .lt => 3
  | .ge => 4
  | .lo => 5
  | .hs => 6
  | .mi => 7
  | .pl => 8

/-- The program word of an engine instruction; none for every other command and for ILLEGAL, which no one word spells. -/
def engineWord (i : Instr) : Option InstrWord :=
  match i with
  | .nop => some (wordJ 0x01 0 0)
  | .halt => some (wordJ 0x02 0 0)
  | .add d a b => some (wordRR 0x04 d a b)
  | .sub d a b => some (wordRR 0x05 d a b)
  | .and d a b => some (wordRR 0x06 d a b)
  | .or d a b => some (wordRR 0x07 d a b)
  | .xor d a b => some (wordRR 0x08 d a b)
  | .shl d a b => some (wordRR 0x09 d a b)
  | .shr d a b => some (wordRR 0x0A d a b)
  | .asr d a b => some (wordRR 0x0B d a b)
  | .mul d a b => some (wordRR 0x0C d a b)
  | .mulh d a b => some (wordRR 0x0D d a b)
  | .cmp a b => some (wordRR 0x0E 0 a b)
  | .ldi d v => some (wordRI 0x10 d 0 v)
  | .addi d a v => some (wordRI 0x11 d a v)
  | .andi d a v => some (wordRI 0x12 d a v)
  | .ori d a v => some (wordRI 0x13 d a v)
  | .xori d a v => some (wordRI 0x14 d a v)
  | .cmpi a v => some (wordRI 0x15 0 a v)
  | .shli d a n => some (wordRI 0x16 d a (n.zeroExtend 16))
  | .shri d a n => some (wordRI 0x17 d a (n.zeroExtend 16))
  | .ld d a v => some (wordRI 0x18 d a v)
  | .st d a v => some (wordRI 0x19 d a v)
  | .drd d a v => some (wordRI 0x1C d a v)
  | .dwr d a v => some (wordRI 0x1D d a v)
  | .tact d a => some (wordRR 0x1E d a 0)
  | .b c t => some (wordJ 0x20 (condCode c) t)
  | .call t => some (wordJ 0x21 0 t)
  | .ret => some (wordJ 0x22 0 0)
  | .jr a => some (wordRR 0x23 0 a 0)
  | .fcall => some (wordJ 0x24 0 0)
  | .fret => some (wordJ 0x25 0 0)
  | .waitf => some (wordJ 0x28 0 0)
  | .waite => some (wordJ 0x29 0 0)
  | .ei => some (wordJ 0x2A 0 0)
  | .di => some (wordJ 0x2B 0 0)
  | .reti => some (wordJ 0x2C 0 0)
  | .getev d => some (wordRR 0x2D d 0 0)
  | .sigA => some (wordRI 0x2E 0 0 0)
  | .sigB => some (wordRI 0x2E 0 0 1)
  | .timeFrameLow d => some (wordRI 0x2F d 0 0)
  | .timeFrameHigh d => some (wordRI 0x2F d 0 1)
  | .timeTick d => some (wordRI 0x2F d 0 2)
  | _ => none

end Sys2Proof.Machine
end

