-- ==== Sys2Proof/Safety.lean ====
section
/-!
DEFINITION. The terms in which claims speak: a state between commands, the part of a state that raising events and
counting do not touch, a write that the store accepts, and an engine instruction that completes.
-/
namespace Sys2Proof.Machine

/-! ## Between commands -/

/-- No event or crash cause of a command waits, and a capture whose crash tick lasts holds what the router and the
counters have made of that tick so far (R216, R264, R272, R463). -/
def quiet (s : State) : Prop := s.evq = [] ∧ s.causes = [] ∧ captureTick s = s

/-- A capture without what the router and the counters fill in. -/
def bareCapture (c : Capture) : Capture := { c with fresh := false, events := [], counters := [] }

/-- The state without what raising an event, making a stream record and counting can change: event status, pending
event bits, event history, EVO pulses, counters, the gallery and the notes of the present tick, without the captures of the
balls, which every CLK_BUS edge takes anew, and without the second copy of SUPERVISE, which does what the first one does (R29,
R441, R463, R472, R484). Two states with the same value of `unrouted` agree in every other register, buffer and memory, the NVM
and the queue included. -/
def unrouted (s : State) : State := { s with
  sup := { s.sup with evStatus := 0 }
  eng := { s.eng with pend := 0 }
  canA := { s.canA with pend := [], merged := 0 }
  canB := { s.canB with pend := [], merged := 0 }
  recs := { s.recs with history := [], cap := s.recs.cap.map bareCapture }
  pins := { s.pins with evoPulse := [], driven := [] }
  gal := Gallery.reset
  ctrs := []
  evq := []
  now := Now.reset
  causes := []
  twin := none }

/-- The word of an arbitration runs (R246). -/
def arbRuns (l : Line) : Bool :=
  match l.arb with
  | .running _ => true
  | _ => false

/-- The line unit does nothing by itself in the present tick and as the next one begins: the FLT ball shows the taken
level, no arbitration runs, no FAULT is to be recognised, no window of the line cycle passes, and the cycle goes on. -/
def lineRests (s : State) : Prop :=
  let l := s.sup.line
  ballLow s = l.low ∧ l.wait = 0 ∧ arbRuns l = false ∧ (l.low = true → l.fault = false → s.clk.time < l.fall + 127) ∧
  (isSynced l = true → ∀ i, i < 15 → bit l.judged i = true ∨ s.clk.time < windowAt l i) ∧
  (l.role ≠ .stopped → s.clk.time + 1 < l.base + 3200)

/-- No read of the present tick waits for its end, and the two-wire target has no access in the next tick. -/
def accessRests (s : State) : Prop := s.now.samples = [] ∧ (s.clk.time % 512 = 15 → accessDue s = false)

/-- Nothing happens by itself in the present tick and as the next one begins: the engine, the timed actions, the request
server, the two-wire target and the line unit are at rest. -/
def tickRests (s : State) : Prop := still s = true ∧ accessRests s ∧ lineRests s

/-- EVENT_STATUS shows the event (R463). -/
def shows (s : State) (e : Nat) : Prop := s.sup.evStatus.testBit e = true

/-! ## Writes (R14, R15, R57, R87) -/

/-- The word of the present tick at the shared store port is free for the requester, of which no access waits (R80). -/
def turn (s : State) (r : Requester) : Bool :=
  portReady s && (if isHost r then s.hostQ.isEmpty else s.eng.rows.isEmpty)

/-- A write of the field takes one word at the port: the field has one, or the two-wire target writes it (R80, R425). -/
def oneWord (r : Requester) (idx sub : Nat) : Bool := decide (r = .twi ∨ widthOf idx sub = 1)

/-- A write of the field by the requester passes, in this tick, the checks of rights, mode and range. -/
def admits (s : State) (r : Requester) (idx sub v : Nat) : Bool :=
  mayAccess s r &&
  match objOf idx, fieldOf idx sub with
  | some o, some f =>
    writeAllowed s r (!isHost r && s.eng.field) o f sub && inRange false o sub v && decide (v < 65536 ^ f.words)
  | _, _ => false

/-- A write of the field by the requester passes its checks in the present tick, whose word it is: the port is free for it,
the store counts the words that the field has (in BOOT-HOLD, those of a field that it can reach), and admits the write. -/
def canWrite (s : State) (r : Requester) (idx sub v : Nat) : Bool :=
  turn s r && oneWord r idx sub && decide (widthNow s idx sub = widthOf idx sub) && admits (served s r) r idx sub v

/-- What every write leaves of the requester's key sequence, lock sequence and gather: nothing (R77, R345, R453). -/
def afterWrite (s : State) (r : Requester) : State :=
  modReq s r fun q => { q with key := .idle, lockHalf := false, gather := none }

/-! ## The sequence engine -/

/-- The engine executes an instruction at a PC of its region; none of its commands waits for the store port, no interrupt
is to be recognised before it, and no recognised one awaits its end (R311, R327, R331, R332). -/
def canExecute (s : State) : Prop :=
  executing s = true ∧ s.eng.rows = [] ∧ inRegion s.eng s.eng.pc = true ∧ s.eng.skid = none ∧ irqDue s = false

/-- The engine after an instruction: its PC and what the instruction changes. -/
def engineAt (s : State) (pc : PAddr) (f : Eng → Eng) : State :=
  { s with eng := { f { s.eng with busy := 0, read := none } with pc := pc } }

/-- The engine with its four flags given. -/
def withFlags (e : Eng) (z n c v : Bool) : Eng := { e with z := z, n := n, c := c, v := v }

/-! ## Reset (R48, R279, R281, R386) -/

/-- The device in reset with a power state: every field at its reset value but the NVM, the key slot and AUTH_CTRL, the
bank monitors, the ADDR pins and the PLL lock; WAKE_INFO stays for a reset by a wake (R371). The model's own count of
free values and the queue stay too. -/
def inReset (s : State) (p : Power) : State := { State.reset with
  pwr := p
  recs := Rec.reset s.recs.nvm
  image := Image.reset s.image.keySlot s.image.keySet s.image.authReq
  sup := { Sup.reset with supply := { Supply.reset with banks := s.sup.supply.banks } }
  sleep := { Sleep.reset with wakeInfo := if p.causes.testBit 8 then s.sleep.wakeInfo else 0 }
  boot := Boot.reset s.boot.addrSel
  clk := { Clock.reset with pllLocked := s.clk.pllLocked }
  fresh := s.fresh
  pending := s.pending }

/-- The power state after a source k of RESET_CAUSE begins to hold the reset (R358). -/
def heldBy (p : Power) (k : Nat) : Power := { p with
  held := true, srcs := p.srcs ||| 2 ^ k, causes := if p.held then p.causes ||| 2 ^ k else 2 ^ k }

/-- No kernel, husk, summary or image write is in progress, and none waits. -/
def nvmAtRest (s : State) : Prop :=
  (s.recs.commit = .idle ∨ s.recs.commit = .ended) ∧ s.recs.huskBusy = none ∧ s.recs.sumBusy = none ∧ s.image.chunk = none

/-- No committed set, accepted request, crash cause or discharge watch awaits the boundary, every set has been latched, and
no access awaits the store port (R51, R62, R80, R203, R403). -/
def nothingAwaits (s : State) : Prop :=
  s.causes = [] ∧ s.odp.job = none ∧ s.hostQ = [] ∧ s.accepted = [] ∧ (∀ r, (req s r).sets = []) ∧ s.latched = s.dict ∧
  s.sup.crash.lockNext = false ∧ s.sup.crash.clearing = false ∧ ∀ c, (dis s c).opening = false

/-! ## Invariants of the stored memory and of the action queue -/

/-- The NVM has its canonical form inside 1 MiB, and what waits to be written lies inside its ring or bank (R255, R262,
R265, R272, R274, R389). -/
def nvmKept (s : State) : Prop :=
  nvmWf s.recs.nvm = true ∧ s.recs.kernel.next < 512 ∧ s.recs.husk.next < 64 ∧ s.recs.summary.next < 2048 ∧
  s.recs.job.length ≤ 256 ∧ s.recs.history.length ≤ 32 ∧
  (∀ c, s.recs.cap = some c → c.huskSlot < 64 ∧ c.events.length ≤ 32) ∧
  (∀ c, s.image.chunk = some c → c.addr + c.bytes.length ≤ 0x40000) ∧
  (s.image.openUpd = true → s.image.updLen ≤ 0x20000)

/-- The keys of a table rise strictly. -/
def keysRise {α : Type} (m : Map α) : Prop := m.Pairwise fun a b => a.1 < b.1

/-- The action queue holds at most its 96 entries (R178), and no key stands twice in the tables that hold them. -/
def queueKept (s : State) : Prop :=
  aqHeld s ≤ 96 ∧ keysRise s.sup.pods ∧ keysRise s.sup.convs ∧ keysRise s.sup.margins ∧ ∀ p, keysRise (pod s p).ents

/-! ## Boundaries (R51) -/

/-- No pod in use is on its way, no rail waits to be dealt with, and no margin is active: the pod unit and the margin
servo have nothing to do at the next boundary. -/
def calm (s : State) : Prop :=
  nothingAwaits s ∧ s.sup.margins = [] ∧ (∀ c, (chan s c).chatFail = none ∧ (chan s c).descFault = false) ∧
  ∀ p, (pod s p).inUse = true → (pod s p).st ≠ .rising ∧ (pod s p).st ≠ .falling ∧ (pod s p).failPend = false ∧
    (pod s p).held = false ∧ (pod s p).queueWait = false ∧ ∀ k, (ent s p k).wantsQ = false

/-- Pod 0 is the one pod in use, its flight has one entry, and apart from it and from requests nothing is on its way. -/
def singlePod (s : State) (entry : Nat) : Prop :=
  nothingAwaits { s with accepted := [] } ∧ s.sup.margins = [] ∧ s.sup.disOut = [] ∧ s.sup.dis = [] ∧
  (∀ c, (chan s c).chatFail = none ∧ (chan s c).descFault = false) ∧ (∀ c, c < 96 → disEn (disCfg s c) = false) ∧
  (∀ p, (pod s p).inUse = decide (p = 0)) ∧ (pod s 0).parent = none ∧ (pod s 0).failPend = false ∧
  (pod s 0).frozen = false ∧ (pod s 0).latched = false ∧ (∀ k, (ent s 0 k).wantsQ = false) ∧
  flightCount s 0 = 1 ∧ entryOf s 0 0 = entry ∧ s.sup.crash.latched = false

/-- Nothing but pod 0 of such a device is on its way, and no rail has become good. -/
def lonePod (s : State) (entry : Nat) : Prop :=
  singlePod s entry ∧ s.accepted = [] ∧ ∀ c, (chan s c).good = none

end Sys2Proof.Machine
end

