-- ==== Sys2Proof/Certificates/Slice0/Obligations.lean ====
section
/-!
DEFINITION. The statements of this model: what its commands do, as the rules of spec/ give it. A command that stands for
an instant is stated on `advance s tick`, the state with the ticks up to that instant passed: there the engine has run
its own program (R335) and the line unit has taken its samples (R229), and where nothing happens by itself it is the state
with that time (`EveryCommandCompletes`). A write of a requester is stated on `served s r`, the present
tick in which the store port serves its last word (R80); it is `s`, but for counts. A command leaves the queue as it was,
which `pending := s.pending` says of such a state.
-/
open Sys2Proof Sys2Proof.Machine

/-! ## The block -/

/-- The block takes its commands first in, first out: a step runs the command at the front of the queue on the state
with the queue's rest. -/
def Obligations.StepRunsTheFrontCommand : Prop := ∀ (c : Instr) (s : State) (rest : List Instr),
  s.pending = c :: rest → step s = exec c { s with pending := rest }

/-- R463, R216: every command answers a next state in which each of its events has been handled and no crash cause
waits, and leaves the queue alone. With no command waiting one tick passes (this model's choice, log 2), but no frame
ends; in a tick in which nothing happens by itself (no program runs or waits, no timed action is held, no request is in
service, the two-wire target and the line unit have nothing to do) it changes nothing but the device time and counts. A
device that is not running stays as it is. -/
def Obligations.EveryCommandCompletes : Prop :=
  (∀ (c : Instr) (s : State), ∃ t, exec c s = .next t ∧ quiet t ∧ t.pending = s.pending) ∧
  ∀ s : State, s.pending = [] →
    (running s = false ∨ s.clk.time % 512 = 511 → step s = .next s) ∧
    (running s = true → s.clk.time % 512 ≠ 511 → tickRests s → ∃ t, step s = .next t ∧
      unrouted t = unrouted { s with clk := { s.clk with time := s.clk.time + 1 } })

/-- R463, R216: an invariant of every step: between commands no event, crash cause or fresh capture waits, and a step
takes one command off the queue and adds none. -/
def Obligations.NothingWaitsBetweenSteps : Prop := ∀ s t : State, quiet s → step s = .next t →
  quiet t ∧ t.pending = s.pending.tail

/-- R255, R262, R265, R272, R274, R389: an invariant of every step: the NVM keeps its canonical form and its 1 MiB, and
no record and no image chunk is written outside its ring or bank. -/
def Obligations.StepsKeepTheNvmForm : Prop := ∀ s t : State, nvmKept s → step s = .next t → nvmKept t

/-- R178, R179: an invariant of every step: the action queue never holds more than its 96 entries. -/
def Obligations.StepsKeepTheActionQueue : Prop := ∀ s t : State, queueKept s → step s = .next t → queueKept t

/-- R48, R72, R114, R286, R316, R332, R338, R341, R355, R356, R358, R424: what the spec gives for the state after a
reset by power-on, as the fields show it; and the invariants of every step hold there. -/
def Obligations.ResetShowsTheGivenValues : Prop :=
  let s := State.reset
  quiet s ∧ nvmKept s ∧ queueKept s ∧ running s = true ∧ s.sup.mode = .boot ∧ s.clk.time = 0 ∧ s.pwr.resetCause = 1 ∧
  s.eng.st = .halted ∧ s.eng.ie = false ∧ (∀ n, reg s.eng n = 0) ∧ s.clk.crystal = false ∧
  (∀ g, (conv s g).expA = 27307 ∧ (conv s g).expB = 13653) ∧
  s.sup.supply.vauxMin = 0xFFFF ∧ s.sup.supply.tjMax = 0xFE70 ∧ s.sup.evStatus = 0 ∧
  (∀ r, (req s r).progAddr = 0x1000 ∧ (req s r).viewK.select = 0x8000 ∧ (req s r).viewK.data = []) ∧
  s.twi.index = 0x0100 ∧ s.twi.sub = 0 ∧ s.twi.word = 0 ∧ s.pending = [] ∧ (∀ c, (chan s c).enable = false) ∧
  (∀ n, asserted s n = false) ∧ (∀ k, (get s.ctrs Ctr.reset k).count = 0)

/-! ## Engine words -/

/-- R317, R318, R319: the program word of an engine instruction decodes to it, with every operand at every value, and
a word that is not ILLEGAL is the word of the instruction it decodes to: no reserved bit is free and no two words
spell one instruction. -/
def Obligations.EngineWordsRoundTrip : Prop :=
  (∀ (i : Instr) (w : InstrWord), engineWord i = some w → instrOf w = i) ∧
  (∀ w : InstrWord, instrOf w ≠ .illegal → engineWord (instrOf w) = some w)

/-! ## The sequence engine -/

/-- R318: ADD, SUB, ADDI, CMP and CMPI set all four flags; C is the carry out of bit 15, after a subtraction 1 when no
borrow occurred, and V is signed overflow. CMP and CMPI write no register. Everything else stays (the unrouted parts
agree), but for the PC and the counters.

R318: the logic, multiply and load-immediate instructions write rd, set Z and N from the result and leave C and V;
MULH takes bits 31 to 16 of the signed product. The shifts do the same; the count is the low four bits.

R311, R318: LD and ST at an address inside the data region of the privilege. LD sets Z and N; ST stores one word,
leaves the flags and every other word of the data memory. -/
def Obligations.EngineArithmeticAndMemory : Prop := (
  ∀ (s : State) (rd ra rb : Fin 16) (imm : Word), canExecute s →
  let sum (a b : Word) (e : Eng) : Eng := withFlags e (a + b == 0) (decide ((a + b).toInt < 0))
    (decide (65536 ≤ a.toNat + b.toNat)) (decide ((a + b).toInt ≠ a.toInt + b.toInt))
  let diff (a b : Word) (e : Eng) : Eng := withFlags e (a == b) (decide ((a - b).toInt < 0))
    (decide (b.toNat ≤ a.toNat)) (decide ((a - b).toInt ≠ a.toInt - b.toInt))
  let a := reg s.eng ra
  let b := reg s.eng rb
  let next := s.eng.pc + 1
  (∃ t, exec (.add rd ra rb) s = .next t ∧
    unrouted t = unrouted (engineAt s next fun e => setReg (sum a b e) rd (a + b))) ∧
  (∃ t, exec (.addi rd ra imm) s = .next t ∧
    unrouted t = unrouted (engineAt s next fun e => setReg (sum a imm e) rd (a + imm))) ∧
  (∃ t, exec (.sub rd ra rb) s = .next t ∧
    unrouted t = unrouted (engineAt s next fun e => setReg (diff a b e) rd (a - b))) ∧
  (∃ t, exec (.cmp ra rb) s = .next t ∧ unrouted t = unrouted (engineAt s next (diff a b))) ∧
  (∃ t, exec (.cmpi ra imm) s = .next t ∧ unrouted t = unrouted (engineAt s next (diff a imm)))) ∧ (
  ∀ (s : State) (rd ra rb : Fin 16) (imm : Word), canExecute s →
  let write (v : Word) : State := engineAt s (s.eng.pc + 1) fun e =>
    setReg (withFlags e (v == 0) (decide (v.toInt < 0)) e.c e.v) rd v
  let a := reg s.eng ra
  let b := reg s.eng rb
  (∃ t, exec (.and rd ra rb) s = .next t ∧ unrouted t = unrouted (write (a &&& b))) ∧
  (∃ t, exec (.or rd ra rb) s = .next t ∧ unrouted t = unrouted (write (a ||| b))) ∧
  (∃ t, exec (.xor rd ra rb) s = .next t ∧ unrouted t = unrouted (write (a ^^^ b))) ∧
  (∃ t, exec (.andi rd ra imm) s = .next t ∧ unrouted t = unrouted (write (a &&& imm))) ∧
  (∃ t, exec (.ori rd ra imm) s = .next t ∧ unrouted t = unrouted (write (a ||| imm))) ∧
  (∃ t, exec (.xori rd ra imm) s = .next t ∧ unrouted t = unrouted (write (a ^^^ imm))) ∧
  (∃ t, exec (.ldi rd imm) s = .next t ∧ unrouted t = unrouted (write imm)) ∧
  (∃ t, exec (.mul rd ra rb) s = .next t ∧ unrouted t = unrouted (write (BitVec.ofNat 16 (a.toNat * b.toNat)))) ∧
  (∃ t, exec (.mulh rd ra rb) s = .next t ∧
    unrouted t = unrouted (write ((a.signExtend 32 * b.signExtend 32).extractLsb' 16 16)))) ∧ (
  ∀ (s : State) (rd ra rb : Fin 16) (k : BitVec 4), canExecute s →
  let write (v : Word) : State := engineAt s (s.eng.pc + 1) fun e =>
    setReg (withFlags e (v == 0) (decide (v.toInt < 0)) e.c e.v) rd v
  let a := reg s.eng ra
  let n := (reg s.eng rb).toNat % 16
  (∃ t, exec (.shl rd ra rb) s = .next t ∧ unrouted t = unrouted (write (BitVec.ofNat 16 (a.toNat * 2 ^ n)))) ∧
  (∃ t, exec (.shr rd ra rb) s = .next t ∧ unrouted t = unrouted (write (BitVec.ofNat 16 (a.toNat / 2 ^ n)))) ∧
  (∃ t, exec (.asr rd ra rb) s = .next t ∧ unrouted t = unrouted (write (BitVec.ofInt 16 (a.toInt / 2 ^ n)))) ∧
  (∃ t, exec (.shli rd ra k) s = .next t ∧ unrouted t = unrouted (write (BitVec.ofNat 16 (a.toNat * 2 ^ k.toNat)))) ∧
  (∃ t, exec (.shri rd ra k) s = .next t ∧ unrouted t = unrouted (write (BitVec.ofNat 16 (a.toNat / 2 ^ k.toNat))))) ∧ (
  ∀ (s : State) (rd ra : Fin 16) (imm : Word), canExecute s →
  let a := ((reg s.eng ra).toNat + imm.toNat) % 65536
  ((s.eng.field = false ∧ a < 0x200) ∨ (s.eng.field = true ∧ 0x200 ≤ a ∧ a < 0x400)) →
  (∃ t, exec (.ld rd ra imm) s = .next t ∧
    let v := dataWord s.eng a
    unrouted t = unrouted (engineAt s (s.eng.pc + 1) fun e =>
      setReg (withFlags e (v == 0) (decide (v.toInt < 0)) e.c e.v) rd v)) ∧
  (∃ t, exec (.st rd ra imm) s = .next t ∧
    dataWord t.eng a = reg s.eng rd ∧
    (∀ b, b ≠ a → dataWord t.eng b = dataWord s.eng b) ∧
    unrouted t = unrouted (engineAt s (s.eng.pc + 1) fun e => { e with data := t.eng.data })))

/-- R331, causes 1, 2 and 6 with integrator privilege: the instruction has no effect, the engine is TRAPPED with the
cause and the PC of the instruction, its timed actions are discarded (R326) and event 50 shows.

R322: a trap in a field call ends the call: integrator privilege, the return stack back at depth FSD, C set, W0 the
cause, the PC at FRA; the timed actions posted with field privilege are discarded (R326) and event 50 shows. -/
def Obligations.EngineTraps : Prop := (
  ∀ (s : State) (rd ra : Fin 16) (imm : Word), canExecute s →
  s.eng.field = false →
  let traps (i : Instr) (cause : Nat) : Prop := ∃ t, exec i s = .next t ∧ shows t 50 ∧
    unrouted t = unrouted { s with eng := { s.eng with
      st := .trapped, busy := 0, stall := 0, skid := none, read := none, rows := [], rowWait := 0, tactWait := false
      trapInfo := cause, trapPc := s.eng.pc
      tacts := [], tactDisc := s.eng.tactDisc + s.eng.tacts.length } }
  traps .illegal 1 ∧ traps .fret 6 ∧
  (0x200 ≤ ((reg s.eng ra).toNat + imm.toNat) % 65536 → traps (.ld rd ra imm) 2 ∧ traps (.st rd ra imm) 2) ∧
  ((∃ k, k < 4 ∧ 0x200 ≤ ((reg s.eng ra).toNat + k) % 65536) → traps (.tact rd ra) 2) ∧
  (s.eng.inHandler = false → traps .reti 6 ∧ traps (.getev rd) 6)) ∧ (
  ∀ (s : State) (i : Instr) (cause : Nat) (rd ra : Fin 16) (imm : Word),
  canExecute s → s.eng.field = true → s.eng.fieldStart = false →
  (i = .illegal ∧ cause = 1 ∨ (i = .ei ∨ i = .di ∨ i = .reti ∨ i = .getev rd ∨ i = .fcall) ∧ cause = 6 ∨
    (i = .ld rd ra imm ∨ i = .st rd ra imm) ∧ cause = 2 ∧
      ¬ (0x200 ≤ ((reg s.eng ra).toNat + imm.toNat) % 65536 ∧ ((reg s.eng ra).toNat + imm.toNat) % 65536 < 0x400) ∨
    i = .ret ∧ cause = 5 ∧ s.eng.stack.length ≤ s.eng.fsd) →
  ∃ t, exec i s = .next t ∧ shows t 50 ∧ reg t.eng 0 = BitVec.ofNat 16 cause ∧
    (∀ n : Fin 16, n ≠ 0 → reg t.eng n = reg s.eng n) ∧
    t.eng.tacts = s.eng.tacts.filter (fun a => !a.field) ∧
    t.eng.tactDisc + t.eng.tacts.length = s.eng.tactDisc + s.eng.tacts.length ∧
    unrouted t = unrouted { s with eng := { s.eng with
      field := false, c := true, pc := s.eng.fra, busy := 0, stall := 0, skid := none, read := none
      stack := s.eng.stack.drop (s.eng.stack.length - s.eng.fsd)
      trapInfo := 0x8000 + cause, trapPc := s.eng.pc
      w := t.eng.w, tacts := t.eng.tacts, tactDisc := t.eng.tactDisc, tactWait := t.eng.tactWait } })

/-- R318, R319, R331: B, CALL, RET and JR inside the region of the privilege, for each condition.

R322: FCALL with integrator privilege saves FRA and FSD and enters 0x1000 with field privilege; FRET of a field
call cuts the return stack back, clears C and returns to FRA with integrator privilege.

R322: with field privilege that a start at 0x1000 has given, no field call is in progress: a FRET traps with cause 6, and
so does every other trap of field code there, whatever its condition (log 14); the engine is TRAPPED, its timed actions are
discarded and TRAP_INFO shows field privilege. -/
def Obligations.EngineBranchesAndCalls : Prop := (
  ∀ (s : State) (c : Cond) (target : PAddr) (ra : Fin 16), canExecute s →
  let e := s.eng
  let holds : Bool := match c with
    | .al => true
    | .eq => e.z
    | .ne => !e.z
    | .lt => e.n != e.v
    | .ge => e.n == e.v
    | .lo => !e.c
    | .hs => e.c
    | .mi => e.n
    | .pl => !e.n
  let inside (a : PAddr) : Prop := (0x1000 ≤ a.toNat ↔ e.field = true)
  (holds = false → ∃ t, exec (.b c target) s = .next t ∧ unrouted t = unrouted (engineAt s (e.pc + 1) id)) ∧
  (inside target →
    (holds = true → ∃ t, exec (.b c target) s = .next t ∧ unrouted t = unrouted (engineAt s target id)) ∧
    (e.stack.length < 16 → ∃ t, exec (.call target) s = .next t ∧
      unrouted t = unrouted (engineAt s target fun x => { x with stack := (e.pc + 1) :: e.stack }))) ∧
  (∀ a r, e.stack = a :: r → inside a → (e.field = true → e.fieldStart = false → e.fsd ≤ r.length) →
    ∃ t, exec .ret s = .next t ∧ unrouted t = unrouted (engineAt s a fun x => { x with stack := r })) ∧
  ((reg e ra).toNat < 0x2000 → inside (BitVec.ofNat 13 (reg e ra).toNat) →
    ∃ t, exec (.jr ra) s = .next t ∧ unrouted t = unrouted (engineAt s (BitVec.ofNat 13 (reg e ra).toNat) id))) ∧ (
  ∀ s : State, canExecute s →
  (s.eng.field = false → ∃ t, exec .fcall s = .next t ∧ unrouted t = unrouted (engineAt s 0x1000 fun e =>
    { e with fra := s.eng.pc + 1, fsd := s.eng.stack.length, field := true })) ∧
  (s.eng.field = true → s.eng.fieldStart = false → ∃ t, exec .fret s = .next t ∧
    unrouted t = unrouted (engineAt s s.eng.fra fun e => { e with
      stack := s.eng.stack.drop (s.eng.stack.length - s.eng.fsd), c := false, field := false }))) ∧ (
  ∀ (s : State) (i : Instr) (target : PAddr) (rd ra : Fin 16) (imm : Word), canExecute s →
  s.eng.field = true → s.eng.fieldStart = true →
  let a := ((reg s.eng ra).toNat + imm.toNat) % 65536
  (i ∈ [.fret, .illegal, .ei, .di, .reti, .getev rd, .fcall] ∨
    (i = .ld rd ra imm ∨ i = .st rd ra imm) ∧ ¬ (0x200 ≤ a ∧ a < 0x400) ∨
    (i = .b .al target ∨ i = .call target) ∧ target.toNat < 0x1000 ∨
    i = .jr ra ∧ ((reg s.eng ra).toNat < 0x1000 ∨ 0x2000 ≤ (reg s.eng ra).toNat) ∨
    i = .call target ∧ 16 ≤ s.eng.stack.length ∨ i = .ret ∧ s.eng.stack = []) →
  ∃ t, exec i s = .next t ∧ shows t 50 ∧ unrouted t = unrouted { s with eng := { s.eng with
    st := .trapped, busy := 0, stall := 0, skid := none, read := none, rows := [], rowWait := 0, tactWait := false
    trapInfo := 0x8006, trapPc := s.eng.pc
    tacts := [], tactDisc := s.eng.tactDisc + s.eng.tacts.length } })

/-- R331, causes 3, 4 and 5 with integrator privilege: a target outside the region, a 17th return address, an empty
return stack; and a PC that has left the region. A CALL with a full return stack to a target outside the region takes
cause 3 here; that order of the two causes is this model's choice (log 14). -/
def Obligations.EngineProgramAddressTraps : Prop := ∀ (s : State) (target : PAddr) (ra : Fin 16),
  executing s = true → s.eng.rows = [] → s.eng.skid = none → irqDue s = false → s.eng.field = false →
  let traps (i : Instr) (cause : Nat) : Prop := ∃ t, exec i s = .next t ∧ shows t 50 ∧
    unrouted t = unrouted { s with eng := { s.eng with
      st := .trapped, busy := 0, stall := 0, skid := none, read := none, rows := [], rowWait := 0, tactWait := false
      trapInfo := cause, trapPc := s.eng.pc
      tacts := [], tactDisc := s.eng.tactDisc + s.eng.tacts.length } }
  (0x1000 ≤ s.eng.pc.toNat → traps .nop 3) ∧
  (s.eng.pc.toNat < 0x1000 →
    (0x1000 ≤ target.toNat → traps (.b .al target) 3 ∧ traps (.call target) 3) ∧
    (0x1000 ≤ (reg s.eng ra).toNat → traps (.jr ra) 3) ∧
    (target.toNat < 0x1000 → 16 ≤ s.eng.stack.length → traps (.call target) 4) ∧
    (s.eng.stack = [] → traps .ret 5))

/-- R318, R327, R328, R333: NOP, HALT, the waits, EI and DI, RETI and GETEV in a handler, SIG and TIME. -/
def Obligations.EngineControlInstructions : Prop := ∀ (s : State) (rd : Fin 16), canExecute s →
  let next := s.eng.pc + 1
  let get16 (v : Nat) : State := engineAt s next fun e => setReg e rd (BitVec.ofNat 16 v)
  (∃ t, exec .nop s = .next t ∧ unrouted t = unrouted (engineAt s next id)) ∧
  (∃ t, exec .halt s = .next t ∧ unrouted t = unrouted (engineAt s next fun e => { e with
    st := .halted, stall := 0, rows := [], rowWait := 0, startReq := false, tactWait := false, tacts := []
    tactDisc := e.tactDisc + e.tacts.length })) ∧
  (∃ t, exec .waitf s = .next t ∧ unrouted t = unrouted (engineAt s s.eng.pc fun e => { e with st := .waitf })) ∧
  (∃ t, exec .waite s = .next t ∧ unrouted t = unrouted (engineAt s next fun e => { e with st := .waite })) ∧
  (s.eng.field = false →
    (∃ t, exec .ei s = .next t ∧ unrouted t = unrouted (engineAt s next fun e => { e with ie := true })) ∧
    (∃ t, exec .di s = .next t ∧ unrouted t = unrouted (engineAt s next fun e => { e with ie := false })) ∧
    (s.eng.inHandler = true →
      (∃ t, exec (.getev rd) s = .next t ∧ unrouted t = unrouted (get16 s.eng.evnum)) ∧
      (∃ t, exec .reti s = .next t ∧ unrouted t = unrouted (engineAt s s.eng.epc fun e =>
        { withFlags e e.ez e.en e.ec e.ev with field := e.efield, ie := true, inHandler := false })))) ∧
  (∃ t, exec .sigA s = .next t ∧ shows t 51 ∧ unrouted t = unrouted (engineAt s next id)) ∧
  (∃ t, exec .sigB s = .next t ∧ shows t 63 ∧ unrouted t = unrouted (engineAt s next id)) ∧
  (∃ t, exec (.timeFrameLow rd) s = .next t ∧ unrouted t = unrouted (get16 (s.clk.time / 512))) ∧
  (∃ t, exec (.timeFrameHigh rd) s = .next t ∧ unrouted t = unrouted (get16 (s.clk.time / 512 / 65536))) ∧
  (∃ t, exec (.timeTick rd) s = .next t ∧ unrouted t = unrouted (get16 (s.clk.time % 512)))

/-- R327, R329: an interrupt takes the lowest-numbered pending event, clears its pending bit, saves PC, flags and
privilege, sets IE = 0 and integrator privilege and enters 0x0008; WAITF and WAITE end with it. One that has been
recognised is taken with the event it was recognised for. An instruction that finds an event pending recognises it first,
and at most three instructions then complete; one that completes in sequence brings the recognised interrupt nearer: with at
most one left it is taken behind that instruction. R327 says only 'up to three': that the command INTERRUPT takes an
interrupt at once, and that all three run where they stay in sequence, are this model's choices (log 14). -/
def Obligations.EngineTakesTheLowestEvent : Prop := ∀ (s : State) (n k : Nat), running s = true → engTested s = false →
  quiet s →
  let handler (e : Eng) : Eng := { e with
    st := .running, busy := 0, stall := 0, skid := none, read := none, inHandler := true, ie := false, epc := e.pc
    ez := e.z, en := e.n, ec := e.c, ev := e.v, efield := e.field, field := false, pc := 8 }
  (s.eng.ie = true → s.eng.inHandler = false → s.eng.skid = none →
    (s.eng.st = .running ∨ s.eng.st = .waitf ∨ s.eng.st = .waite) →
    n < 64 → s.eng.pend.testBit n = true → (∀ m, m < n → s.eng.pend.testBit m = false) →
    ∃ t, exec .interrupt s = .next t ∧
      (∀ m, t.eng.pend.testBit m = (s.eng.pend.testBit m && decide (m ≠ n))) ∧
      unrouted t = unrouted { s with eng := { handler s.eng with evnum := n } }) ∧
  (s.eng.rows = [] → s.eng.ie = true → s.eng.inHandler = false → s.eng.skid = none → s.eng.st = .running →
    inRegion s.eng s.eng.pc = true → s.now.pended = 0 → n < 64 → s.eng.pend.testBit n = true →
      (∀ m, m < n → s.eng.pend.testBit m = false) →
    ∃ t, exec .nop s = .next t ∧
      (∀ m, t.eng.pend.testBit m = (s.eng.pend.testBit m && decide (m ≠ n))) ∧
      unrouted t = unrouted (engineAt s (s.eng.pc + 1) fun e => { e with evnum := n, skid := some 2 })) ∧
  (s.eng.st = .running → s.eng.skid = some k →
    (∃ t, exec .interrupt s = .next t ∧ t.eng.pend = s.eng.pend ∧
      unrouted t = unrouted { s with eng := handler s.eng }) ∧
    (s.eng.rows = [] → inRegion s.eng s.eng.pc = true →
      (2 ≤ k → ∃ t, exec .nop s = .next t ∧
        unrouted t = unrouted (engineAt s (s.eng.pc + 1) fun e => { e with skid := some (k - 1) })) ∧
      (k ≤ 1 → ∃ t, exec .nop s = .next t ∧
        unrouted t = unrouted { s with eng := handler { s.eng with pc := s.eng.pc + 1 } })))

/-- R50, R72, R80, R318, R321, R335: the engine runs its own program as ticks pass, where no interrupt, timed action, request
or access is at hand: in the last of its ticks an instruction does what its command does, and the next tick begins; in the
ticks before, it only passes time. A DRD or DWR is one tick longer where HOSTIF holds the store port in its first tick, and
makes its access in the last tick but one: a DRD reads its word there, as the engine reads it in that tick, and its last tick
brings the word into rd with Z and N; a DWR is accepted in its last tick, as a write that is staged shows. A SAMPLE that a DRD
reads goes on to show the whole tick (R475, log 38) and is no part of this. -/
def Obligations.TicksRunTheProgram : Prop := ∀ (s : State) (rd ra : Fin 16) (imm : Word), s.pending = [] →
  executing s = true → s.clk.time % 512 ≠ 511 → s.eng.rows = [] → s.eng.stall = 0 → irqDue s = false → tactDue s = false →
  s.odp.job = none → s.hostQ = [] → s.sup.crash.lockNext = false → s.twin = none → s.now.fired = false →
  s.now.engPort = false → accessRests s → lineRests s →
  let i := current s
  let e := s.eng
  let ticks := ticksOf e i + (if storeAccess i ∧ s.now.hostPort = true then 1 else 0)
  let idx := imm.toNat
  let sub := (reg e ra).toNat / 256
  let passes (u : State) : Prop := ∃ t, step s = .next t ∧
    unrouted t = unrouted { u with clk := { s.clk with time := s.clk.time + 1 } }
  let accessTick : Prop := e.busy = 0 ∧ s.now.hostPort = false ∨ e.busy = 2
  (e.busy = 0 → 1 < ticks → storeAccess i = false ∨ s.now.hostPort = true →
    passes { s with eng := { e with busy := ticks - 1 } }) ∧
  (2 ≤ e.busy → storeAccess i = false ∨ e.busy ≠ 2 → passes { s with eng := { e with busy := e.busy - 1 } }) ∧
  (accessTick → i = .drd rd ra imm → inRegion e e.pc = true → (∀ c, objOf idx ≠ some (.counter c)) →
    let x := readCore (served s .eng) .eng e.field idx sub ((reg e ra).toNat % 256)
    passes { x.1 with eng := { e with busy := 1, read := some (x.2 % 65536) } }) ∧
  (accessTick → i = .dwr rd ra imm → passes { s with eng := { e with busy := 1 } }) ∧
  (e.busy = 0 ∧ ticks = 1 ∨ e.busy = 1 ∧ storeAccess i = false → ∃ u t, exec i s = .next u ∧ step s = .next t ∧
    unrouted t = unrouted { u with clk := { u.clk with time := u.clk.time + 1 } }) ∧
  (e.busy = 1 → inRegion e e.pc = true → e.skid = none →
    (i = .drd rd ra imm → ∀ v, v < 65536 → e.read = some v → passes (engineAt s (e.pc + 1) fun e =>
      setReg (withFlags e (v == 0) (decide (32768 ≤ v)) e.c e.v) rd (BitVec.ofNat 16 v))) ∧
    (i = .dwr rd ra imm → ∀ f, fieldOf idx sub = some f → f.acc = .rws → f.words = 1 → (reg e ra).toNat % 256 = 0 →
      admits s .eng idx sub (reg e rd).toNat = true → idx < 0x1C10 → s.reqE.overflow = false → s.reqE.staged = [] →
      passes (engineAt (modReq (afterWrite s .eng) .eng fun q => { q with
        staged := [(idx * 256 + sub, (reg e rd).toNat)] }) (e.pc + 1) id)))

/-- An instruction shows no event but those it signals and event 50 of its trap; only DWR can show others, of what it
writes (R318, R331, R463). -/
def Obligations.EngineInstructionsRaiseNoOtherEvent : Prop :=
  ∀ (s t : State) (i : Instr) (rd ra rb : Fin 16) (imm : Word) (c : Cond) (target : PAddr) (k : BitVec 4) (e : Nat),
  canExecute s → quiet s → exec i s = .next t → shows t e →
  (i ∈ [.add rd ra rb, .sub rd ra rb, .and rd ra rb, .or rd ra rb, .xor rd ra rb, .shl rd ra rb, .shr rd ra rb,
      .asr rd ra rb, .mul rd ra rb, .mulh rd ra rb, .cmp ra rb, .ldi rd imm, .addi rd ra imm, .andi rd ra imm,
      .ori rd ra imm, .xori rd ra imm, .cmpi ra imm, .shli rd ra k, .shri rd ra k, .nop, .halt, .waitf, .waite, .sigA,
      .sigB, .timeFrameLow rd, .timeFrameHigh rd, .timeTick rd, .drd rd ra imm] →
    shows s e ∨ i = .sigA ∧ e = 51 ∨ i = .sigB ∧ e = 63) ∧
  (i ∈ [.illegal, .ld rd ra imm, .st rd ra imm, .b c target, .call target, .ret, .jr ra, .fcall, .fret, .ei, .di,
      .reti, .getev rd, .tact rd ra] →
    shows s e ∨ e = 50 ∧ (t.eng.st = .trapped ∨ t.eng.pc = s.eng.fra))

/-! ## The dictionary store -/

/-- R58, R59, R60: a write of an RWS field that passes its checks goes into the writer's staging buffer and leaves the
active value; a second write of a field replaces the first; a write of a new field to a buffer of 128 sets OVERFLOW and
is lost. Bit 0 of a publish map's CTRL is read-only (R413): the buffer takes the value without it. -/
def Obligations.RwsWritesAreStaged : Prop := ∀ (s : State) (r : Requester) (idx sub v : Nat) (f : Field),
  canWrite s r idx sub v = true → fieldOf idx sub = some f → f.acc = .rws →
  let w := served s r
  let q := req w r
  let key := idx * 256 + sub
  let kept := match objOf idx with
    | some (.publish _) => if sub = 1 then v / 2 * 2 else v
    | _ => v
  let overfull := q.overflow && !q.staged.isEmpty
  let staged (l : List (Nat × Nat)) (o : Bool) : State :=
    { modReq (afterWrite w r) r (fun x => { x with staged := l, overflow := o }) with pending := s.pending }
  ((∀ e ∈ q.staged, e.1 ≠ key) → q.staged.length < 128 →
    ∃ t, exec (.dictionaryWrite r idx sub v) s = .next t ∧
      unrouted t = unrouted (staged (q.staged ++ [(key, kept)]) overfull)) ∧
  (∀ a x b, q.staged = a ++ (key, x) :: b → (∀ e ∈ a ++ b, e.1 ≠ key) →
    ∃ t, exec (.dictionaryWrite r idx sub v) s = .next t ∧
      unrouted t = unrouted (staged (a ++ (key, kept) :: b) overfull)) ∧
  ((∀ e ∈ q.staged, e.1 ≠ key) → 128 ≤ q.staged.length →
    ∃ t, exec (.dictionaryWrite r idx sub v) s = .next t ∧ unrouted t = unrouted (staged q.staged true))

/-- R60, R61, R62: COMMIT takes the buffer's whole content as one committed set, which PENDING shows as long as it
waits, empties the buffer and clears APPLIED and DISCARDED; a discard empties it and sets DISCARDED; with OVERFLOW set
over a buffer that holds writes both only empty it, set DISCARDED and clear APPLIED. -/
def Obligations.CommitTakesTheWholeBuffer : Prop := ∀ (s : State) (r : Requester),
  let w := served s r
  let q := req w r
  let after (f : ReqState → ReqState) : State := { modReq (afterWrite w r) r f with pending := s.pending }
  (q.overflow = false ∨ q.staged = [] →
    (canWrite s r 0x0200 4 1 = true → ∃ t, exec (.commit r) s = .next t ∧
      unrouted t = unrouted (after fun x => { x with
        sets := q.sets ++ [q.staged], staged := [], applied := false, discarded := false, overflow := false })) ∧
    (canWrite s r 0x0200 4 2 = true → ∃ t, exec (.commitDiscard r) s = .next t ∧
      unrouted t = unrouted (after fun x => { x with staged := [], discarded := true, overflow := false }))) ∧
  (q.overflow = true → q.staged ≠ [] → ∀ c v, (c = .commit r ∧ v = 1 ∨ c = .commitDiscard r ∧ v = 2) →
    canWrite s r 0x0200 4 v = true → ∃ t, exec c s = .next t ∧
      unrouted t = unrouted (after fun x => { x with staged := [], discarded := true, applied := false }))

/-- R15, R77, R87, R345: a write that breaks rights, mode or range changes nothing but counts, and ends the writer's
key sequence, lock sequence and gather.

R14, R314, R315, R337, R478: what the store refuses. Read-only fields of any writer; of the engine KEY, CLEAR_CRASH,
ENGINE_CTRL, ENGINE_PROG and IMAGE; of field code everything but POD_LIVE(p).REQUEST, CONV(g).URGENT_REQ and MARGIN(c)
subindexes 08 to 0A, each with its bit of ENGINE_CTRL.CTRL, and a counter's SEL and CLEAR with its code of
COUNTER_ACCESS; of every writer CTRL of ENGINE_CTRL outside STANDBY and SERVICE and ENGINE_PROG outside SERVICE. -/
def Obligations.RefusedWritesOnlyCount : Prop := (
  ∀ (s : State) (r : Requester) (idx sub v : Nat),
  mayAccess s r = true → turn s r = true → r = .twi ∨ widthNow s idx sub = 1 → v < 65536 ^ widthNow s idx sub →
  let w := served s r
  admits w r idx sub v = false →
  ∃ t, exec (.dictionaryWrite r idx sub v) s = .next t ∧
    unrouted t = unrouted { afterWrite w r with pending := s.pending }) ∧ (
  ∀ (s : State) (r : Requester) (idx sub v : Nat),
  (∀ f, fieldOf idx sub = some f → f.acc = .ro → admits s r idx sub v = false) ∧
  (idx = 0x0200 ∧ (sub = 3 ∨ sub = 5) ∨ idx = 0x1800 ∨ idx = 0x1801 ∨ idx = 0x1F00 → admits s .eng idx sub v = false) ∧
  (s.eng.field = true → admits s .eng idx sub v = true →
    (0x1300 ≤ idx ∧ idx < 0x1330 ∧ sub = 1 ∧ (act s 0x1800 1).testBit 9 = true) ∨
    (0x1500 ≤ idx ∧ idx < 0x1508 ∧ sub = 2 ∧ (act s 0x1800 1).testBit 10 = true) ∨
    (0x1400 ≤ idx ∧ idx < 0x1460 ∧ 8 ≤ sub ∧ sub ≤ 10 ∧ (act s 0x1800 1).testBit 11 = true) ∨
    (0x1900 ≤ idx ∧ idx < 0x192A ∧ (sub = 1 ∨ sub = 3) ∧ act s 0x1980 2 % 4 = 2)) ∧
  (s.sup.mode ≠ .standby → s.sup.mode ≠ .service → admits s r 0x1800 1 v = false) ∧
  (s.sup.mode ≠ .service → admits s r 0x1801 sub v = false))

/-- R53, R156, R184, R292, R297, R299, R308, R344, R347: a request of a pod, of a margin or of the mode is accepted
with status 1 at its port, with its source and tick, and changes nothing else before the boundary; SERVICE and reset
ask for an armed key. REQ_STAT of pod 0 keeps its older code beside a rise or fall by MODE_REQ until the boundary, where R184
and R533 could also mean 1 at once: this model's choice (log 29). -/
def Obligations.RequestsWaitForTheBoundary : Prop := ∀ (s : State) (r : Requester) (p c v : Nat), p < 48 → c < 96 →
  let asks (i : Instr) (idx sub v : Nat) (f : ReqState → ReqState) (a : Ask) : Prop := canWrite s r idx sub v = true →
    let w := served s r
    (v = 3 ∨ v = 6 → idx = 0x0200 → armed w r = true) →
    ∃ t, exec i s = .next t ∧ unrouted t = unrouted { modReq (afterWrite w r) r f with
      accepted := w.accepted ++ [{ ask := a, src := .port r, time := w.clk.time }], pending := s.pending }
  let pod (x : ReqState) : ReqState := { x with podStat := put x.podStat 0 p 1 }
  let mode (x : ReqState) : ReqState := { x with modeStat := 1 }
  let margin (x : ReqState) : ReqState := { x with marginStat := put x.marginStat 0 c 1 }
  asks (.riseRequest r p) (0x1300 + p) 1 1 pod (.rise p) ∧
  asks (.fallRequest r p) (0x1300 + p) 1 2 pod (.fall p) ∧
  asks (.landingRelease r p) (0x1300 + p) 1 3 pod (.release p) ∧
  asks (.marginTarget r c v) (0x1400 + c) 8 v margin (.margin c v) ∧
  asks (.marginRelease r c) (0x1400 + c) 9 1 margin (.marginRelease c) ∧
  asks (.pipReq r c v) (0x1400 + c) 10 v margin (.pip c v) ∧
  asks (.modeReqRise r) 0x0200 2 1 mode (.mode 1) ∧
  asks (.modeReqFall r) 0x0200 2 2 mode (.mode 2) ∧
  asks (.modeReqEnterService r) 0x0200 2 3 mode (.mode 3) ∧
  asks (.modeReqLeaveService r) 0x0200 2 4 mode (.mode 4) ∧
  asks (.modeReqEnterSleep r) 0x0200 2 5 mode (.mode 5) ∧
  asks (.modeReqReset r) 0x0200 2 6 mode (.mode 6)

/-- R345, R346: KEY, which is two writes, the second of them in the next tick (R80), arms the requester's key for 4096 frames;
in tick 511 the second write waits for the next frame's tick 0 (this model's choice, log 2). KEY_EXPIRY ends the key in the
frame of that tick; a keyed MODE_REQ value without an armed key is refused with MODE_STAT 4, at once in this model (log 29),
and CLEAR_CRASH without one only counts. -/
def Obligations.KeyedWritesNeedTheArmedKey : Prop := ∀ (s : State) (r : Requester),
  (canWrite s r 0x0200 3 0xA5 = true →
    let half := modReq (afterWrite (served s r) r) r fun q => { q with key := .half }
    (s.clk.time % 512 ≠ 511 →
      let u := passTick half
      canWrite u r 0x0200 3 0x5A = true →
      let w := served u r
      (req w r).key = .half → ∃ t, exec (.key r) s = .next t ∧
        unrouted t = unrouted { modReq (afterWrite w r) r (fun q => { q with key := .armed w.clk.time }) with
          pending := s.pending }) ∧
    (s.clk.time % 512 = 511 → isHost r = true → ∃ t, exec (.key r) s = .next t ∧
      unrouted t = unrouted { half with
        hostQ := [{ req := r, op := .write 0x0200 3 0x5A, words := 1 }], pending := s.pending })) ∧
  (∀ a, running s = true → (req s r).key = .armed a → a / 512 + 4096 ≤ s.clk.time / 512 →
    let u := advance s (a + 4096 * 512)
    running u = true → (req u r).key = .armed a → u.pending = s.pending →
    ∃ t, exec (.keyExpiry r) s = .next t ∧ armed t r = false ∧
      unrouted t = unrouted (modReq u r fun q => { q with key := .idle })) ∧
  (∀ c v, (c = .modeReqEnterService r ∧ v = 3 ∨ c = .modeReqReset r ∧ v = 6) → canWrite s r 0x0200 2 v = true →
    let w := served s r
    armed w r = false → ∃ t, exec c s = .next t ∧
      unrouted t = unrouted { modReq (afterWrite w r) r (fun q => { q with modeStat := 4 }) with pending := s.pending }) ∧
  (mayAccess s r = true → turn s r = true →
    let w := served s r
    armed w r = false → ∃ t, exec (.clearCrash r) s = .next t ∧
      unrouted t = unrouted { afterWrite w r with pending := s.pending })

/-- R73, R80, R338: a read of word 0 of a field of several words captures all its words, as they stand in the tick in which
the store port serves it, in the requester's shadow and changes nothing else; of ENGINE_PROG.DATA it also moves the
requester's ADDR on. What a tick adds to a counter after it has read the counter's SAMPLE joins the value when the tick ends
(R475, log 38), and is no part of this.

R320, R475: DRD of a one-word field and of word 0 of a wider one gives its word in rd, with Z and N; a word after the first
comes from the shadow of that field (R74).

R320, R77: DWR of a one-word field is the engine's write of that field; a word 0 of a wider field opens a gather.

R80: the port serves one word a tick. Of a write of several words it serves the first one, and the rest waits; each of the
following ticks serves one more, and the last one has the write's effect; an event clear, a word of the engine's program and
the image key are such writes of the store. An instruction that finds the port taken waits for
its turn, and so does every one behind it (log 14). -/
def Obligations.ReadsAndEngineAccesses : Prop := (
  ∀ (s : State) (r : Requester) (idx sub : Nat) (o : Obj) (f : Field),
  let w := served s r
  mayAccess s r = true → turn s r = true → objOf idx = some o → fieldOf idx sub = some f → 1 < f.words →
  mayRead w r (!isHost r && w.eng.field) o f = true →
  let shadow : Shadow := { key := idx * 256 + sub, val := fieldValue w r o f idx sub, words := f.words }
  let after (g : ReqState → ReqState) : State := { modReq w r g with pending := s.pending }
  (o ≠ .engProg → ∃ t, exec (.word0ShadowRead r idx sub) s = .next t ∧
    unrouted t = unrouted (after fun q => { q with shadow := some shadow })) ∧
  (idx = 0x1801 → sub = 2 → ∃ t, exec (.engineProgDataRead r) s = .next t ∧
    unrouted t = unrouted (after fun q => { q with
      shadow := some shadow
      progAddr := if q.progAddr = 0x1FFF then 0x1000 else q.progAddr + 1 }))) ∧ (
  ∀ (s : State) (rd ra : Fin 16) (imm : Word) (o : Obj) (f : Field), canExecute s → portReady s = true →
  let sub := (reg s.eng ra).toNat / 256
  let k := (reg s.eng ra).toNat % 256
  let idx := imm.toNat
  objOf idx = some o → fieldOf idx sub = some f → mayRead s .eng s.eng.field o f = true → k < f.words → o ≠ .engProg →
  let reads (v : Nat) (u : State) : Prop := ∃ t, exec (.drd rd ra imm) s = .next t ∧
    unrouted t = unrouted (engineAt u (s.eng.pc + 1) fun e =>
      setReg (withFlags e (v % 65536 == 0) (decide (32768 ≤ v % 65536)) e.c e.v) rd (BitVec.ofNat 16 v))
  let counted := served { engineAt s s.eng.pc id with now := { s.now with ran := true } } .eng
  let value := fieldValue counted .eng o f idx sub
  (f.words = 1 → reads value s) ∧
  (k = 0 → 1 < f.words → reads (value / 65536 ^ (f.words - 1)) (modReq s .eng fun q => { q with
    shadow := some { key := idx * 256 + sub, val := value, words := f.words } })) ∧
  (0 < k → ∀ h, s.reqE.shadow = some h → h.key = idx * 256 + sub → reads (h.val / 65536 ^ (h.words - 1 - k)) s)) ∧ (
  ∀ (s : State) (rd ra : Fin 16) (imm : Word), canExecute s → mayAccess s .eng = true → portReady s = true →
  let sub := (reg s.eng ra).toNat / 256
  let k := (reg s.eng ra).toNat % 256
  let v := (reg s.eng rd).toNat
  (k = 0 → widthNow s imm.toNat sub = 1 → ∃ t u,
    exec (.dictionaryWrite .eng imm.toNat sub v) (engineAt s s.eng.pc id) = .next u ∧
    exec (.dwr rd ra imm) s = .next t ∧ unrouted t = unrouted { u with eng := { u.eng with pc := u.eng.pc + 1 } }) ∧
  (k = 0 → 1 < widthNow s imm.toNat sub → ¬ (imm.toNat = 0x1F00 ∧ sub = 10) → ∃ t, exec (.dwr rd ra imm) s = .next t ∧
    unrouted t = unrouted (engineAt (modReq (afterWrite s .eng) .eng fun q => { q with
      gather := some { key := imm.toNat * 256 + sub, words := [v] } }) (s.eng.pc + 1) id))) ∧ (
  ∀ (s : State) (r : Requester) (idx sub v : Nat) (x : InstrWord),
  exec (.eventClear r v) s = exec (.dictionaryWrite r 0x0303 1 v) s ∧
  exec (.engineProgDataWrite r x) s = exec (.dictionaryWrite r 0x1801 2 x.toNat) s ∧
  exec (.imageKeyWrite r v) s = exec (.dictionaryWrite r 0x1F00 10 v) s ∧ (mayAccess s r = true →
  let n := widthNow s idx sub
  let waits (k : Nat) : Access := { req := r, op := .write idx sub (v % 65536 ^ n), words := k }
  (turn s r = true → 1 < n → r ≠ .twi → ∃ t, exec (.dictionaryWrite r idx sub v) s = .next t ∧
    unrouted t = unrouted (if isHost r then { s with hostQ := [waits (n - 1)] }
      else { s with eng := { s.eng with rows := [.access (waits (n - 1))] } })) ∧
  (∀ (k : Nat) (rest : List Access), isHost r = true → s.hostQ = waits k :: rest → s.pending = [] → running s = true →
    s.clk.time % 512 ≠ 511 → still { s with hostQ := [] } = true → accessRests s → lineRests s →
    let u := newTick s (s.clk.time + 1)
    (servePort s = none ∨ s.clk.time % 512 ≠ 31) → s.clk.time % 512 ≠ 15 → ∃ t, step s = .next t ∧
      (1 < k → unrouted t = unrouted { u with hostQ := waits (k - 1) :: rest }) ∧
      (k = 1 → unrouted t = unrouted (writeField (served { u with hostQ := rest } r) r false idx sub (v % 65536 ^ n)))))) ∧ (
  ∀ (s : State) (rd ra : Fin 16) (imm : Word), executing s = true →
  (portReady s = false → ∀ i, (i = .drd rd ra imm ∨ i = .dwr rd ra imm) → ∃ t, exec i s = .next t ∧
    unrouted t = unrouted { s with eng := { s.eng with rows := s.eng.rows ++ [.instr i] } }) ∧
  (s.eng.rows ≠ [] → ∃ t, exec .nop s = .next t ∧
    unrouted t = unrouted { s with eng := { s.eng with rows := s.eng.rows ++ [.instr .nop] } }))

/-- R464, R476, R457, R453, R501: EVENT_CLEAR clears the STATUS bits of its mask and no other, but for those that the
tick of the write has raised; COUNTER(k).CLEAR clears the overflow flag or the whole counter, but for what that tick has
made of it; OUT, where the engine has not written it in the same tick (R68), and the lock sequence of the pins, which is two
writes, the second of them in the next tick (R80); TEST_NOW. -/
def Obligations.ClearsLocksAndTestRequests : Prop := ∀ (s : State) (r : Requester) (k n v mask : Nat),
  let after (w : State) : State := { afterWrite w r with pending := s.pending }
  (mask < 2 ^ 64 → canWrite s r 0x0303 1 mask = true →
    let w := served s r
    w.evq = [] → ∃ t, exec (.eventClear r mask) s = .next t ∧
      (∀ e, t.sup.evStatus.testBit e = (w.sup.evStatus.testBit e && (!mask.testBit e || w.now.raised.testBit e))) ∧
      unrouted t = unrouted (after w)) ∧
  (k < 42 →
    let w := served s r
    w.evq = [] →
    (canWrite s r (0x1900 + k) 3 1 = true → ∃ t, exec (.counterClearOvf r k) s = .next t ∧
      get t.ctrs Ctr.reset k = { count := (get w.ctrs Ctr.reset k).count, ovf := w.now.wraps.testBit k } ∧
      unrouted t = unrouted (after w)) ∧
    (canWrite s r (0x1900 + k) 3 2 = true → ∃ t, exec (.counterZero r k) s = .next t ∧
      get t.ctrs Ctr.reset k = { count := get w.now.adds 0 k, ovf := false } ∧ unrouted t = unrouted (after w))) ∧
  (n < 48 → canWrite s r (0x1A00 + n) 3 v = true →
    let w := served s r
    let key := (0x1A00 + n) * 256 + 3
    (r = .eng ∨ ∀ e ∈ w.now.engWrites, e.1 ≠ key) → ∃ t, exec (.pinOutWrite r n v) s = .next t ∧
      act t (0x1A00 + n) 3 = v ∧
      unrouted t = unrouted { after w with dict := t.dict, pins := { w.pins with ball := t.pins.ball } } ∧
      (∀ m, m ≠ n → ballOf t m = ballOf w m) ∧ (∀ i j, i * 256 + j ≠ key → act t i j = act w i j)) ∧
  (canWrite s r 0x1A41 2 0x4C4B = true → s.clk.time % 512 ≠ 511 →
    let u := passTick (modReq (afterWrite (served s r) r) r fun q => { q with lockHalf := true })
    canWrite u r 0x1A41 2 0xB4B4 = true →
    let w := served u r
    (req w r).lockHalf = true → ∃ t, exec (.pinLockSequence r) s = .next t ∧
      t.pins.locked = w.pins.locked ||| (req w r).pinMask ∧
      unrouted t = unrouted { after w with pins := { w.pins with locked := t.pins.locked } }) ∧
  (1 ≤ v → v ≤ 5 → canWrite s r 0x1E00 3 v = true →
    let w := served s r
    ∃ t, exec (.testNow r v) s = .next t ∧
      unrouted t = unrouted { after w with bist := { w.bist with testNow := some v } })

/-- R334, R338, R502: the host's commands to the engine. HALT halts it in any mode and discards its timed actions; a
TRAPPED engine stays TRAPPED and only loses a start that waits (this model's reading, log 12); under test a HALT is
noted for the restore. START of a HALTED or TRAPPED engine, or of one that a noted HALT will stop, waits for the next
boundary and is ignored in a mode in which the engine does not run; CLEAR clears every field word and FIELD_LEN; DATA
writes the word at ADDR and moves ADDR on. -/
def Obligations.HostCommandsToTheEngine : Prop := ∀ (s : State) (r : Requester) (x : InstrWord),
  let w := served s r
  let after (f : Eng → Eng) : State := { afterWrite w r with eng := f w.eng, pending := s.pending }
  (canWrite s r 0x1800 2 1 = true →
    (engTested w = false → w.eng.st ≠ .trapped → ∃ t, exec (.engineCommandHalt r) s = .next t ∧
      unrouted t = unrouted (after fun e => { e with
        st := .halted, busy := 0, stall := 0, skid := none, read := none, rows := [], rowWait := 0, startReq := false
        tactWait := false
        tacts := [], tactDisc := e.tactDisc + e.tacts.length })) ∧
    (engTested w = false → w.eng.st = .trapped → ∃ t, exec (.engineCommandHalt r) s = .next t ∧ t.eng.st = .trapped ∧
      unrouted t = unrouted (after fun e => { e with startReq := false })) ∧
    (engTested w = true → ∃ t, exec (.engineCommandHalt r) s = .next t ∧
      unrouted t = unrouted { after (fun e => { e with startReq := false }) with bist := { w.bist with halt := true } })) ∧
  (canWrite s r 0x1800 2 2 = true →
    let stopped : Prop := w.eng.st = .halted ∨ w.eng.st = .trapped ∨ engTested w = true ∧ w.bist.halt = true
    (stopped → partDisabled w 2 = false → w.sup.mode ∈ [.standby, .ascend, .run, .descend, .crash] →
      ∃ t, exec (.engineCommandStart r) s = .next t ∧ unrouted t = unrouted (after fun e => { e with startReq := true })) ∧
    (¬ stopped ∨ w.sup.mode = .service → ∃ t, exec (.engineCommandStart r) s = .next t ∧
      unrouted t = unrouted (after id))) ∧
  (canWrite s r 0x1801 5 0xA5 = true → ∃ t, exec (.engineProgClear r) s = .next t ∧
    (∀ a, get t.eng.prog 0 a = if 0x1000 ≤ a then 0 else get w.eng.prog 0 a) ∧ act t 0x1801 3 = 0 ∧
    (∀ i j, i * 256 + j ≠ 0x1801 * 256 + 3 → act t i j = act w i j) ∧
    unrouted t = unrouted { after (fun e => { e with prog := t.eng.prog }) with dict := t.dict }) ∧
  (canWrite s r 0x1801 2 x.toNat = true → ∃ t, exec (.engineProgDataWrite r x) s = .next t ∧
    get t.eng.prog 0 (req w r).progAddr = x ∧
    (∀ a, a ≠ (req w r).progAddr → get t.eng.prog 0 a = get w.eng.prog 0 a) ∧
    unrouted t = unrouted (modReq (after fun e => { e with prog := t.eng.prog }) r fun q => { q with
      progAddr := if q.progAddr = 0x1FFF then 0x1000 else q.progAddr + 1 }))

/-- R323, R324: TACT reads its descriptor at D[ra] to D[ra + 3] and gives the code of the first condition that fails;
an accepted action is held until frame FRAME + DELAY.

R325, R53, R156: a timed action that is due fires at tick 1, or in the tick after another firing of the frame, and one tick
later where HOSTIF holds the store port or the engine has used it (R80), as an engine write with the privilege of its TACT; one
that targets POD_LIVE(p).REQUEST is a request of the engine, and its queue entry is freed. -/
def Obligations.TimedActions : Prop := (
  ∀ (s : State) (rd ra : Fin 16), canExecute s →
  let word (k : Nat) : Nat := (dataWord s.eng (((reg s.eng ra).toNat + k) % 65536)).toNat
  let idx := word 0
  let sub := word 1 / 256
  let delay := word 3
  let podTarget : Prop := 0x1300 ≤ idx ∧ idx < 0x1330 ∧ sub = 1
  let convTarget : Prop := 0x1500 ≤ idx ∧ idx < 0x1508 ∧ sub = 2
  let marginTarget : Prop := 0x1400 ≤ idx ∧ idx < 0x1460 ∧ 8 ≤ sub ∧ sub ≤ 10
  let ctrl := act s 0x1800 1
  let answers (code : Nat) (held : List Tact) : Prop := ∃ t, exec (.tact rd ra) s = .next t ∧
    unrouted t = unrouted (engineAt s (s.eng.pc + 1) fun e =>
      { setReg e rd (BitVec.ofNat 16 code) with tactStat := code, tacts := e.tacts ++ held })
  (∀ k, k < 4 → dataOk s.eng (((reg s.eng ra).toNat + k) % 65536) = true) →
  (word 1 % 256 ≠ 0 ∨ delay = 0 → answers 2 []) ∧
  (word 1 % 256 = 0 → delay ≠ 0 →
    (¬ (podTarget ∨ convTarget ∨ marginTarget ∨ idx = 0x1600 ∧ sub = 6) → answers 3 []) ∧
    (podTarget ∨ convTarget ∨ marginTarget ∨ idx = 0x1600 ∧ sub = 6 →
      (32 ≤ s.eng.tacts.length → answers 4 []) ∧
      (s.eng.tacts.length < 32 →
        let admitted : Prop := s.eng.field = false ∨ podTarget ∧ ctrl.testBit 9 = true ∨
          convTarget ∧ ctrl.testBit 10 = true ∨ marginTarget ∧ ctrl.testBit 11 = true
        (¬ admitted → answers 5 []) ∧
        (admitted → 96 - aqHeld s ≤ aqReserved s → answers 6 []) ∧
        (admitted → aqReserved s < 96 - aqHeld s → answers 1
          [{ idx := idx, sub := sub, val := word 2, fire := s.clk.time / 512 + delay, field := s.eng.field }]))))) ∧ (
  ∀ (s : State) (a : Tact) (rest : List Tact) (p : Nat), running s = true → tactDue s = true →
  (s.now.fired = false ∨ s.clk.time % 512 ≠ 511) →
  let v := advance s (if s.now.fired then s.clk.time + 1 else s.clk.time / 512 * 512 + 1)
  let u := if tactHeld v = true ∧ v.clk.time % 512 ≠ 511 then passTick v else v
  running v = true → tactDue v = true → running u = true → engTested u = false → inHoldNow u = false → u.now.fired = false →
  tactHeld u = false →
  u.eng.tacts = a :: rest → a.fire ≤ u.clk.time / 512 →
  p < 48 → a.idx = 0x1300 + p → a.sub = 1 → (a.val = 1 ∨ a.val = 2 ∨ a.val = 3) →
  (a.field = false ∨ (act u 0x1800 1).testBit 9 = true) →
  let ask : Ask := if a.val = 1 then .rise p else if a.val = 2 then .fall p else .release p
  ∃ t, exec .tactFire s = .next t ∧
    unrouted t = unrouted
      { (modReq (afterWrite u .eng) .eng fun x => { x with podStat := put x.podStat 0 p 1 }) with
        eng := { u.eng with tacts := rest, tactWait := false }
        accepted := u.accepted ++ [{ ask := ask, src := .port .eng, time := u.clk.time }]
        pending := s.pending })

/-! ## Converters and judges -/

/-- R97, R101, R117, R118, R94: in slot k of 0 to 11 every converter without an urgent place there converts entry k:
the result register takes VALID, SLOT, SRC, FRAME_LSB and RAW, and an analog channel its raw and scaled value, the
quotient to nearest with halves away from zero. The samples are taken at tick 10, with the pin levels of that tick, and the
results shown at tick 28.

R105, R106, R108, R110, R117: an urgent place at slot k of 0 to 13 takes the sample of that slot for register 14 or 15,
where it frees its queue entry, and moves the scheduled entry to the first free spare slot. -/
def Obligations.ConversionsFillTheirRegisters : Prop := ∀ (s : State) (k g : Nat) (raws : List Nat) (pins : Pins),
  running s = true → converting s = true → g < 8 → raws.length = 8 →
  let at' (t : State) (n : Nat) : State := advance t (t.clk.time / 512 * 512 + 32 * k + n)
  let p := { at' s 10 with pins := { (at' s 10).pins with level := pins } }
  let u := at' p 28
  let raw := raws.getD g 0
  let v := conv u g
  let free (s : State) : Prop := ∀ e ∈ (conv s g).places, e.1 ≠ k
  let shown (t : State) : Prop :=
    t.clk.time = u.clk.time ∧ t.pins.level = u.pins.level ∧ t.sup.mode = u.sup.mode ∧ t.sup.pods = u.sup.pods ∧
    t.recs.nvm = u.recs.nvm ∧ t.dict = u.dict ∧ t.eng = u.eng
  converting p = true → converting u = true →
  (k < 12 → (∀ v ∈ raws, v < 65536) → free p → free u →
    let c := 12 * g + k
    let analog (s : State) : Prop := (chan s c).kindEff = 1 ∨ (chan s c).kindEff = 3
    analog p → analog u →
    let num : Int := s16 (chanCfg u c 3)
    let den := chanCfg u c 4
    0 < den →
    ∃ t, exec (.conversion k raws pins) s = .next t ∧ shown t ∧
      get (conv t g).regs 0 k = 2 ^ 31 + k * 2 ^ 25 + k * 2 ^ 21 + u.clk.time / 512 % 32 * 2 ^ 16 + raw ∧
      (∀ e, e ≠ k → get (conv t g).regs 0 e = get v.regs 0 e) ∧
      (chan t c).raw = raw ∧ (chan t c).slot = k ∧ (chan t c).disp = false ∧
      (0 ≤ num → (chan t c).scaled = ((2 * (Int.ofNat raw * num) + den) / (2 * den))) ∧
      (num < 0 → (chan t c).scaled = -((2 * (Int.ofNat raw * -num) + den) / (2 * den)))) ∧
  (∀ (e at' : Nat) (r : Requester), k ≤ 13 → e ≤ 13 → v.urgentRun < 2 →
    let place : Nat × Urgent := (k, { src := .port r, entry := e, time := at' })
    place ∈ (conv p g).places → v.places.find? (fun x => decide (x.1 = k)) = some place →
    let n := 14 + v.urgentRun
    ∃ t, exec (.conversion k raws pins) s = .next t ∧ shown t ∧
      get (conv t g).regs 0 n =
        2 ^ 31 + 2 ^ 29 + k * 2 ^ 25 + e * 2 ^ 21 + u.clk.time / 512 % 32 * 2 ^ 16 + raw ∧
      (∀ j, j ≠ n → get (conv t g).regs 0 j = get v.regs 0 j) ∧
      (conv t g).urgentRun = v.urgentRun + 1 ∧
      (v.disp14 = none → (conv t g).disp14 = some k ∧ (conv t g).disp15 = v.disp15) ∧
      (v.disp14.isSome = true → (conv t g).disp15 = some k ∧ (conv t g).disp14 = v.disp14))

/-- R104, R105, R106, R107, R115, R116: an urgent request of a host or the engine, and a trigger edge, take the next
free place of the frame, then the pending register, and are else dropped with event 29; without a free action-queue
entry a request is refused with code 4. A trigger edge takes over the place of a host's or the engine's request of its
own tick, which takes the next free one; the places that the start of a frame has reserved for the margin servo stay its own
(R112).

R104, R115: an edge that CONV(g).CTRL selects, with TRIG_EN set, on the pin that supplies TRIG g and whose bank is
good, asks for TRIG_ENTRY; with TRIG_EN clear, and an edge that CTRL does not select, it only sets the level. -/
def Obligations.UrgentRequestsTakePlaces : Prop := ∀ (s : State) (r : Requester) (g e n : Nat) (rising : Bool),
  let cand (w : State) : Nat := max (w.clk.time % 512 / 32 + 1) (match (conv w g).places.getLast? with
    | some (k, _) => k + 1
    | none => 0)
  let takes (c : Instr) (w : State) (u : Urgent) (after : Conv → Nat → State) : Prop :=
    let v := conv w g
    let free : Prop := v.places.length < 2 ∧ cand w ≤ 15
    let answers (v : Conv) (code : Nat) (also : State → Prop) : Prop := ∃ t, exec c s = .next t ∧ also t ∧
      unrouted t = unrouted { after v code with pending := s.pending }
    (∀ x ∈ v.places, urgentBefore u x.2 = false) → (∀ x, v.pend = some x → urgentBefore u x = false) →
    (free → answers { v with places := v.places ++ [(cand w, u)] } 1 fun _ => True) ∧
    (¬ free → v.pend = none → answers { v with pend := some u } 2 fun _ => True) ∧
    (¬ free → v.pend.isSome = true → answers { v with overruns := min (v.overruns + 1) 0xFFFF } 3 fun t => shows t 29)
  (g < 8 → canWrite s r (0x1500 + g) 2 e = true →
    let w := served s r
    let stat (code : Nat) : State :=
      modReq (afterWrite w r) r fun q => { q with urgentStat := put q.urgentStat 0 g code }
    (aqReserved w < 96 - aqHeld w →
      takes (.urgentReq r g e) w { src := .port r, entry := e, time := w.clk.time } fun v code => setConv (stat code) g v) ∧
    (96 - aqHeld w ≤ aqReserved w → ∃ t, exec (.urgentReq r g e) s = .next t ∧
      unrouted t = unrouted { stat 4 with pending := s.pending })) ∧
  (running s = true → converting s = true → trigSupplier s g = some n → bankGood s n = true →
    edgeless s (16 + g) = false →
    let ctrl := convCfg s g 1
    let after : State := setLevel s n rising
    let u : Urgent := { src := .trig, entry := ctrl % 16, time := s.clk.time }
    let wanted : Prop := ctrl / 32 % 4 = 2 ∨ ctrl / 32 % 4 = 0 ∧ rising = true ∨ ctrl / 32 % 4 = 1 ∧ rising = false
    (ctrl.testBit 7 = false ∨ ¬ wanted → ∃ t, exec (.trigEdge g rising) s = .next t ∧ unrouted t = unrouted after) ∧
    (ctrl.testBit 7 = true → wanted →
      takes (.trigEdge g rising) s u (fun v _ => setConv after g v) ∧
      (∀ p k, (conv s g).places = [(k, { src := .port p, entry := e, time := s.clk.time })] → (conv s g).pend = none →
        cand s ≤ 15 →
        let code (t : State) : State := modReq t p fun q => { q with urgentStat := put q.urgentStat 0 g 1 }
        ∃ t, exec (.trigEdge g rising) s = .next t ∧ unrouted t = unrouted (setConv (code after) g { conv s g with
          places := [(k, u), (cand s, { src := .port p, entry := e, time := s.clk.time })] }))))

/-- R120, R126, R127, R129, R130, R132, R140: the judgement of an analog channel whose sample is decided in slot k, entry k
of its converter. The count of a fault filter rises to at most 16, the flag is set when it reaches FAULT_FILTER, and a sample
on the other side clears both; DISCH latches while the rail is off. Of a running rail a warning, where WARN_EN is set, and
power good follow their condition once it has differed for WARN_FILTER samples; event 8 + g shows a warning that is set and,
with PG_WARN, a power good that is lost. A rising rail counts the samples in the settle window and runs, good in this frame,
with the last of them; a sample outside it restarts the count, and more restarts than CHATTER_LIMIT fail the rise. A crash of
the same tick leaves the rail OFF.

R133, R134, R135, R136: a pair whose halves both run and are both decided in their own slot is compared: the mismatch count
rises to at most 16, and PAIR_FILTER confirms it with event 6 and a crash. The same entry of a converter's reference check
failing in two consecutive frames is confirmed with event 7 and a crash, and in BOOT, from the seventeenth frame before its
end on, with BOOT-HOLD and cause 5 (that the load's own frame is not judged is this model's count, log 29). -/
def Obligations.JudgesFilterFaults : Prop := ∀ (s : State) (k g : Nat), running s = true → converting s = true → g < 8 →
  let u := advance s (s.clk.time / 512 * 512 + 32 * k + 30)
  let frame := u.clk.time / 512
  let crashes (m : Mode) : Prop := m ∈ [.standby, .ascend, .run, .descend, .service]
  converting u = true → (
  k < 12 → u.sup.mode ≠ .boot → ranIn (conv u g) k = some k →
  let c := 12 * g + k
  let ch := chan u c
  let raw := ch.raw
  let thr (sub : Nat) : Nat := chanCfg u c sub
  (ch.kindEff = 1 ∨ ch.kindEff = 3) → ch.ov ≤ 16 → ch.uv ≤ 16 →
  let high : Bool := decide (thr 6 < raw)
  let low : Bool := decide (ch.st = .running ∧ raw < thr 7)
  let ov := min (ch.ov + 1) 16
  let uv := min (ch.uv + 1) 16
  let off : Bool := decide (ch.st = .off)
  let follow (flag : Bool) (cnt : Nat) (cond : Bool) : Bool × Nat :=
    let n := if cond = flag then 0 else cnt + 1
    if thr 15 ≤ n then (cond, 0) else (flag, n)
  let ovw := if (thr 20).testBit 1 then follow ch.ovw ch.owc (decide (thr 8 < raw)) else (ch.ovw, ch.owc)
  let uvw := if (thr 20).testBit 1 then follow ch.uvw ch.uwc (decide (raw < thr 9)) else (ch.uvw, ch.uwc)
  let pg := follow ch.pg ch.pgc (decide (thr 11 - thr 12 ≤ raw ∧ raw ≤ min (thr 10 + thr 12) 65535))
  let settles : Prop := thr 11 ≤ raw ∧ raw ≤ thr 10 ∧ ch.thrErr = false
  let restarts := min (ch.chatter + 1) 255
  ∃ t, exec (.judgeSample k) s = .next t ∧
    (chan t c).ov = (if high then ov else 0) ∧
    (chan t c).ovf = (high && (ch.ovf || decide (thr 14 ≤ ov))) ∧
    (chan t c).uv = (if low then uv else 0) ∧
    (chan t c).uvf = (low && (ch.uvf || decide (thr 14 ≤ uv))) ∧
    (chan t c).disch = (ch.disch || (off && decide (raw < thr 13))) ∧
    (chan t c).belowDis = decide (raw < thr 13) ∧ (chan t c).raw = raw ∧
    (high = true → ch.ovf = false → thr 14 ≤ ov → shows t (16 + g)) ∧
    (high = true → ch.ovf = false → thr 14 ≤ ov → ch.st ≠ .off → u.sup.mode ≠ .crash →
      t.sup.mode = .crash ∧ t.sup.crash.latched = true ∧ shows t 0) ∧
    (low = true → ch.uvf = false → thr 14 ≤ uv → shows t (16 + g) ∧
      (fallingPod u c = none → crashes u.sup.mode → t.sup.mode = .crash)) ∧
    (ch.st = .running →
      (chan t c).ovw = ovw.1 ∧ (chan t c).owc = ovw.2 ∧ (chan t c).uvw = uvw.1 ∧ (chan t c).uwc = uvw.2 ∧
      (chan t c).pg = pg.1 ∧ (chan t c).pgc = pg.2 ∧
      (ch.ovw = false ∧ ovw.1 = true ∨ ch.uvw = false ∧ uvw.1 = true ∨
        (thr 20).testBit 2 = true ∧ ch.pg = true ∧ pg.1 = false → shows t (8 + g))) ∧
    (ch.st ≠ .running → (chan t c).ovw = false ∧ (chan t c).owc = 0 ∧ (chan t c).uvw = false ∧ (chan t c).uwc = 0 ∧
      (chan t c).pgc = 0) ∧
    (ch.st = .off → (chan t c).pg = false) ∧
    (ch.st ≠ .rising → (chan t c).settle = ch.settle ∧ (chan t c).chatter = ch.chatter ∧
      (chan t c).failedEarly = ch.failedEarly) ∧
    (ch.st = .rising → settles → (chan t c).settle = ch.settle + 1 ∧ (chan t c).chatter = ch.chatter ∧
      (chan t c).pg = decide (thr 16 ≤ ch.settle + 1) ∧
      (thr 16 ≤ ch.settle + 1 → t.sup.mode ≠ .crash → (chan t c).st = .running ∧ (chan t c).good = some frame) ∧
      (ch.settle + 1 < thr 16 → t.sup.mode ≠ .crash → (chan t c).st = .rising)) ∧
    (ch.st = .rising → ¬ settles → 0 < ch.settle → ch.chatter ≤ 255 →
      (chan t c).settle = 0 ∧ (chan t c).chatter = restarts ∧
      (chan t c).failedEarly = (ch.failedEarly || decide (thr 17 ≠ 255 ∧ thr 17 < restarts)) ∧
      (thr 17 ≠ 255 → thr 17 < restarts → t.sup.mode ≠ .crash → (chan t c).chatFail = some frame)) ∧
    (ch.st = .rising → ¬ settles → ch.settle = 0 → (chan t c).settle = 0 ∧ (chan t c).chatter = ch.chatter) ∧
    (u.sup.mode ≠ .crash → t.sup.mode = .crash → (chan t c).st = .off)) ∧ (
  ∀ h, k < 12 → g < h → h < 8 → u.sup.mode ≠ .boot → ranIn (conv u g) k = some k → ranIn (conv u h) k = some k →
  let a := 12 * g + k
  let b := 12 * h + k
  let x := chan u a
  let y := chan u b
  partner u a = some b → y.kindEff = 3 → x.st = .running → y.st = .running → x.pairErr = false → x.pairCnt ≤ 16 →
  let d := x.scaled - y.scaled
  let bad : Bool := decide (chanCfg u a 18 < d.natAbs)
  let n := if bad then min (x.pairCnt + 1) 16 else 0
  let hit : Bool := !x.pairMm && decide (chanCfg u a 19 ≤ n)
  ∃ t, exec (.judgeSample k) s = .next t ∧
    (∀ j, j = a ∨ j = b → (chan t j).pairCompared = true ∧ (chan t j).pairDiff = d ∧
      (t.sup.mode ≠ .crash → (chan t j).pairCnt = n ∧ ((chan t j).pairMm = true ↔ (chan u j).pairMm = true ∨ hit = true))) ∧
    (hit = true → shows t 6 ∧ (crashes u.sup.mode → t.sup.mode = .crash))) ∧ (
  ∀ e, e = 12 ∨ e = 13 → ranIn (conv u g) k = some e →
  let v := conv u g
  let raw := get v.regs 0 e % 65536
  let want := if e = 12 then v.expA else v.expB
  let fails : Bool := decide (raw + convCfg u g 7 < want ∨ want + convCfg u g 7 < raw)
  let old := if e = 12 then v.cntA else v.cntB
  old ≤ 2 →
  (u.sup.mode ≠ .boot → ∃ t, exec (.judgeSample k) s = .next t ∧
    (if e = 12 then (conv t g).failA else (conv t g).failB) = fails ∧
    (if e = 12 then (conv t g).cntA else (conv t g).cntB) = (if fails then min (old + 1) 2 else 0) ∧
    (fails = true → old = 1 → shows t 7 ∧ (crashes u.sup.mode → t.sup.mode = .crash))) ∧
  (u.sup.mode = .boot → u.boot.refFrames ≤ 16 → fails = true → old = 1 → ∃ t, exec (.judgeSample k) s = .next t ∧
    t.boot.hold = true ∧ t.boot.cause = 5 ∧ t.sup.mode = .boot))

/-! ## Crash -/

/-- R214, R217, R252, R30, R198, R202, R220, R245: a commanded crash and a lockstep mismatch in a mode that can crash:
the device is in CRASH, latched, with its cause, source and tick; rails are OFF and their enables released, margins idle
and at high impedance, pods in use CRASHED, timed actions discarded, the capture taken and events 0 and 25 show; a
mismatch also shows event 41. Each DIS output that is flagged for crash is asserted, one that was asserted stays so,
SAFE_N is driven low and FLT is held low.

R29, R31: a second copy of SUPERVISE that stands otherwise when a tick ends crashes the device in the next tick; in the tick
of the disagreement an enable is released, SAFE_N low, FLT driven and a DIS output that is flagged for crash asserted where
one copy alone says so, the last one in BOOT too (this model's choice, log 32). The copies go on from what each holds, so that
the disagreement lasts as long as they differ. -/
def Obligations.CrashesLatchAndRelease : Prop := ∀ (s : State) (r : Requester) (l : List SupPart), running s = true →
  let crashes (m : Mode) : Prop := m ∈ [.standby, .ascend, .run, .descend, .service]
  let crashed (s t : State) (cause source tick : Nat) : Prop :=
    t.sup.mode = .crash ∧ t.sup.crash.latched = true ∧ t.sup.crash.cause = cause ∧ t.sup.crash.source = source ∧
    t.sup.crash.time = tick ∧ t.sup.crash.clearing = false ∧ t.recs.commit = .waiting ∧ t.recs.cap.isSome = true ∧
    (∀ c, c < 96 → (chan t c).enable = false ∧ (chan t c).st = .off ∧ (margin t c).st = .idle ∧
      ((margin s c).st ≠ .idle → (margin t c).outEn = false ∧ (margin t c).code = 0)) ∧
    (∀ p, p < 48 → (pod s p).inUse = true → (pod t p).st = .crashed) ∧
    t.eng.tacts = [] ∧ shows t 0 ∧ shows t 25 ∧
    (∀ c, c < 96 → enableBall t c = false ∧ ((margin s c).st ≠ .idle → marginBall t c = none) ∧
      (disEn (disCfg s c) = true → disOnCrash (disCfg s c) = true → asserted t (disOutOf (disCfg s c)) = true)) ∧
    (∀ n, asserted s n = true → asserted t n = true) ∧
    (bankDriven t 0 = true → safeN t = some false) ∧ fltLow t = true
  (canWrite s r 0x1600 7 0xC5 = true →
    let w := served s r
    crashes w.sup.mode → ∃ t, exec (.crashCmd r) s = .next t ∧ crashed w t (if r = .eng then 12 else 11)
      (match r with
        | .cana => 0xF0
        | .canb => 0xF1
        | .twi => 0xF2
        | .eng => 0xF3) w.clk.time) ∧
  (s.clk.time % 512 ≠ 511 →
    let e := endTick (upsetCopy s l)
    running e = true → crashes e.sup.mode → e.sup.crash.lockNext = true → e.odp.job = none → e.hostQ = [] → accessRests e →
    ∃ t, exec (.lockstepMismatch l) s = .next t ∧ crashed e t 5 0xFF (e.clk.time + 1) ∧ shows t 41) ∧
  (s.clk.time % 512 = 511 →
    let v := l.foldl upset (secondCopy s)
    ∃ t, exec (.lockstepMismatch l) s = .next t ∧ unrouted t = unrouted s ∧ t.twin = some v ∧
      (∀ c, (get v.sup.chans Chan.reset c).enable = false → enableBall t c = false) ∧
      (safeLevel s v.sup.mode = some false → safeN t ≠ some true) ∧
      (v.sup.line.holding = true → fltLow t = true) ∧
      (∀ n, disFlagged s n = true → disAsserted v.sup n = true → disBall t n = true))

/-- R222, R223, R225, R226: a keyed clear in CRASH, with the arbitration and the kernel commit ended and no condition
left, stops the FLT drive and begins clearing; before the commit or the arbitration has ended it is refused with
CLEAR_STAT 4, while an overvoltage flagged for crash or a reference failure persists with 5, and while a clear runs, or
outside CRASH, with 3.

R224: FLT_QUIET marks the 3200th quiet tick of a clearing device, whoever began the clearing. -/
def Obligations.ClearsBeginAndWaitForQuiet : Prop := ∀ (s : State) (r : Requester), running s = true →
  (canWrite s r 0x0200 5 1 = true →
    let w := served s r
    let after (f : State → State) : State := { f (afterWrite w r) with pending := s.pending }
    let answers (f : State → State) : Prop := ∃ t, exec (.clearCrash r) s = .next t ∧ unrouted t = unrouted (after f)
    let refused (code : Nat) : Prop := answers fun s => modCrash s fun k => { k with clearStat := code }
    let persists : Prop := (∃ c, c < 96 ∧ (chan w c).ovf = true ∧ offOvCrash w c = true) ∨
      ∃ g, g < 8 ∧ ((conv w g).failA = true ∨ (conv w g).failB = true)
    armed w r = true →
    (w.sup.mode ≠ .crash ∨ w.sup.crash.clearing = true → refused 3) ∧
    (w.sup.mode = .crash → w.sup.crash.clearing = false →
      (w.recs.commitEnded = false ∨ arbBusy w.sup.line = true → refused 4) ∧
      (w.recs.commitEnded = true → arbBusy w.sup.line = false →
        (persists → refused 5) ∧
        (¬ persists → answers fun s => modLine
          (modCrash s fun k => { k with clearing := true, auto := false, clearStat := 1, autoUsed := 0 })
          fun l => { l with holding := false, origHold := false, arb := .none, faultAt := none, quiet := false })))) ∧
  (s.sup.crash.clearing = true → faultShown s = false →
    let due := s.sup.line.faultEnd + 3199
    let u := advance s due
    due / 512 ≤ s.clk.time / 512 → running u = true → u.sup.crash.clearing = true → faultShown u = false →
    u.sup.line.faultEnd = s.sup.line.faultEnd → ∃ t, exec .fltQuiet s = .next t ∧
      unrouted t = unrouted { modLine u (fun l => { l with quiet := true }) with pending := s.pending })

/-! ## The fault line -/

/-- R229, R246: other devices pull the line low: the taken level falls in its tick, and within the idle gap it leaves no
start for an arbitration; where this device holds the line low the level has fallen before, and stays low when the others
release it.

R230, R232, R233, R235: a low period of 52 to 96 ticks taken by a listening device synchronises it: its fall counts as tick
44 of line slot 0 and it sends from the next line cycle on; a standalone device synchronises so too, and the cycle that is
cut short is not counted (this model's choices, log 20). A synchronised device takes one whose fall lies in ticks 20 to 70 of
slot 0; the timekeeper takes its own, and listens again after any other.

R231, R238, R239: a low period of 16 to 48 ticks whose fall lies in ticks 100 to 160 of line slot i is the heartbeat of index
i: a partner has then joined and is neither lost nor absent. That a device which listens or has stopped takes no heartbeat,
no START and no STOP is this model's choice (log 20).

R154, R163, R231, R243: in slot 15 the first such period marks the start of a line command; a fall 50 to 70 ticks after it is
START and one 90 to 110 ticks after it STOP: a request to every pod in use in STANDBY, ASCEND, RUN and DESCEND, and START
releases the landings that wait for it. -/
def Obligations.PulsesSynchroniseAndJoin : Prop := ∀ (s : State) (tick len i : Nat), running s = true →
  (s.sup.line.others = false → tick < 512 →
    let u := advance s (s.clk.time / 512 * 512 + tick)
    running u = true → ∃ t, exec (.fltFall tick) s = .next t ∧
      unrouted t = unrouted { modLine u (fun l => if l.low = true then { l with others := true } else { l with
        others := true, low := true, wait := 0, fall := u.clk.time, fault := false
        arb := match l.arb with
          | .gap h => if u.clk.time < h + 800 then .broken else .gap h
          | a => a }) with pending := s.pending }) ∧
  (s.sup.line.others = true → ∃ t, exec (.fltFall tick) s = .next t ∧ unrouted t = unrouted s) ∧
  (s.sup.line.low = true → len < 128 → (s.sup.line.fall + len) / 512 ≤ s.clk.time / 512 →
    let u := advance s (s.sup.line.fall + len)
    let l := u.sup.line
    let e := l.fall
    let after (f : Line → Line) : State := { modLine u (fun l => f { l with others := false }) with pending := s.pending }
    let ends (f : Line → Line) : State := after fun l => f { l with low := false, wait := 0, rise := u.clk.time }
    let answers (v : State) : Prop := ∃ t, exec (.fltPulseEnd len) s = .next t ∧ unrouted t = unrouted v
    let synced : Prop := l.role = .synced ∨ l.role = .timekeeper
    let sync : Prop := 52 ≤ len ∧ len ≤ 96
    let short : Prop := 16 ≤ len ∧ len ≤ 48
    running u = true →
    (l.low = false ∨ fltLow u = true → answers (after id)) ∧
    (l.low = true → fltLow u = false → l.fault = false →
      (¬ sync → ¬ short → answers (ends id)) ∧
      (l.role = .stopped → answers (ends id)) ∧
      (l.role = .listening →
        (short → answers (ends id)) ∧
        (sync → answers (ends fun l => { l with
          role := .synced, base := e - 44, sendFrom := l.cycle + 1, syncSeen := true, seen := 0, judged := 0, hist := [] }))) ∧
      (l.role = .synced → sync →
        (l.base + 20 ≤ e ∧ e ≤ l.base + 70 → answers (ends fun l => { l with base := e - 44, syncSeen := true })) ∧
        (e < l.base + 20 ∨ l.base + 70 < e → answers (ends id))) ∧
      (l.role = .timekeeper → sync →
        let own : Prop := l.syncDrive = some l.cycle ∧ l.base + 40 ≤ e ∧ e ≤ l.base + 52
        (own → answers (ends fun l => { l with syncSeen := true })) ∧
        (¬ own → answers (ends fun l => { l with
          role := .listening, listenAt := u.clk.time, hist := [], syncSeen := false
          syncDrive := none, hbDrive := none, cmdDrive := none, firstPulse := none }))) ∧
      (synced → short → i < 15 →
        (l.base + 200 * i + 100 ≤ e → e ≤ l.base + 200 * i + 160 → answers (ends fun l =>
          let l := { l with seen := setBit l.seen i }
          if isPartner u i then { l with
            joined := setBit l.joined i, absent := clrBit l.absent i, lost := clrBit l.lost i, misses := put l.misses 0 i 0 }
          else l)) ∧
        (l.base + 200 * i ≤ e ∧ e < l.base + 200 * i + 100 ∨ l.base + 200 * i + 160 < e ∧ e < l.base + 200 * i + 200 →
          answers (ends id))) ∧
      (synced → short → l.base + 3000 ≤ e → e < l.base + 3200 →
        (l.firstPulse = none →
          (l.base + 3020 ≤ e → e ≤ l.base + 3070 → answers (ends fun l => { l with firstPulse := some e })) ∧
          (e < l.base + 3020 ∨ l.base + 3070 < e → answers (ends id))) ∧
        (∀ f up, l.firstPulse = some f → (up = true ∧ f + 50 ≤ e ∧ e ≤ f + 70 ∨ up = false ∧ f + 90 ≤ e ∧ e ≤ f + 110) →
          let taken : State := ends fun l => { l with firstPulse := none }
          (u.sup.mode ∈ [.standby, .ascend, .run, .descend] → ∃ t, exec (.fltPulseEnd len) s = .next t ∧
            (∀ p, pod t p =
              if (pod u p).inUse = true ∧ p < 48 ∧ up = true ∧ (pod u p).held = true ∧
                entRel (entryOf u p (pod u p).k) = 3 then { pod u p with relLine := true } else pod u p) ∧
            unrouted t = unrouted { taken with
              sup := { taken.sup with pods := t.sup.pods }
              accepted := u.accepted ++ (podsInUse u).map fun p =>
                { ask := if up then .rise p else .fall p, src := .line, time := u.clk.time } }) ∧
          (u.sup.mode = .service ∨ u.sup.mode = .crash → answers taken)))))

/-- R230, R244, R246: the 128th tick of a low period is a FAULT; a device that is not crashed crashes in that tick with
cause 8 and event 30 shows. It does so when the command names that tick, and by itself as the tick passes: in a step with no
command, and before a low period of 128 ticks or more ends. The end of such a period begins the idle gap of an arbitration
that waits for it; where the device itself holds the line low, nothing ends. -/
def Obligations.LineFaultCrashes : Prop := ∀ (s : State) (len : Nat), running s = true → s.sup.line.low = true →
  let crashes (m : Mode) : Prop := m ∈ [.standby, .ascend, .run, .descend, .service]
  let crashed (w : State) (tick : Nat) : Prop :=
    w.sup.mode = .crash ∧ w.sup.crash.latched = true ∧ w.sup.crash.cause = 8 ∧ w.sup.crash.source = 0xFF ∧
    w.sup.crash.time = tick ∧ w.sup.crash.originator = false
  let ended (c : State) : State := { modLine c (fun l => { l with
    others := false, low := false, wait := 0, rise := c.clk.time, fault := false, faultEnd := c.clk.time
    arb := match l.arb, l.faultAt with
      | .hold, some _ => .gap c.clk.time
      | a, _ => a }) with pending := s.pending }
  let e := s.sup.line.fall
  let due (v : State) : Prop := v.clk.time = e + 127 ∧ running v = true ∧ crashes v.sup.mode ∧ v.sup.line.low = true ∧
    v.sup.line.fault = false ∧ v.sup.line.fall = e
  let alone (v : State) : Prop := ballLow v = true ∧ still v = true ∧ accessRests v ∧ v.clk.time % 512 ≠ 511
  let late (tick : Nat) : Prop := tick / 512 ≤ s.clk.time / 512
  (s.sup.line.fault = false → late (e + 127) →
    let u := advance s (e + 127)
    due u → ∃ t, exec .faultRecognition s = .next t ∧ crashed t u.clk.time ∧ t.sup.line.origHold = false ∧
      shows t 30 ∧ shows t 0) ∧
  (s.pending = [] → due s → alone s → ∃ t, step s = .next t ∧ crashed t s.clk.time ∧ shows t 30 ∧ shows t 0) ∧
  (late (e + len) →
    let v := advance s (e + 127)
    let w := advance s (e + len)
    running w = true → w.sup.line.low = true → w.sup.line.fault = true →
    (fltLow w = true → ∃ t, exec (.fltPulseEnd len) s = .next t ∧
      unrouted t = unrouted { modLine w (fun l => { l with others := false }) with pending := s.pending }) ∧
    (fltLow w = false → ∃ t, exec (.fltPulseEnd len) s = .next t ∧ unrouted t = unrouted (ended w) ∧
      (128 ≤ len → due v → alone v → w.sup.crash = (passTick v).sup.crash → w.sup.mode = (passTick v).sup.mode →
        crashed t (e + 127))))

/-- R233, R231, R236: the listen window of 9600 + 3200 × INDEX ticks makes the timekeeper; a device that may send (it is
synchronised, indexed and not crashed) drives its sync pulse as the timekeeper, and its heartbeat, in its line cycle;
three line cycles without a sync pulse make the lowest index seen the timekeeper. A standalone device never does
(R237): it stops, and the cycle that the start of a timekeeper cuts short is not counted (this model's choices, log 20). -/
def Obligations.TheLineHasATimekeeper : Prop := ∀ s : State, running s = true →
  let late (tick : Nat) : Prop := tick / 512 ≤ s.clk.time / 512
  let answers (i : Instr) (u : State) (f : Line → Line) : Prop := ∃ t, exec i s = .next t ∧
    unrouted t = unrouted { modLine u f with pending := s.pending }
  (s.sup.line.role = .listening →
    let due := s.sup.line.listenAt + 9600 + 3200 * s.sup.line.index
    let u := advance s due
    let l := u.sup.line
    late due → running u = true → l.role = .listening → l.listenAt + 9600 + 3200 * l.index = due →
    (l.index ≠ 15 →
      let cycle := l.cycle + (u.clk.time - l.base) / 3200
      answers .listenWindowExpiry u fun l => { l with
        role := .timekeeper, base := u.clk.time, cycle := cycle, sendFrom := cycle, seen := 0, judged := 0
        syncSeen := false, hist := [] }) ∧
    (l.index = 15 → answers .listenWindowExpiry u fun l => { l with role := .stopped })) ∧
  (let sends (i : Instr) (p : Nat) (role : LineRole → Prop) (f : Line → Line) : Prop :=
    let due := nextAt s p
    let u := advance s due
    late due → sending s = true → role s.sup.line.role → running u = true → sending u = true → role u.sup.line.role →
    nextAt u p = due → u.sup.line.index = s.sup.line.index → answers i u f
   sends .syncSend 40 (· = .timekeeper) (fun l => { l with syncDrive := some l.cycle }) ∧
   sends .heartbeatSend (200 * s.sup.line.index + 120) (fun _ => True) (fun l => { l with hbDrive := some l.cycle })) ∧
  (let due := if syncLost s.sup.line then s.clk.time else s.sup.line.base + 3200
   let u := advance s due
   let l := u.sup.line
   late due → s.sup.line.role = .synced → running u = true → u.clk.time = due → l.role = .synced → l.index < 15 →
   (∃ x y z p q r, l.hist = [(x, false, p), (y, false, q), (z, false, r)] ∧ (x ||| y ||| z) % 2 ^ l.index = 0) →
   answers .syncLoss u fun l => { l with role := .timekeeper, sendFrom := l.cycle })

/-- R238, R239, R240: at the end of its join window an expected partner that has not joined is absent, event 32; a
joined partner that has missed three windows in a row is lost, event 31; with ABSENT_CRASH or LOST_CRASH set the
device crashes with cause 10 or 9. -/
def Obligations.AbsentAndLostPartners : Prop := ∀ (s : State) (i : Nat), running s = true → i < 15 →
  let crashes (m : Mode) : Prop := m ∈ [.standby, .ascend, .run, .descend, .service]
  let late (tick : Nat) : Prop := tick / 512 ≤ s.clk.time / 512
  (serviceable s.sup.mode = true →
    let only (s : State) : Prop := unjoined s i = true ∧ ∀ j, j < 15 → j ≠ i → unjoined s j = false
    let due := joinEnd s i
    let u := advance s due
    only s → late due → running u = true → crashes u.sup.mode → u.causes = [] → only u → joinEnd u i = due →
    u.clk.time = max s.clk.time due →
    ∃ t, exec .joinWindowExpiry s = .next t ∧ t.sup.line.absent.testBit i = true ∧ shows t 32 ∧
      ((lineCfg u 1).testBit 5 = true → t.sup.mode = .crash ∧ t.sup.crash.cause = 10 ∧ t.sup.crash.source = 0xE0 + i) ∧
      ((lineCfg u 1).testBit 5 = false → t.sup.mode = u.sup.mode)) ∧
  (let awaited (c : State) : Prop :=
    (c.sup.line.role = .synced ∨ c.sup.line.role = .timekeeper) ∧ isPartner c i = true ∧
    c.sup.line.joined.testBit i = true ∧ c.sup.line.lost.testBit i = false ∧ missesSuspended c = false
   let lost (u : State) : Prop := ∃ t, exec (.partnerLost i) s = .next t ∧ t.sup.line.lost.testBit i = true ∧
    get t.sup.line.misses 0 i = 3 ∧ shows t 31 ∧
    ((lineCfg u 1).testBit 4 = true → t.sup.mode = .crash ∧ t.sup.crash.cause = 9 ∧ t.sup.crash.source = 0xE0 + i) ∧
    ((lineCfg u 1).testBit 4 = false → t.sup.mode = u.sup.mode)
   awaited s →
   (get s.sup.line.misses 0 i = 3 → s.sup.line.judged.testBit i = true → crashes s.sup.mode → s.causes = [] → lost s) ∧
   (get s.sup.line.misses 0 i = 2 → s.sup.line.judged.testBit i = false → s.sup.line.seen.testBit i = false →
    let due := windowAt s.sup.line i
    let u := advance s due
    let l := u.sup.line
    late due → running u = true → crashes u.sup.mode → u.causes = [] → awaited u → get l.misses 0 i = 2 →
    l.judged.testBit i = false → l.seen.testBit i = false → windowAt l i = due → lost u))

/-- R242, R224, R254: a line command of the timekeeper in STANDBY, ASCEND, RUN or DESCEND waits as the one pending command;
in another mode it is refused with CMD_STAT 6, on another device with 3, beside a pending command with 4. It goes out
in slot 15 of a later line cycle in which the line has shown no low period of 128 ticks or more since slot 14 began. -/
def Obligations.LineCommandsOfTheTimekeeper : Prop := ∀ (s : State) (r : Requester) (start : Bool),
  let cmd : Instr := if start then .lineCmdStart r else .lineCmdStop r
  (canWrite s r 0x1600 6 (if start then 1 else 2) = true →
    let w := served s r
    let l := w.sup.line
    let refused (code : Nat) : Prop := ∃ t, exec cmd s = .next t ∧ (req t r).cmdStat = code ∧
      t.sup.line.pending = l.pending ∧ t.sup.mode = w.sup.mode ∧ t.accepted = w.accepted ∧
      t.sup.line.cmdReq = if l.cmdReq = some r then none else l.cmdReq
    let commands : Prop := w.sup.mode ∈ [.standby, .ascend, .run, .descend]
    (¬ commands → refused 6) ∧
    (commands → l.role ≠ .timekeeper → refused 3) ∧
    (commands → l.role = .timekeeper → l.pending.isSome = true → refused 4) ∧
    (commands → l.role = .timekeeper → l.pending = none → ∃ t, exec cmd s = .next t ∧
      (req t r).cmdStat = 1 ∧ t.sup.line.pending = some start ∧ t.sup.line.cmdReq = some r ∧
      t.sup.line.cmdCycle = l.cycle ∧ t.sup.mode = w.sup.mode)) ∧
  (running s = true →
    let due := nextAt s 3040
    let u := advance s due
    let d := u.sup.line
    let waits (c : State) : Prop := sending c = true ∧ c.sup.line.role = .timekeeper ∧ c.sup.line.pending = some start
    waits s → due / 512 ≤ s.clk.time / 512 → running u = true → waits u → nextAt u 3040 = due → d.cmdReq = some r →
    d.cmdCycle < d.cycle → faultShown u = false → d.faultEnd ≤ d.base + 2800 →
    ∃ t, exec .lineCommandSend s = .next t ∧ t.sup.line.cmdDrive = some (d.cycle, start) ∧
      t.sup.line.pending = none ∧ (req t r).cmdStat = 2)

/-- R245, R246, R247: the originator's hold ends 4000 ticks after the crash tick; the arbitration starts 800 ticks
after the level went high; an originator whose word no other device makes low wins with its own time and index; one
that sends 1 where the line is low has lost and takes the word on the line, as does a device without a word of its own;
it ties where its time is not at least 16 ticks later. Without a result by tick E + 8000 the arbitration is abandoned
with winner 15. Event 33 shows, and a crashed device that is not being cleared takes up its final hold. The other devices'
levels are those that the command names, and low also where a sample in the middle of a bit period has found them so (this
model's reading, log 20). -/
def Obligations.ArbitrationNamesTheWinner : Prop := ∀ (s : State) (others : BitVec 21), running s = true →
  let l := s.sup.line
  let late (tick : Nat) : Prop := tick / 512 ≤ s.clk.time / 512
  let answers (i : Instr) (v : State) (also : State → Prop) : Prop := ∃ t, exec i s = .next t ∧ also t ∧
    unrouted t = unrouted { v with pending := s.pending }
  let ends (i : Instr) (u : State) (result time : Nat) : Prop :=
    answers i (modLine (modCrash u fun k => { k with
      arbResult := result, arbTime := time
      ownTime := if k.originator = true ∧ u.sup.line.rejoin = false then k.ownTime else 0 }) fun l => { l with
      arb := .done, origHold := false, holding := u.sup.crash.latched && !u.sup.crash.clearing }) fun t => shows t 33
  (l.origHold = true →
    let u := advance s (s.sup.crash.time + 4000)
    late (s.sup.crash.time + 4000) → running u = true → u.sup.line.origHold = true →
    u.sup.crash.time = s.sup.crash.time →
    answers .originatorHoldEnd (modLine u fun l => { l with origHold := false }) fun _ => True) ∧
  (∀ h, l.arb = .gap h →
    let u := advance s (h + 800)
    late (h + 800) → running u = true → u.sup.line.arb = .gap h → answers .arbitrationStart
      (modLine u fun l => { l with arb := .running (h + 800), arbLow := 0, faultCycle := true }) fun _ => True) ∧
  (∀ start e, l.arb = .running start → l.faultAt = some e → start + 1680 ≤ e + 8000 →
    let u := advance s (start + 1680)
    let k := u.sup.crash
    late (start + 1680) → running u = true → u.sup.line.arb = .running start → u.sup.line.faultAt = some e →
    let high (i : Nat) : Bool := others.getLsbD i && !u.sup.line.arbLow.testBit i
    let heard := (List.range 20).foldl (fun a i => 2 * a + (if high i then 1 else 0)) 0
    let tie (b : Bool) : Nat := if b || !high 20 then 0x4000 else 0
    let own := k.ownTime * 16 + u.sup.line.index
    (k.originator = true → u.sup.line.rejoin = false → k.ownTime < 2 ^ 16 → u.sup.line.index < 15 →
      ((∀ i, i < 20 → own.testBit (19 - i) = true → high i = true) →
        ends (.arbitrationResult others) u (0x8000 + tie false + u.sup.line.index) k.ownTime) ∧
      (∀ m, m < 20 → (∀ i, i < m → high i = own.testBit (19 - i)) → own.testBit (19 - m) = true →
        high m = false →
        ends (.arbitrationResult others) u (0x8000 + tie (decide (k.ownTime < heard / 16 + 16)) + heard % 16)
          (heard / 16))) ∧
    (k.originator = false ∨ u.sup.line.rejoin = true →
      ends (.arbitrationResult others) u (0x8000 + tie false + heard % 16) (heard / 16))) ∧
  (∀ e, arbBusy l = true → l.faultAt = some e →
    let u := advance s (e + 8000)
    late (e + 8000) → running u = true → arbBusy u.sup.line = true → u.sup.line.faultAt = some e →
    ends .arbitrationAbandon u 0x200F 0)

/-! ## Records -/

/-- R264, R265, R267, R269, R271: a commit starts when the capture is complete and the arbitration over, with the
record of R265; read back, it is the newest of its ring with event 1 and starts a planned husk; a slot that does not
verify is left, the next slot gets the second attempt, and a second failure shows event 37. Every other byte of the
NVM stays. A kernel record is 256 bytes and valid. -/
def Obligations.KernelCommitsWriteTheRecord : Prop :=
  (∀ (s : State) (c : Capture) (k : Bool),
    (kernelRecord s c k).length = 256 ∧ slotValid .kernel (kernelRecord s c k) = true) ∧
  ∀ (s : State) (c : Capture), running s = true → s.recs.cap = some c →
  let r := s.recs
  let after (f : Rec → Rec) : State := { s with recs := f r }
  let outside (t : State) (n : Nat) : Prop :=
    ∀ a, a < 0x40000 + 256 * n ∨ 0x40000 + 256 * n + 256 ≤ a → nvmByte t.recs.nvm a = nvmByte r.nvm a
  (r.commit = .waiting →
    (c.closed = true → arbBusy s.sup.line = false → r.sumBusy = none → ∃ t, exec .kernelCommitStart s = .next t ∧
      unrouted t = unrouted (after fun r => { r with commit := .busy false false, job := kernelRecord s c false })) ∧
    (c.closed = false ∨ arbBusy s.sup.line = true →
      ∃ t, exec .kernelCommitStart s = .next t ∧ unrouted t = unrouted s)) ∧
  (∀ second, r.commit = .busy second false → r.job.length = 256 →
    let n := if second then (r.kernel.next + 1) % 512 else r.kernel.next
    let seq := (r.kernel.seq + 1) % 2 ^ 32
    (∃ t, exec (.kernelCommitEnd true) s = .next t ∧ shows t 1 ∧ outside t n ∧
      nvmBytes t.recs.nvm (0x40000 + 256 * n) 256 = r.job ∧
      unrouted t = unrouted (after fun r => { r with
        nvm := t.recs.nvm, commit := .ended, commitEnded := true, job := []
        huskBusy := if c.huskPlanned then some seq else none
        kernel := { r.kernel with head := some n, next := (n + 1) % 512, seq := seq } })) ∧
    (second = false → ∃ t, exec (.kernelCommitEnd false) s = .next t ∧ outside t n ∧
      unrouted t = unrouted { after (fun r => { r with nvm := t.recs.nvm, commit := .busy true false }) with
        fresh := s.fresh + 1 }) ∧
    (second = true → ∃ t, exec (.kernelCommitEnd false) s = .next t ∧ shows t 37 ∧ outside t n ∧
      unrouted t = unrouted { after (fun r => { r with
        nvm := t.recs.nvm, commit := .ended, commitEnded := true, job := [], huskBusy := none }) with
        fresh := s.fresh + 1 }))

/-- R271, R272, R274, R276, R277: the husk record is read back with event 36 or left torn without a retry; a summary
write takes the pending entry that comes first, no sooner than SUM_INT ms after the latest one and ahead of an image
chunk that waits, and its end frees the entry, or the report of KIND 6 with its counts. That the content is the one that the
entry has at the end, and that the end frees it also where the read-back differs, are this model's choices (log 19). Every
byte outside the slot stays. -/
def Obligations.HuskAndSummaryWrites : Prop := ∀ (s : State), running s = true →
  let r := s.recs
  let after (f : Rec → Rec) : State := { s with recs := f r }
  let outside (t : State) (a n : Nat) : Prop := ∀ i, i < a ∨ a + n ≤ i → nvmByte t.recs.nvm i = nvmByte r.nvm i
  (∀ q c, r.huskBusy = some q → r.cap = some c →
    let a := 0x60000 + 4096 * c.huskSlot
    (∃ t, exec (.huskWriteEnd true) s = .next t ∧ shows t 36 ∧
      unrouted t = unrouted (after fun r => { r with
        nvm := nvmPut r.nvm a (huskRecord s c q), huskBusy := none
        husk := { r.husk with
          head := some c.huskSlot, next := (c.huskSlot + 1) % 64, seq := (r.husk.seq + 1) % 2 ^ 32 } })) ∧
    (∃ t, exec (.huskWriteEnd false) s = .next t ∧ outside t a (huskRecord s c q).length ∧ unrouted t = unrouted
      { after (fun r => { r with nvm := t.recs.nvm, huskBusy := none }) with fresh := s.fresh + 1 })) ∧
  (∀ p, firstPending r = some p → r.scanned = true → (r.commit = .idle ∨ r.commit = .ended) → r.huskBusy = none →
    r.sumBusy = none → (∀ q, loadWaits (req s q) = false) →
    (r.sumStart = none ∨ ∃ b, r.sumStart = some b ∧ b + act s 0x1700 1 * 200000 ≤ s.clk.time) →
    ∃ t, exec .summaryWriteStart s = .next t ∧ unrouted t = unrouted (after fun r => { r with
      sumBusy := some (p.kind, p.cause, p.source), sumStart := some s.clk.time })) ∧
  (∀ kind cause source e, r.sumBusy = some (kind, cause, source) →
    (kind ≠ 6 ∧ r.coal.find? (fun e => sameKey e kind cause source) = some e ∨
      kind = 6 ∧ ∃ f ep, r.report = some (f, ep) ∧ e = {
        kind := 6, cause := 0, source := 0, count := 1, first := f, last := f, ep := ep, d0 := r.mrg, d1 := r.lost }) →
    let a := 0xA0000 + 32 * r.summary.next
    let freed (r : Rec) : Rec :=
      if kind = 6 then { r with report := none, mrg := 0, lost := 0, sumBusy := none }
      else { r with coal := r.coal.filter (fun e => !sameKey e kind cause source), sumBusy := none }
    (∃ t, exec (.summaryWriteEnd true) s = .next t ∧ outside t a 32 ∧
      nvmBytes t.recs.nvm a 32 = summaryRecord ((r.summary.seq + 1) % 2 ^ 32) e ∧
      unrouted t = unrouted (after fun r => freed { r with
        nvm := t.recs.nvm
        summary := { r.summary with
          head := some r.summary.next, next := (r.summary.next + 1) % 2048, seq := (r.summary.seq + 1) % 2 ^ 32 } })) ∧
    (∃ t, exec (.summaryWriteEnd false) s = .next t ∧ outside t a 32 ∧
      unrouted t = unrouted { after (fun r => freed { r with nvm := t.recs.nvm }) with fresh := s.fresh + 1 }))

/-- R285, R286, R287, R288: HOLD_LOW while V_HOLD is judged (from its first value at or above HOLD_WARN, or from 100 ms
after entry to STANDBY) sets LOW with event 35 and HOLD_RECOVER clears it; a write
of SELECT empties the view and begins its load; a load ends, while no write occupies the NVM, with the 256 bytes that
SELECT names. -/
def Obligations.HoldUpAndViews : Prop := ∀ (s : State) (r : Requester),
  let after (f : Rec → Rec) : State := { s with recs := f s.recs }
  (running s = true →
    (s.recs.holdLow = false →
      (s.recs.reached = true ∨ serviceable s.sup.mode = true ∧ s.clk.standbyAt + 20000000 ≤ s.clk.time) →
      ∃ t, exec .holdLow s = .next t ∧ shows t 35 ∧ unrouted t = unrouted (after fun r => { r with holdLow := true })) ∧
    (∃ t, exec .holdRecover s = .next t ∧ unrouted t = unrouted (after fun r => { r with
      holdLow := false, reached := true, charged := r.charged || serviceable s.sup.mode }))) ∧
  (∀ v sel, canWrite s r (viewIdx v) 1 sel = true →
    let w := served s r
    ∃ t, exec (.viewSelect r v sel) s = .next t ∧ unrouted t = unrouted {
      modReq (afterWrite w r) r (fun q => setView q v { View.reset with select := sel, loading := true }) with
      pending := s.pending }) ∧
  (∀ v, running s = true → (viewOf (req s r) v).loading = true → (s.recs.commit = .idle ∨ s.recs.commit = .ended) →
    s.recs.huskBusy = none → s.recs.sumBusy = none →
    let sel := (viewOf (req s r) v).select
    ∃ t x, exec (.viewLoadDone r v) s = .next t ∧ unrouted t = unrouted (modReq s r fun q => setView q v x) ∧
      x.select = sel ∧ x.ready = true ∧ x.loading = false ∧
      (sel < 0x8000 → x.slot = sel % 2048 ∧
        (v = .kernel → x.data = nvmBytes s.recs.nvm (0x40000 + 256 * (sel % 2048)) 256) ∧
        (v = .husk → x.data = nvmBytes s.recs.nvm (0x60000 + 4096 * (sel % 2048) + 256 * (sel / 2048 % 16)) 256)) ∧
      (0x8000 ≤ sel → sel < 0x10000 → (byAge s.recs.nvm v).length ≤ sel % 2048 → x.valid = false ∧ x.data = []))

/-! ## Image update -/

/-- R388, R389, R390, R392: BEGIN opens an update of the inactive bank with a length that R381 admits, and answers 9
or 2 else; a whole chunk goes to the bank at ADDR, and any other one sets SEQ_ERR, with the last of the 28 words that a CAN
host's chunk takes at the store port (R80), and at once where the two-wire target has gathered them; its write ends with ADDR 56
further; ABORT closes the update. That BEGIN also ends a check that runs, leaves RESULT as it is, and takes the bytes of an
older chunk that still waits as none of its own, is this model's choice (log 18). -/
def Obligations.ImageUpdatesWriteTheInactiveBank : Prop := ∀ (s : State) (r : Requester),
  let answers (c : Instr) (w : State) (f : Image → Image) : Prop := ∃ t, exec c s = .next t ∧
    unrouted t = unrouted { afterWrite w r with image := f w.image, pending := s.pending }
  (let w := served s r
   let updB := decide (act w 0x1F00 2 = 1)
   let len := act w 0x1F00 3
   let lenOk : Prop := len % 4 = 0 ∧ 84 ≤ len ∧ len ≤ 131072
   (canWrite s r 0x1F00 1 1 = true →
    (w.image.active = some updB → answers (.imageBegin r) w fun i => { i with result := 9 }) ∧
    (w.image.active ≠ some updB → ¬ lenOk → answers (.imageBegin r) w fun i => { i with result := 2 }) ∧
    (w.image.active ≠ some updB → lenOk → answers (.imageBegin r) w fun i => { i with
      openUpd := true, updB := updB, updLen := len, addr := 0, verified := false, seqErr := false, wrFail := false
      checking := false, busy := i.chunk.isSome, chunk := i.chunk.map fun c => { c with own := false } })) ∧
   (canWrite s r 0x1F00 1 4 = true →
    answers (.imageAbort r) w fun i => { i with openUpd := false, verified := false })) ∧
  (∀ bs : List Byte,
    let i := s.image
    let waits (k : Nat) : Access := { req := r, op := .chunk bs, words := k }
    let writes (t : State) : Prop :=
      let after (i : Image) : State := { afterWrite s r with hostQ := [], image := i }
      (bs.length = 56 → i.openUpd = true → i.busy = false → i.addr < i.updLen → unrouted t = unrouted (after { i with
        busy := true
        chunk := some {
          addr := (if i.updB then 0x20000 else 0) + i.addr, bytes := bs.take (i.updLen - i.addr), own := true } })) ∧
      (bs.length ≠ 56 ∨ i.openUpd = false ∨ i.busy = true ∨ i.updLen ≤ i.addr →
        unrouted t = unrouted (after { i with seqErr := true }))
    admits s r 0x1F00 16 0 = true →
    (turn s .twi = true → r = .twi → ∃ t, exec (.imageChunk r bs) s = .next t ∧ writes t) ∧
    (turn s r = true → r = .cana ∨ r = .canb → ∃ t, exec (.imageChunk r bs) s = .next t ∧
      unrouted t = unrouted { s with hostQ := [waits 27] }) ∧
    (s.hostQ = [waits 1] → portReady s = true → writes (hostWord s))) ∧
  (∀ c, running s = true → s.image.chunk = some c → (s.recs.commit = .idle ∨ s.recs.commit = .ended) →
    s.recs.huskBusy = none → s.recs.sumBusy = none →
    let i := s.image
    let addr := if c.own then i.addr + 56 else i.addr
    (∃ t, exec (.imageChunkDone true) s = .next t ∧ unrouted t = unrouted { s with
      recs := { s.recs with nvm := nvmPut s.recs.nvm c.addr c.bytes }
      image := { i with chunk := none, busy := i.checking, addr := addr } }) ∧
    (∃ t, exec (.imageChunkDone false) s = .next t ∧
      (∀ a, a < c.addr ∨ c.addr + c.bytes.length ≤ a → nvmByte t.recs.nvm a = nvmByte s.recs.nvm a) ∧
      unrouted t = unrouted { s with
        recs := { s.recs with nvm := t.recs.nvm }, fresh := s.fresh + 1
        image := { i with chunk := none, busy := i.checking, addr := addr, wrFail := i.wrFail || c.own } }))

/-- R384, R390, R391, R386: VERIFY of an update whose chunks are all written checks the bank, and answers 10 else, also
where no update is open (this model's choice, log 18); the check ends with its code, or 8 for a GEN that is not above the
active one, and event 61; ACTIVATE after a good check resets the device with cause 7, in SERVICE with the armed key and in
BOOT-HOLD without one; KEY and AUTH_REQUIRED are set with the armed key alone, and AUTH_REQUIRED only beside a key. -/
def Obligations.ImageChecksGateActivation : Prop := ∀ (s : State) (r : Requester),
  let answers (c : Instr) (w : State) (f : Image → Image) : Prop := ∃ t, exec c s = .next t ∧
    unrouted t = unrouted { afterWrite w r with image := f w.image, pending := s.pending }
  (let w := served s r
   let i := w.image
   (canWrite s r 0x1F00 1 2 = true →
    (i.openUpd = true → i.seqErr = false → i.updLen ≤ i.addr → i.wrFail = false →
      answers (.imageVerify r) w fun i => { i with busy := true, checking := true }) ∧
    (i.openUpd = false ∨ i.seqErr = true ∨ i.addr < i.updLen ∨ i.wrFail = true →
      answers (.imageVerify r) w fun i => { i with result := 10, verified := false })) ∧
   (canWrite s r 0x1F00 1 3 = true →
    let free : Prop := armed w r = true ∨ inHoldNow w = true
    (i.verified = true → free → i.chunk = none → (w.recs.commit = .idle ∨ w.recs.commit = .ended) →
      ∃ t, exec (.imageActivate r) s = .next t ∧ t.pwr.held = true ∧ t.pwr.causes = 2 ^ 7 ∧ t.sup.mode = .boot ∧
        t.clk.time = 0 ∧ t.dict = [] ∧ t.recs.nvm = w.recs.nvm ∧ t.image.keySlot = i.keySlot ∧
        t.image.authReq = i.authReq) ∧
    (i.verified = false ∨ ¬ free → answers (.imageActivate r) w id))) ∧
  (running s = true → s.image.checking = true →
    let i := s.image
    let code := checkBank s.recs.nvm i i.updB
    let stale : Prop := code = 1 ∧ i.active.isSome = true ∧ imgGen s.recs.nvm i.updB ≤ i.gen
    ∃ t, exec .imageVerifyDone s = .next t ∧ shows t 61 ∧ unrouted t = unrouted { s with image := t.image } ∧
      t.image.checking = false ∧ t.image.active = i.active ∧ t.image.keySlot = i.keySlot ∧
      (stale → t.image.result = 8 ∧ t.image.verified = false) ∧
      (¬ stale → t.image.result = code ∧ (t.image.verified = true ↔ code = 1 ∧ i.openUpd = true))) ∧
  (∀ v, canWrite s r 0x1F00 10 v = true →
    let w := served s r
    (armed w r = true → answers (.imageKeyWrite r v) w fun i => { i with keySlot := v, keySet := true }) ∧
    (armed w r = false → answers (.imageKeyWrite r v) w id)) ∧
  (canWrite s r 0x1F00 11 2 = true →
    let w := served s r
    armed w r = true →
    (w.image.keySet = true → answers (.authRequiredSet r) w fun i => { i with authReq := true }) ∧
    (w.image.keySet = false → answers (.authRequiredSet r) w id))

/-! ## Power, reset and BOOT -/

/-- R46, R48, R349, R350, R351, R357, R358, R359, R417, R524: what begins and ends a reset. A source in reset is added to
the causes; the release, by PLL lock too, starts BOOT at tick 0 with the levels of the ADDR balls; outside a critical
phase no record is written. A ball reads low, or high, where both currents show it so, and open otherwise. This model's own
readings are: a PLL that SLEEP has stopped has no lock to lose (log 1), and what a reset keeps and what restarts (the
bank-good bits, ADDR_SEL, a cause of SUPPLY or THERMAL alone, the levels of the pins, a power loss handled as a collapse;
log 25, log 26). It speaks of a device that writes nothing to its NVM: a reset during such a write is no part of it. -/
def Obligations.ResetsAndTheirCauses : Prop := ∀ (s : State) (w : CoreSupply) (a b : AddrSense), nvmAtRest s →
  let resets (c : Instr) (k : Nat) : Prop :=
    ∃ t, exec c s = .next t ∧ unrouted t = unrouted (inReset s (heldBy s.pwr k))
  let lvl (x : AddrSense) : Nat :=
    if x.sourceLow && x.sinkLow then 0 else if x.sourceHigh && x.sinkHigh then 2 else 1
  let boots (c : Instr) (addr : Nat) : Prop :=
    ∃ t, exec c s = .next t ∧ running t = true ∧ act t 0x1C00 2 = 0x70 + addr ∧ act t 0x1C01 2 = 0x70 + addr ∧
      unrouted t = unrouted
        { inReset s { s.pwr with held := false, srcs := 0, resetCause := s.pwr.causes, retained := true } with
          boot := Boot.reset addr, clk := { Clock.reset with pllLocked := true }, dict := t.dict }
  (s.pwr.powered = false → ∃ t, exec .powerOn s = .next t ∧ unrouted t = unrouted
    (inReset s { s.pwr with powered := true, held := true, srcs := 1, causes := 1 })) ∧
  (s.pwr.powered = true →
    resets .resetNAssert 5 ∧
    (let stopped : Prop := s.sup.mode = .sleep ∧ s.sleep.entered = true ∧ s.sleep.wake = none
     (¬ stopped → ∃ t, exec .pllLockLoss s = .next t ∧ unrouted t = unrouted
      (inReset { s with clk := { s.clk with pllLocked := false } } (heldBy s.pwr 4))) ∧
     (stopped → ∃ t, exec .pllLockLoss s = .next t ∧ unrouted t = unrouted s)) ∧
    (s.pwr.held = true ∨ s.sup.mode ∈ [.standby, .run, .descend] ∧ retryingPod s = none →
      resets .collapse 1 ∧ resets (.supplyLoss w) 2 ∧ resets .thermalShutdown 3 ∧
      ∃ t, exec .powerLoss s = .next t ∧ t.pwr.powered = false ∧ running t = false ∧ t.recs.nvm = s.recs.nvm ∧
        t.image.keySlot = s.image.keySlot ∧ t.image.authReq = s.image.authReq) ∧
    (s.pwr.held = true → s.pwr.srcs.testBit 4 = false →
      boots (.resetRelease a b) (3 * lvl b + lvl a)) ∧
    (s.pwr.held = true → s.pwr.srcs = 2 ^ 4 → boots (.pllLock a b) (3 * lvl b + lvl a)) ∧
    (s.pwr.held = false → s.sup.mode = .sleep → s.sleep.entered = false ∨ s.sleep.wake = none →
      ∃ t, exec (.supplyLoss w) s = .next t ∧
      unrouted t = unrouted { s with pwr := { s.pwr with retained := false } }))

/-- R280, R281, R282, R283, R284: a collapse in a critical phase (BOOT, ASCEND, SERVICE, CRASH, or while a pod rises for a
retry) starts the kernel record with COLLAPSED and cause 13 on hold-up energy, with event 34, and its end writes the slot.
That the device is in reset while the commit runs, and that the event shows there, is this model's reading (log 19,
log 26). -/
def Obligations.CriticalCollapsesAreRecorded : Prop := ∀ s : State, s.pwr.powered = true →
  (nvmAtRest s → s.pwr.held = false → s.recs.scanned = true →
    (s.sup.mode ∈ [.boot, .ascend, .service, .crash] ∨
      ∃ p, p < 48 ∧ (pod s p).inUse = true ∧ (pod s p).retryActive = true ∧ (pod s p).st = .rising) →
    ∃ t, exec .collapse s = .next t ∧ t.pwr = heldBy s.pwr 1 ∧ running t = false ∧ t.sup.mode = .boot ∧
      t.recs.commit = .busy false true ∧ t.recs.kernel = s.recs.kernel ∧ t.recs.nvm = s.recs.nvm ∧ shows t 34 ∧
      t.recs.job.length = 256 ∧ nat (t.recs.job.take 2) = 0x4B01 ∧ (t.recs.job.getD 2 0).getLsbD 7 = true ∧
      (t.recs.job.getD 28 0).toNat = 13) ∧
  (s.pwr.held = true → s.recs.commit = .busy false true → s.recs.job.length = 256 →
    ∃ t, exec (.kernelCommitEnd true) s = .next t ∧ t.recs.commit = .idle ∧ t.pwr = s.pwr ∧
      nvmBytes t.recs.nvm (0x40000 + 256 * s.recs.kernel.next) 256 = s.recs.job ∧
      ∀ i, i < 0x40000 + 256 * s.recs.kernel.next ∨ 0x40100 + 256 * s.recs.kernel.next ≤ i →
        nvmByte t.recs.nvm i = nvmByte s.recs.nvm i)

/-- R41, R261, R360, R361, R493, R494, R495, R496, R497, R507: each BOOT step done is noted, and a failing one, or one
that does not end in time, begins BOOT-HOLD with its cause. A run of a partition passes where it reaches its terminal
count with the expected signature; SUPERVISE needs it of both copies, and a report of every comparator group. A failed
crystal check leaves MON_FAIL as it is, and the first copy that does not pass gives SUPERVISE its result (this model's
choices, log 39 and log 23). -/
def Obligations.BootStepsAndTheirFailures : Prop := ∀ (s : State) (part : Nat) (run copy : BistRun) (silent : List Nat),
  running s = true → s.sup.mode = .boot →
  let holds (c : Instr) (cause : Nat) (also : State → Prop) : Prop := ∃ t, exec c s = .next t ∧ t.boot.hold = true ∧
    t.boot.cause = cause ∧ t.bist.bootCause = cause ∧ t.sup.mode = .boot ∧ also t
  (s.boot.hold = false →
    (s.boot.crystalDone = false →
      (∃ t, exec (.crystalCheck true) s = .next t ∧ unrouted t = unrouted { s with
        boot := { s.boot with crystalDone := true }, clk := { s.clk with crystal := true } }) ∧
      (∃ t, exec (.crystalCheck false) s = .next t ∧ unrouted t = unrouted { s with
        boot := { s.boot with crystalDone := true }, clk := { s.clk with bootInternal := true, degraded := true } })) ∧
    (s.boot.memDone = false →
      (∃ t, exec (.memoryBist none) s = .next t ∧
        unrouted t = unrouted { s with boot := { s.boot with memDone := true } }) ∧
      (∀ c : MemCell, c.ram < 32 → c.addr < 2 ^ 18 → c.bit < 64 → holds (.memoryBist (some c)) 1 fun t =>
        t.bist.memFail = 2 ^ 31 + c.ram * 2 ^ 26 + c.addr * 2 ^ 8 + c.bit)) ∧
    (s.boot.memDone = true → s.boot.ringDone = false → ∃ t, exec .ringScan s = .next t ∧
      unrouted t = unrouted { s with boot := { s.boot with ringDone := true }, recs := t.recs } ∧
      t.recs.nvm = s.recs.nvm ∧ t.recs.scanned = true ∧ t.recs.kernel = scanRing s.recs.nvm .kernel ∧
      t.recs.husk = scanRing s.recs.nvm .husk ∧ t.recs.summary = scanRing s.recs.nvm .summary) ∧
    (∀ n, (n = 1 ∧ s.boot.crystalDone = false ∨ n = 2 ∧ s.boot.memDone = false ∨ n = 3 ∧ s.boot.logicDone ≠ 63 ∨
        n = 4 ∧ s.boot.ringDone = false ∨ n = 5 ∧ s.boot.imageDone = false ∨
        n = 6 ∧ s.boot.imageDone = true ∧ s.boot.refFrames ≠ 0) →
      holds (.bootStepOverrun n) 6 fun t => t.bist.bootPart = n)) ∧
  (s.boot.memDone = true → part ≤ 5 → get s.bist.part 0 part = 0 →
    let count := ([1048576, 262144, 196608, 98304, 98304, 131072] : List Nat).getD part 0
    let res (r : BistRun) : Nat :=
      if r.patterns < count then 3 else if r.misr % 2 ^ 32 = (Config.expectedSig part).toNat then 1 else 2
    let result := if part ≠ 0 then res run else if silent ≠ [] then 2 else if res run ≠ 1 then res run else res copy
    let unit (r : BistRun) (u : BistUnit) : Prop :=
      u.misr = r.misr % 2 ^ 32 ∧ u.count = min r.patterns count ∧ u.prpg = (Config.prpg part (min r.patterns count)).toNat
    let bist (t : State) : Prop := get t.bist.part 0 part = 4096 * result + 2 ^ 9 ∧
      get t.bist.sig 0 part = run.misr % 2 ^ 32 ∧ unit run (get t.bist.units BistUnit.reset part) ∧
      (part = 0 → unit copy (get t.bist.units BistUnit.reset 6))
    (result = 1 → ∃ t, exec (.logicBist part run copy silent) s = .next t ∧ bist t ∧ unrouted t = unrouted
      { s with boot := { s.boot with logicDone := s.boot.logicDone ||| 2 ^ part }, bist := t.bist }) ∧
    (result ≠ 1 → s.boot.hold = false →
      holds (.logicBist part run copy silent) 2 fun t => bist t ∧ t.bist.bootPart = part ∧ t.bist.bootRes = result) ∧
    (result ≠ 1 → s.boot.hold = true → s.boot.cause = 2 → ∃ t, exec (.logicBist part run copy silent) s = .next t ∧
      bist t ∧ t.boot = s.boot ∧ t.bist.bootPart = min part s.bist.bootPart))

/-- R385: the candidates of the image load are the banks whose check does not answer 11, in order of decreasing GEN
with bank A first on equal GEN. It loads the first one that checks with code 1, and BANK_FALLBACK shows when that is
not the first candidate; with no candidate it begins BOOT-HOLD with cause 4, and with candidates but none loaded with
cause 3. That the load's own frame counts before the sixteen reference-check frames is this model's reading (log 29). -/
def Obligations.ImageLoadTakesTheNewestGoodBank : Prop := ∀ s : State, running s = true → s.sup.mode = .boot →
  s.boot.hold = false → s.boot.crystalDone = true → s.boot.memDone = true → s.boot.logicDone = 63 →
  s.boot.ringDone = true → s.boot.imageDone = false →
  let m := s.recs.nvm
  let a := checkBank m s.image false
  let b := checkBank m s.image true
  let loads (bank fallback : Bool) : Prop := ∃ t, exec .imageLoad s = .next t ∧ t.boot.imageDone = true ∧
    t.boot.hold = false ∧ t.boot.bankB = bank ∧ t.boot.bankFallback = fallback ∧ t.image.active = some bank ∧
    t.image.gen = imgGen m bank ∧ t.image.crc = imgCrc m bank ∧ t.boot.refFrames = 17 ∧ t.recs.nvm = m
  let holds (cause : Nat) : Prop := ∃ t, exec .imageLoad s = .next t ∧ t.boot.imageDone = false ∧ t.boot.hold = true ∧
    t.boot.cause = cause ∧ t.recs.nvm = m
  (a = 1 → b ≠ 1 ∨ imgGen m true ≤ imgGen m false → loads false (decide (b ≠ 11 ∧ imgGen m false < imgGen m true))) ∧
  (b = 1 → a ≠ 1 ∨ imgGen m false < imgGen m true → loads true (decide (a ≠ 11 ∧ imgGen m true ≤ imgGen m false))) ∧
  (a ≠ 1 → b ≠ 1 → ¬ (a = 11 ∧ b = 11) → holds 3) ∧
  (a = 11 → b = 11 → holds 4)

/-- R369, R370, R371, R372, R47, R100, R101, R374, R436: SLEEP completes its entry, takes an enabled wake with its
WAKE_INFO, and returns to STANDBY with event 62, the ports' announces ahead and the converters' frame begun anew;
without retention, also where a supply is lost after the wake was taken, the wake begins a reset with cause 8. -/
def Obligations.SleepWakesToStandby : Prop := ∀ (s : State) (n addr : Nat) (rising : Bool),
  s.pwr.powered = true → s.pwr.held = false → s.sup.mode = .sleep →
  let cfg := act s 0x0200 9
  let woken (c : Instr) (w : Wake) (code : Nat) : Prop :=
    (s.pwr.retained = true → ∃ t, exec c s = .next t ∧ t.sleep.wake = some w ∧ t.sleep.wakeInfo = 0xC000 + code ∧
      t.sleep.coreLow = false ∧ t.sup.mode = .sleep ∧ t.dict = s.dict ∧ t.recs.nvm = s.recs.nvm) ∧
    (s.pwr.retained = false → nvmAtRest s → ∃ t, exec c s = .next t ∧ t.pwr = heldBy s.pwr 8 ∧ t.sup.mode = .boot ∧
      t.sleep.wakeInfo = 0x8000 + code ∧ t.recs.nvm = s.recs.nvm)
  (s.sleep.entered = false →
    (s.sleep.wake = none → ∃ t, exec .sleepEntryComplete s = .next t ∧
      unrouted t = unrouted { s with sleep := { s.sleep with entered := true } }) ∧
    (s.sleep.wake = some .timer → woken .sleepEntryComplete .timer 3)) ∧
  (s.sleep.entered = true → s.sleep.wake = none →
    (cfg.testBit 13 = true → woken .wakeTimer .timer 3) ∧
    (n < 8 → pevLive s n = true → cfg.testBit n = true → pevWants s n rising = true →
      woken (.wakePinEvent n rising) (.pin n) (256 * n + 2)) ∧
    (cfg.testBit 14 = true → twiConnected s = true → twiMatches s addr = true → s.twi.ready = false →
      s.twi.set.ctrl.testBit 15 = true → woken (.wakeTwoWire addr) .twoWire 1)) ∧
  (s.sleep.entered = true → ∀ w, s.sleep.wake = some w →
    (∃ t, exec .twoWireTargetReady s = .next t ∧ unrouted t = unrouted { s with twi := { s.twi with ready := true } }) ∧
    (nvmAtRest s → ∃ t, exec (.supplyLoss .v33) s = .next t ∧ t.pwr = heldBy { s.pwr with retained := false } 8 ∧
      t.sup.mode = .boot ∧ t.sleep.wakeInfo = 0x8000 + (match w with
        | .twoWire => 1
        | .pin n => n % 8 * 256 + 2
        | .timer => 3) ∧ t.recs.nvm = s.recs.nvm) ∧
    (s.sup.line.low = false → ∃ t, exec .wakeReady s = .next t ∧ t.sup.mode = .standby ∧ running t = true ∧
      t.sleep.entered = false ∧ t.sleep.wake = none ∧ t.twi.ready = true ∧ t.sup.line.role = .listening ∧
      t.dict = s.dict ∧ t.recs.nvm = s.recs.nvm ∧ t.clk.time = s.clk.time ∧ t.clk.standbyAt = s.clk.time ∧
      (∀ p, (port t p).finishing = false ∧ (port t p).announce = portOn s p) ∧
      (s.boot.imageDone = true → s.boot.hold = false → ∀ g, g < 8 → (conv t g).urgentRun = 0 ∧ (conv t g).disp14 = none) ∧
      shows t 62 ∧ shows t 25))

/-- R42, R43, R285, R286, R352, R353, R354, R355, R356, R460, R511: the supply monitors, warnings and the crystal monitor
change their own registers. The bank monitors follow their supplies in SLEEP and in reset too (this model's choice, log 1,
log 25). The pins of a bank that becomes good are driven from the next CLK_BUS edge on, and its event lines take the present
level without an event, in SLEEP too, where the balls show what they do in SLEEP. Measurements come every 256 frames, from
the first one after a reset on, whose frame R355 does not name (log 28); at any other time none is taken. -/
def Obligations.MonitorsChangeTheirRegisters : Prop := ∀ (s : State) (g b edges : Nat) (bank : VioBank) (good : Bool)
    (m : Measured), s.pwr.powered = true →
  let supply (c : Instr) (f : Supply → Supply) : Prop :=
    ∃ t, exec c s = .next t ∧ unrouted t = unrouted (modSupply s f)
  let clock (f : Clock → Clock) : Prop :=
    ∃ t, exec (.crystalMonitorGate edges) s = .next t ∧ unrouted t = unrouted { s with clk := f s.clk }
  let n := match bank with
    | .a => 8
    | .b => 9
  (g < 8 → supply (.venBankChange g good) fun u => { u with banks := putBit u.banks g good }) ∧
  let banked := modSupply s fun u => { u with banks := putBit u.banks n good }
  (good = false ∨ s.sup.supply.banks.testBit n = true ∨ s.pwr.held = true →
    supply (.vioBankChange bank good) (fun u => { u with banks := putBit u.banks n good })) ∧
  let shown : State := if s.sup.mode = .sleep then
    { banked with pins := { s.pins with driven := List.replicate 3 (drivenAt banked s.clk.time) } } else banked
  (good = true → s.sup.supply.banks.testBit n = false → s.pwr.held = false →
    ∃ t, exec (.vioBankChange bank good) s = .next t ∧
      unrouted t = unrouted { shown with pins := { shown.pins with
        vio := if running s then put s.pins.vio 0 n ((s.clk.time / 4 + 1) * 4) else s.pins.vio, pev := t.pins.pev } } ∧
      ∀ k, k < 8 → pevOf t k = if (pevCfg s k).testBit 15 ∧ pinBank (pevPin s k) = n then
        { level := pinLevel shown (pevPin s k), cnt := 0 } else pevOf s k) ∧
  let due := ∀ f, s.sup.supply.measured = some f → f < frame s ∧ (frame s - f) % 256 = 0
  (running s = true → ¬ due → ∃ t, exec (.supplyMeasure m) s = .next t ∧ unrouted t = unrouted s) ∧
  (running s = true → due → m.vaux < 65536 → m.v33 < 65536 → m.v09 < 65536 → m.vhold < 256 → m.tj < 65536 →
    ∃ t, exec (.supplyMeasure m) s = .next t ∧ unrouted t = unrouted
      { modSupply s (fun u => { u with
          measured := some (frame s), vaux := m.vaux, v33 := m.v33, v09 := m.v09, vauxMin := min u.vauxMin m.vaux, tj := m.tj
          tjMax := if s16 u.tjMax < s16 m.tj then m.tj else u.tjMax }) with
        recs := { s.recs with
          vhold := m.vhold
          charged := s.recs.charged || (serviceable s.sup.mode && decide (act s 0x1700 4 ≤ m.vhold))
          reached := s.recs.reached || decide (act s 0x1700 4 ≤ m.vhold) } }) ∧
  (running s = true → serviceable s.sup.mode = true →
    (s.sup.supply.warn.testBit b = false → warnCondition s b = true →
      ∃ t, exec (.supplyWarning b) s = .next t ∧ shows t 43 ∧
        unrouted t = unrouted (modSupply s fun u => { u with warn := u.warn ||| 2 ^ b })) ∧
    (10 ≤ b ∨ warnCondition s b = false →
      supply (.supplyWarningClear b) fun u => { u with warn := clrBit u.warn b })) ∧
  (running s = true →
    (s.sup.supply.tempWarn = false → ∃ t, exec .tempWarning s = .next t ∧ shows t 44 ∧
      unrouted t = unrouted (modSupply s fun u => { u with tempWarn := true })) ∧
    supply .tempWarningClear (fun u => { u with tempWarn := false }) ∧
    (s.clk.crystal = true →
      (960 ≤ edges → edges ≤ 1088 → clock fun c => { c with failGates := 0 }) ∧
      (edges < 960 ∨ 1088 < edges → s.clk.failGates = 0 → clock fun c => { c with failGates := 1, monFail := true }) ∧
      (edges < 960 ∨ 1088 < edges → 0 < s.clk.failGates →
        (∃ t, exec (.crystalMonitorGate edges) s = .next t ∧ shows t 42) ∧
        clock fun c => { c with failGates := 2, monFail := true, crystal := false, fallback := true })))
/-! ## CAN FD and the two-wire target -/

/-- R353, R369, R374, R395, R396, R398, R399, R402, R407, R408: a live port that hears its bus queues a request that carries
its node ID and drops it on a full queue with event 47; so does one of the old node ID that was in reception when a set changed
the port, which is taken to be the first one since (this model's reading, log 22); a port that reaches its bus sends its
first waiting frame, which is the announce of STANDBY entry while that waits, and ends the frame that SLEEP entry, or a CTRL.EN that became 0, found in
transmission, which is taken to be the first waiting one, and that one alone (this model's choice, log 22); a live port
makes its heartbeat at its tick, and follows its controller's error state with its event; bus-off discards everything
but announces. -/
def Obligations.CanPortsTakeAndSend : Prop := ∀ (s : State) (p : Port),
  let c := port s p
  (canHears s p = true → ∀ node payload, c.err ≠ 2 →
    let receives (f : CanPort → CanPort) (also : State → Prop) : Prop := ∃ t,
      exec (.canRequestReceived p node payload) s = .next t ∧ also t ∧
      unrouted t = unrouted (modPort s p fun c => f { c with inRecv := none })
    let finishes : Prop := reachable s = true ∧ testing s (portPart p) = false ∧ c.inRecv = some node
    (portLive s p = true → node ≠ nodeId s p → c.inRecv ≠ some node → receives id fun _ => True) ∧
    (portLive s p = true ∧ node = nodeId s p ∨ finishes →
      (c.queue.length < 16 → receives (fun c => { c with queue := c.queue ++ [payload] }) fun _ => True) ∧
      (16 ≤ c.queue.length → receives (fun c => { c with
        dropped := c.dropped + 1, dropTag := some (c.dropTag.getD (natAt payload 1 1)) }) fun t => shows t 47))) ∧
  (let ends : Prop := s.pwr.powered = true ∧ s.pwr.held = false ∧ c.finishing = true ∧ c.err ≠ 2 ∧
    (s.sup.mode ≠ .sleep ∨ s.sleep.entered = false)
   reachable s = true ∧ portSends s p = true ∨ ends →
   let sends (f : Frame) (rest : List Frame) : Prop := ∃ t, exec (.canFrameSent p) s = .next t ∧
    unrouted t = unrouted (modPort s p fun c => { c with
      out := rest, bufs := if f.lastSeg then c.bufs - 1 else c.bufs, announce := false, finishing := false
      inRecv := if c.finishing then c.inRecv else none })
   let announces (f : Frame) : Prop := f.id / 128 = 3 ∧ (f.payload.getD 0 0).toNat = 0
   (∀ f rest, c.announce = false → c.out = f :: rest → sends f rest) ∧
   (∀ pre f post, c.announce = true → c.out = pre ++ f :: post → announces f → f ∉ pre → (∀ g ∈ post, ¬ announces g) →
    f.payload ≠ [] → (∀ g ∈ post, g.payload ≠ []) → sends f (pre ++ post))) ∧
  (let period := act s (portIdx p) 6
   let due := c.hbLast + period * 200000
   portLive s p = true → serviceable s.sup.mode = true → period ≠ 0 → due / 512 ≤ s.clk.time / 512 →
   let u := advance s due
   portLive u p = true → serviceable u.sup.mode = true → (port u p).hbLast = c.hbLast →
   let f : Frame := { id := 3 * 128 + nodeId u p, payload := announcePayload u p 1, lastSeg := false, pubMap := none }
   ∃ t, exec (.canHeartbeat p) s = .next t ∧
     unrouted t = unrouted { modPort u p (fun c => { c with out := insertFrame f c.out, hbLast := u.clk.time }) with
       pending := s.pending }) ∧
  (portLive s p = true → ∀ es tec rxe, es ≠ c.err →
    (c.err ≠ 2 ∨ (act s (portIdx p) 1).testBit 5 = true ∨ c.ctrlSet = true) →
    ∃ t, exec (.canErrorStateChange p es tec rxe) s = .next t ∧ shows t (errEvent p) ∧
      unrouted t = unrouted (modPort s p fun c => if es = 2 then
        { c with err := es, tec := tec, rxe := rxe, ctrlSet := false
                 bufs := if s.odp.job.map (·.port) = some p then 1 else 0
                 out := c.out.filter fun f => decide (f.id / 128 = 3) }
        else { c with err := es, tec := tec, rxe := rxe }))

/-- R362, R399, R409, R411, R412: a live port, in BOOT-HOLD too, with pending events and no waiting EVENT frame makes one of
its seven lowest events; a map publishes the frame that has just closed on its port, in place of a frame of the map that
still waits, under the port's present node ID. -/
def Obligations.EventAndPublishFrames : Prop := ∀ (s : State) (p : Port), portLive s p = true →
  let c := port s p
  (quiet s → c.pend ≠ [] → (∀ f ∈ c.out, f.id / 128 ≠ 2) →
    let f : Frame := { id := 2 * 128 + nodeId s p, payload := eventPayload c, lastSeg := false, pubMap := none }
    ∃ t, exec (.eventFrameAssemble p) s = .next t ∧ (port t p).pend = c.pend.drop 7 ∧ (port t p).merged = 0 ∧
      unrouted t = unrouted (modPort s p fun c => { c with out := insertFrame f c.out })) ∧
  (∀ m, serviceable s.sup.mode = true → m < 16 → s.clk.time % 512 = 0 → 512 ≤ s.clk.time →
    let f := s.clk.time / 512 - 1
    let ctrl := act s (0x1C10 + m) 1
    let x := get s.publish Publish.reset m
    let seq := (x.seq + 1) % 256
    ctrl.testBit 15 = true → ctrl / 256 % 4 = (match p with | .a => 1 | .b => 2) → x.cfgErr = false →
    f % act s (0x1C10 + m) 2 = act s (0x1C10 + m) 3 → x.last ≠ some f →
    let u (n : Nat) : State :=
      { s with publish := put s.publish Publish.reset m { x with seq := seq, last := some f, replaced := n } }
    let payload := publishPayload (u x.replaced) p m seq f
    ((∀ g ∈ c.out, g.pubMap ≠ some m) → ∃ t, exec (.publishAssemble m) s = .next t ∧
      unrouted t = unrouted (modPort (u x.replaced) p fun c => { c with
        out := insertFrame { id := 9 * 128 + nodeId s p, payload := payload, lastSeg := false, pubMap := some m } c.out })) ∧
    ((∃ g ∈ c.out, g.pubMap = some m) → ∃ t, exec (.publishAssemble m) s = .next t ∧
      unrouted t = unrouted (modPort (u (x.replaced + 1)) p fun c => { c with
        out := insertFrame { id := 9 * 128 + nodeId s p, payload := payload, lastSeg := false, pubMap := some m }
          (c.out.filter fun g => !decide (g.pubMap = some m)) })))

/-- R400, R401, R403, R404, R405: at tick 32 of a service frame, once in it, the server takes the first request of the
port that was not served last; a malformed one is answered with status 1 and a READ of more than 480 words with status
2; a READ of a one-word channel configuration field is answered with its value, a longer one stays in service for one word
in a tick; a WRITE of an RWS word is staged and answered with status 0. -/
def Obligations.OdpServesOneRequest : Prop := ∀ (s : State) (p : Port),
  let due := s.clk.time / 512 * 512 + 32
  let u := advance s due
  (reachable s = true → testing s 1 = false → s.clk.time / 512 % 8 = 0 → s.clk.time % 512 ≤ 32 →
    s.odp.frame ≠ s.clk.time / 512 + 1 → reachable u = true → testing u 1 = false → u.odp.frame = s.odp.frame →
    u.clk.time = due → u.odp.job = none → portFree u = true → inHoldNow u = false →
    u.canA.dropTag = none → u.canB.dropTag = none →
    ∀ (bs : List Byte) (rest : List (List Byte)), (port u p).queue = bs :: rest → (port u p).bufs < 2 →
    (u.lastServed = otherPort p ∨ (port u (otherPort p)).queue = []) →
    let taken (v : State) : State := modPort { v with
      odp := { v.odp with frame := due / 512 + 1 }, lastServed := p, pending := s.pending } p
        fun c => { c with queue := rest, bufs := c.bufs + 1 }
    let answers (v : State) (status : Nat) (data : List Byte) : Prop := ∃ t, exec .odpServe s = .next t ∧
      unrouted t = unrouted (modPort (taken v) p fun c => { c with
        out := insertFrame { id := 7 * 128 + nodeId u p, lastSeg := true, pubMap := none,
                             payload := segment (natAt bs 0 1) (natAt bs 1 1) 0 true status data } c.out })
    (parseRequest u bs = none → answers u 1 []) ∧
    (∀ items, parseRequest u bs = some (false, items) → 480 < itemWords u items → answers u 2 []) ∧
    (∀ q sub f, q < 96 → 1 ≤ sub → parseRequest u bs = some (false, [(0x1000 + q, sub, [0])]) →
      fieldOf (0x1000 + q) sub = some f → f.acc = .rws →
      let n := f.words
      let v := act u (0x1000 + q) sub
      (n = 1 → answers { u with bankPin := none } 0 (bytes 2 v)) ∧
      (1 < n → ∃ t, exec .odpServe s = .next t ∧ unrouted t = unrouted {
        modReq (taken u) (portReq p) (fun x => { x with
          shadow := some { key := (0x1000 + q) * 256 + sub, val := v, words := n } }) with
        bankPin := some u.bankCur
        odp := { frame := due / 512 + 1, job := some {
          port := p, vo := 0x11, tag := natAt bs 1 1, work := [.read (0x1000 + q) sub], word := 1
          data := bytes (2 * n) v } } })) ∧
    (∀ idx sub v f, parseRequest u bs = some (true, [(idx, sub, [v])]) → fieldOf idx sub = some f → f.acc = .rws →
      f.words = 1 → (∀ m, objOf idx ≠ some (.publish m)) → admits u (portReq p) idx sub v = true →
      (∀ e ∈ (req u (portReq p)).staged, e.1 ≠ idx * 256 + sub) → (req u (portReq p)).staged.length < 128 →
      answers (modReq (afterWrite { u with bankPin := none } (portReq p)) (portReq p) fun q => { q with
        staged := q.staged ++ [(idx * 256 + sub, v)], overflow := q.overflow && !q.staged.isEmpty }) 0 [])) ∧
  (∀ j idx sub, running s = true → s.pending = [] → s.clk.time % 512 ≠ 511 → s.sup.crash.lockNext = false →
    s.twin = none → s.eng.st = .halted → s.eng.tacts = [] → s.eng.stall = 0 → s.eng.rows = [] → lineRests s → accessRests s →
    s.odp.job = some j → j.port = p → j.work = [.read idx sub] →
    0 < j.word →
    let next : State := { s with clk := { s.clk with time := s.clk.time + 1 } }
    (j.word + 1 < widthNow s idx sub → ∃ t, step s = .next t ∧
      unrouted t = unrouted { next with odp := { s.odp with job := some { j with word := j.word + 1 } } }) ∧
    (widthNow s idx sub ≤ j.word + 1 → j.vo = 0x11 → j.data ≠ [] → j.data.length ≤ 60 → ∃ t, step s = .next t ∧
      unrouted t = unrouted (modPort { next with odp := { s.odp with job := none }, bankPin := none } p fun c => { c with
        out := insertFrame { id := 7 * 128 + nodeId s p, lastSeg := true, pubMap := none,
                             payload := segment 0x11 j.tag 0 true 0 j.data } c.out })))

/-- R417, R418, R419, R420, R421, R426, R430, R431, R432, R433, R437: the target acknowledges its own address and its extra
ones while its pins are in use, and takes the transaction, whose first word to send is then fixed; it NACKs others and,
under test, its own; the pointer bytes set the pointer; a STOP takes the settings, a START in a byte only ends the
transaction, and a timeout also ends the gather with event 48. A chunk transaction that ends before its 56th byte sets
SEQ_ERR. Behind a NACKed subindex byte the write stands with its two index bytes taken (this model's choice, log 21). -/
def Obligations.TwoWireBusConditions : Prop := ∀ (s : State) (read start : Bool) (addr : Nat) (b1 b2 b3 : Byte),
  running s = true → s.twi.ready = true →
  let w := s.twi
  let left : Twi := if w.loaded.isSome then { w with fetches := [], loaded := none } else w
  let after (f : Twi → Twi) : State := { s with
    twi := f { left with phase := .idle, chunkTx := false, chunk := [] }
    image := { s.image with seqErr := s.image.seqErr || w.chunkTx && decide (w.chunk.length < 56) } }
  let settings : TwiSet := {
    ctrl := act s 0x1D00 1, extra0 := act s 0x1D00 2, extra1 := act s 0x1D00 3, extra2 := act s 0x1D00 4
    timeout := act s 0x1D00 5 }
  let on : Bool := s.twi.set.ctrl.testBit 15 && twiConnected s
  let fixed : Option TwiFetch :=
    match (if w.word = 0 then none else s.reqT.shadow.filter fun h => decide (h.key = w.index * 256 + w.sub)) with
    | some h => some { time := s.clk.time, val := wordOf h.val h.words w.word, cand := none }
    | none => left.fetches.find? fun x => decide (x.time + 8 ≤ s.clk.time)
  let extra : Prop :=
    if w.set.ctrl.testBit 4 then w.set.ctrl.testBit 0 = true ∧
      ∀ k, k < 7 → w.set.extra1.testBit k = true ∨ addr.testBit k = w.set.extra0.testBit k
    else w.set.ctrl.testBit 0 = true ∧ addr = w.set.extra0 ∨ w.set.ctrl.testBit 1 = true ∧ addr = w.set.extra1 ∨
      w.set.ctrl.testBit 2 = true ∧ addr = w.set.extra2
  let matched : Prop := 0x07 < addr ∧ addr < 0x78 ∧ (addr = 0x50 + s.boot.addrSel ∨ extra)
  (matched → on = true →
    (testing s 1 = false → ∃ t, exec (.twiAddress addr read) s = .next t ∧ unrouted t = unrouted (after fun w =>
      let w := { w with lastRead := read, lastAddr := addr, ack := true, engaged := true }
      if read then { w with phase := .read, fetches := [], loaded := fixed } else { w with phase := .write 0 })) ∧
    (testing s 1 = true → ∃ t, exec (.twiAddress addr read) s = .next t ∧
      unrouted t = unrouted (after fun w => { w with ack := false, busyNacks := w.busyNacks + 1 }))) ∧
  (¬ matched ∨ on = false → ∃ t, exec (.twiAddress addr read) s = .next t ∧
    unrouted t = unrouted (after fun w => { w with ack := false })) ∧
  (on = true → w.phase = .write 0 →
    let idx := b1.toNat * 256 + b2.toNat
    let sub := b3.toNat
    let busy : Prop := idx = 0x1F00 ∧ 0x10 ≤ sub ∧ sub ≤ 0x2B ∧ s.image.busy = true
    (¬ busy → ∃ t, exec (.twiPointerSet b1 b2 b3) s = .next t ∧ unrouted t = unrouted { s with twi := { w with
      phase := .write 3, index := idx, sub := sub, word := 0, fetches := [], loaded := none, ack := true
      chunkTx := decide (idx = 0x1F00 ∧ sub = 0x10), chunk := [] } }) ∧
    (busy → ∃ t, exec (.twiPointerSet b1 b2 b3) s = .next t ∧ unrouted t = unrouted { s with twi := { w with
      phase := .write 2, ack := false, busyNacks := w.busyNacks + 1 } })) ∧
  (∃ t, exec .twiStop s = .next t ∧ unrouted t = unrouted (after fun w => { w with set := settings, engaged := false })) ∧
  (∃ t, exec (.twiMidbyteCondition start) s = .next t ∧
    unrouted t = unrouted (after fun w => if start then w else { w with set := settings, engaged := false })) ∧
  (twiConnected s = true → testing s 1 = false → ∃ t, exec .twiTimeout s = .next t ∧
    shows t 48 ∧ unrouted t = unrouted
      (modReq (after fun w => { w with set := settings, engaged := false, timeouts := w.timeouts + 1 }) .twi fun q =>
        { q with gather := none }))

/-- R389, R422, R423, R425, R426, R427, R428, R430, R437: a written word waits for its access tick and moves the
pointer, which runs to subindex 0xFF where no object of its index exists (this model's choice, log 21); the access at tick
16, one in a frame and made by itself as that tick begins, stages the oldest written word of an RWS field or else reads the
word at the pointer; a read sends the word that its first bit has fixed and moves the pointer, and where the controller asks for
more, it fixes the next word from an access at least 8 ticks old; a candidate becomes the shadow with the high byte of
word 0; 56 chunk bytes are one image chunk, and a byte after them is not acknowledged. -/
def Obligations.TwoWireWordsAndAccesses : Prop := ∀ (s : State) (hi lo : Byte), running s = true → s.twi.ready = true →
  s.twi.set.ctrl.testBit 15 = true → twiConnected s = true →
  let w := s.twi
  let top := (match objOf w.index with
    | some o => highest o
    | none => 255)
  let next : Nat × Nat := if w.word + 1 < widthNow s w.index w.sub then (w.sub, w.word + 1)
    else if top ≤ w.sub then (1, 0) else (w.sub + 1, 0)
  let moved (x : Twi) : Twi := { x with sub := next.1, word := next.2 }
  (∀ n, w.phase = .write n → 3 ≤ n → w.chunkTx = false → ∃ t, exec (.twiWordWrite hi lo) s = .next t ∧
    unrouted t = unrouted { s with twi := moved { w with
      ack := true, fetches := [], loaded := none
      waiting := w.waiting ++ [{ key := w.index * 256 + w.sub, wordNo := w.word, val := hi.toNat * 256 + lo.toNat }] } }) ∧
  (∀ v, w.phase = .read → w.word = 0 → w.loaded = some v →
    let sends (low more : Bool) (x : Twi) (shadow : Option Shadow) : Prop := ∃ t, exec (.twiWordRead low more) s = .next t ∧
      unrouted t = unrouted { s with twi := x, reqT := { s.reqT with shadow := shadow } }
    (widthNow s w.index w.sub = 1 → v.cand = none →
      sends true false (moved { w with sent := v.val, loaded := none }) s.reqT.shadow ∧
      sends true true (moved { w with sent := v.val, fetches := []
                                      loaded := w.fetches.find? fun x => decide (x.time + 8 ≤ s.clk.time) }) s.reqT.shadow ∧
      ∀ more, sends false more { w with sent := v.val / 256 * 256, fetches := [], loaded := none } s.reqT.shadow) ∧
    (∀ q f h, q < 96 → w.index = 0x1000 + q → fieldOf w.index w.sub = some f → f.acc = .rws → 1 < f.words →
      inHoldNow s = false → v.cand = some h →
      sends true false (moved { w with sent := v.val, loaded := none }) (some h) ∧
      ∀ more, sends false more { w with sent := v.val / 256 * 256, fetches := [], loaded := none } (some h))) ∧
  (mayAccess s .twi = true → s.clk.time % 512 ≤ 16 → w.accessed ≠ s.clk.time / 512 + 1 →
    let u := advance s (s.clk.time / 512 * 512 + 16)
    mayAccess u .twi = true → u.twi.accessed = s.clk.time / 512 + 1 → ∃ t, exec .twiStoreAccess s = .next t ∧
      unrouted t = unrouted { u with pending := s.pending }) ∧
  (s.clk.time % 512 = 15 ∨ s.clk.time % 512 = 16 →
    let due := s.clk.time / 512 * 512 + 16
    let u := if s.clk.time % 512 = 16 then s else passCycles (newTick (endTick s) due)
    let x := u.twi
    mayAccess s .twi = true → w.accessed ≠ s.clk.time / 512 + 1 → mayAccess u .twi = true →
    x.accessed ≠ s.clk.time / 512 + 1 → u.sup.crash.lockNext = false → u.odp.job = none →
    let accessed (x : Twi) : State :=
      { u with twi := { x with accessed := s.clk.time / 512 + 1 }, pending := s.pending }
    (∀ idx sub v rest f, x.waiting = { key := idx * 256 + sub, wordNo := 0, val := v } :: rest → sub < 256 →
      fieldOf idx sub = some f → f.acc = .rws → f.words = 1 → (∀ m, objOf idx ≠ some (.publish m)) →
      admits u .twi idx sub v = true → (∀ e ∈ u.reqT.staged, e.1 ≠ idx * 256 + sub) → u.reqT.staged.length < 128 →
      ∃ t, exec .twiStoreAccess s = .next t ∧
        unrouted t = unrouted (modReq (afterWrite (accessed { x with waiting := rest }) .twi) .twi fun q => { q with
          staged := q.staged ++ [(idx * 256 + sub, v)], overflow := q.overflow && !q.staged.isEmpty })) ∧
    (∀ q, twiOn u = true → x.waiting = [] → x.loaded = none → q < 48 → x.index = 0x1200 + q → x.word = 0 → 1 ≤ x.sub →
      (fieldOf x.index x.sub).isSome = true → widthOf x.index x.sub = 1 → inHoldNow u = false →
      ∃ t, exec .twiStoreAccess s = .next t ∧
        unrouted t = unrouted (accessed { x with
          fetches := ({ time := due, val := act u x.index x.sub % 65536, cand := none } :: x.fetches).take 2 }))) ∧
  (∀ bs n, w.phase = .write n → 3 ≤ n → w.chunkTx = true →
    (bs.length = 56 → w.chunk = [] → admits s .twi 0x1F00 16 0 = true → s.image.openUpd = true → s.image.busy = false →
      s.image.addr < s.image.updLen →
      ∃ t, exec (.twiImageChunk bs) s = .next t ∧ t.twi.chunk = bs ∧ t.twi.phase = w.phase ∧ t.twi.ack = true ∧
        t.twi.waiting = w.waiting ∧ t.twi.index = w.index ∧
        unrouted t = unrouted { afterWrite s .twi with
          twi := t.twi
          image := { s.image with busy := true, chunk := some {
            addr := (if s.image.updB then 0x20000 else 0) + s.image.addr
            bytes := bs.take (s.image.updLen - s.image.addr), own := true } } }) ∧
    (56 ≤ w.chunk.length → ∃ t, exec (.twiWordWrite hi lo) s = .next t ∧
      unrouted t = unrouted { s with twi := { w with ack := false } }))
/-! ## Pins, counters, the gallery and self-test -/

/-- R153, R343, R458, R459, R461, R466: an edge on a pod request pin asks every pod that listens to it, but not in
SERVICE; an edge on an undebounced event line raises its event; an EVO pulse ends 16 ticks after its latest raise. -/
def Obligations.PinEdgesAndPulses : Prop := ∀ (s : State) (k n : Nat) (rising : Bool), running s = true →
  (∀ pin, podSupplier s k = some pin → bankGood s pin = true → edgeless s k = false → serviceable s.sup.mode = true →
    let asks : List Request := (podNums.filter fun p => (podCfg s p 4).testBit 1 && decide (podCfg s p 3 = k)).map fun p =>
      { ask := if rising then .rise p else .fall p, src := .pin, time := s.clk.time }
    ∃ t, exec (.podreqEdge k rising) s = .next t ∧ unrouted t = unrouted { setLevel s pin rising with
      accepted := if s.sup.mode = .service then s.accepted else s.accepted ++ asks }) ∧
  (pevLive s n = true →
    (pevDeb s n = 0 → ∃ t, exec (.pinEventEdge n rising) s = .next t ∧ (pevWants s n rising = true → shows t (52 + n)) ∧
      unrouted t = unrouted (setPev (setLevel s (pevPin s n) rising) n { level := rising, cnt := 0 })) ∧
    (pevDeb s n ≠ 0 → ∃ t, exec (.pinEventEdge n rising) s = .next t ∧
      unrouted t = unrouted (setLevel s (pevPin s n) rising))) ∧
  (∀ b, get s.pins.evoPulse 0 k = b + 1 → (b + 16) / 512 ≤ s.clk.time / 512 →
    let u := advance s (b + 16)
    running u = true → u.evq = [] → get u.pins.evoPulse 0 k = b + 1 → ∃ t, exec (.evoPulseEnd k) s = .next t ∧
      get t.pins.evoPulse 0 k = 0 ∧ (∀ j, j ≠ k → get t.pins.evoPulse 0 j = get u.pins.evoPulse 0 j) ∧
      unrouted t = unrouted { u with pending := s.pending })

/-- R474, R480, R481, R482, R488, R489: an occurrence that carries a counter past its top leaves 0 with OVF, and event
49 shows when its tick has passed; a captured dump is written at tick 64 into its half of the dump area with event 60; the trace port takes the
oldest record of the FIFO. -/
def Obligations.CountersDumpAndTrace : Prop := ∀ (s : State) (k : Nat), running s = true →
  (k < 42 → k ≠ 38 → k ≠ 39 → selOf s k ≠ 0 → (get s.ctrs Ctr.reset k).count = 0xFFFFFFFF →
    ∃ t, exec (.counterOverflow k) s = .next t ∧ get t.ctrs Ctr.reset k = { count := 0, ovf := true } ∧
      unrouted t = unrouted s ∧ (s.pending = [] → tickRests s → s.clk.time % 512 ≠ 511 → ∃ u, step t = .next u ∧
        u.clk.time = s.clk.time + 1 ∧ shows u 49)) ∧
  (s.gal.dump.isSome = true → s.clk.time % 512 ≤ 64 →
    let due := s.clk.time / 512 * 512 + 64
    let u := advance s due
    ∀ f cs, running u = true → u.clk.time = due → u.gal.dump = some (f, cs) → cs.length = 42 →
    testing u 5 = false →
    let seq := u.gal.dumpSeq + 1
    ∃ t, exec .counterDump s = .next t ∧ shows t 60 ∧ t.gal.dump = none ∧ t.gal.dumpSeq = seq ∧
      t.gal.dumpBuf = seq % 2 ∧
      (∀ a, a < 256 → get t.gal.ram 0 a = get (galStore u.gal.ram (128 * (seq % 2)) (dumpBytes f seq cs)) 0 a) ∧
      unrouted t = unrouted { u with pending := s.pending }) ∧
  (∀ r rest, s.gal.fifo = r :: rest → traceActive s = true → testing s 5 = false → s.evq = [] →
    ∃ t, exec .traceRecordSent s = .next t ∧ t.gal.sent = r ∧
      t.gal.ram = s.gal.ram ∧ (s.gal.drops = 0 → t.gal.fifo = rest) ∧ unrouted t = unrouted s)

/-- R493, R494, R498, R499, R500, R501, R502, R504, R505, R507: a scheduling point of the grid, which counts from entry
to STANDBY, takes the partition that SLEEP broke off, that TEST_NOW names, or the next of the rotation; its run starts
in tick 0 under its start condition within 4096 frames, is skipped after them, and ends exactly with its last frame: in
PASS with event 40 where it has made all its patterns and its signature is the expected one, else with event 39, and
DISABLED where TEST_CTRL says so. This model's own readings are: a partition that TEST_NOW names is taken though it is
DISABLED (log 23), and a HALT that the host has written during a test of the engine halts it at the restore, and leaves a
trapped engine TRAPPED (log 12). -/
def Obligations.SelfTestRunsAndTheirResults : Prop := ∀ (s : State) (p f : Nat) (run : BistRun) (busy : Bool),
  running s = true →
  let after (g : Bist → Bist) : State := { s with bist := g s.bist }
  let word (result : Nat) : Nat := 4096 * result + flg ((get s.bist.part 0 p).testBit 11) 11
  let tick0 : Prop := s.clk.time % 512 = 0
  let grid (s : State) : Nat :=
    let every := act s 0x1E00 2 * 200000
    s.bist.grid + ((s.bist.last - s.bist.grid) / every + 1) * every
  let limit := 4096 * 512
  (serviceable s.sup.mode = true → grid s / 512 ≤ s.clk.time / 512 →
    let u := advance s (grid s)
    running u = true → serviceable u.sup.mode = true → grid u = grid s →
    let points (g : Bist → Bist) : Prop := ∃ t, exec .bistSchedulingPoint s = .next t ∧
      unrouted t = unrouted { u with bist := g { u.bist with last := u.clk.time }, pending := s.pending }
    let tests : Prop := (testCtrl u).testBit 15 = true ∧ u.bist.run = none
    (¬ tests → points id) ∧
    (tests → u.bist.first = some p → points fun b => { b with sched := some (p, u.clk.time), first := none }) ∧
    (tests → u.bist.first = none → u.bist.testNow = some p →
      points fun b => { b with sched := some (p, u.clk.time), testNow := none }) ∧
    (tests → u.bist.first = none → u.bist.testNow = none → nextPart u = some p →
      points fun b => { b with sched := some (p, u.clk.time), rot := p })) ∧
  (∀ point, s.bist.sched = some (p, point) →
    let free : Prop :=
      if p = 1 then s.clk.time / 512 % 8 = 1 ∧ s.twi.engaged = false ∧ s.image.busy = false
      else if p = 2 then s.eng.st = .halted ∨ s.eng.st = .trapped ∨
        s.eng.st = .waite ∧ s.eng.inHandler = false ∧ s.eng.tacts = []
      else if p = 3 then portOn s .a = false ∨ s.canA.err = 2 ∨ busy = false
      else if p = 4 then portOn s .b = false ∨ s.canB.err = 2 ∨ busy = false
      else p = 5
    (serviceable s.sup.mode = true → tick0 → point ≤ s.clk.time → s.clk.time ≤ point + limit → free →
      ∃ t, exec (.bistRunStart busy) s = .next t ∧ unrouted t = unrouted (after fun b => { b with
        sched := none, run := some (p, s.clk.time / 512), saved := if p = 2 then some (s.eng, act s 0x1800 1) else none
        units := put b.units BistUnit.reset p { prpg := (Config.prpg p 0).toNat, misr := 0, count := 0 } })) ∧
    (point + limit < s.clk.time → ∃ t, exec .bistSkip s = .next t ∧ unrouted t = unrouted (after fun b => { b with
      sched := none, skips := b.skips + 1, part := put b.part 0 p (word 5) }))) ∧
  (s.bist.run = some (p, f) → 1 ≤ p → p ≤ 5 →
    s.clk.time = (f + ([0, 625, 500, 300, 300, 400] : List Nat).getD p 0) * 512 →
    let count := ([1048576, 262144, 196608, 98304, 98304, 131072] : List Nat).getD p 0
    let misr := run.misr % 2 ^ 32
    let result := if run.patterns < count then 3 else if misr = (Config.expectedSig p).toNat then 1 else 2
    let ended (b : Bist) : Bist := { b with
      run := none, saved := none, runs := b.runs + 1, sig := put b.sig 0 p misr, part := put b.part 0 p (word result)
      units := put b.units BistUnit.reset p {
        prpg := (Config.prpg p (min run.patterns count)).toNat, misr := misr, count := min run.patterns count } }
    let engineWaits : Prop := p ≠ 2 ∨ s.bist.halt = false ∧ s.eng.startReq = false
    (result = 1 → engineWaits → ∃ t, exec (.bistRunEnd run) s = .next t ∧ shows t 40 ∧
      unrouted t = unrouted (after ended)) ∧
    (result = 1 → p = 2 → s.bist.halt = true → s.eng.startReq = false → ∃ t, exec (.bistRunEnd run) s = .next t ∧
      shows t 40 ∧ t.bist.halt = false ∧ (s.eng.st = .trapped → t.eng.st = .trapped) ∧
      (s.eng.st ≠ .trapped → t.eng.st = .halted ∧ t.eng.tacts = [])) ∧
    (result ≠ 1 → engineWaits → (p = 1 ∨ (testCtrl s).testBit (7 + p) = false) →
      ∃ t, exec (.bistRunEnd run) s = .next t ∧ shows t 39 ∧
        unrouted t = unrouted (after fun b => { ended b with fails := b.fails + 1 })) ∧
    (result ≠ 1 → 2 ≤ p → (testCtrl s).testBit (7 + p) = true → ∃ t, exec (.bistRunEnd run) s = .next t ∧ shows t 39 ∧
      partDisabled t p = true ∧ t.bist.run = none ∧ t.bist.fails = s.bist.fails + 1 ∧
      (p = 2 → t.eng.st = .halted) ∧ (p = 3 → t.canA.pend = []) ∧ (p = 4 → t.canB.pend = [])))

/-! ## Boundaries

A boundary is stated on `lastTick s pins`, the device at the end of tick 511, and one that a command names also asks
that its effect is due on `s`. -/

/-- R51, R69, R62, R63, R459: FRAME_BOUNDARY opens the next frame at its tick 0, takes the snapshot of the closing frame
into a bank that is not pinned, and applies a committed set, which its writer sees as APPLIED. (The set here writes
one field of the objects below PIN_CFG, so that neither a pin lock nor the bit times of a port hold it back.)

R248, R344, R347, R367, R368, R369, R370: what MODE_REQ 3 to 6 bring at the boundary that handles them, in a device in
which nothing else is on its way. STANDBY enters SERVICE with the engine halted, and SERVICE is left for STANDBY, where the
engine's start waits for the next boundary, or for CRASH where the line shows a FAULT; STANDBY with a wake source enters
SLEEP, in which the engine, the line unit and the two-wire target stand, no key is kept, no DIS output is asserted and
CUT_CORE cuts; a reset is taken in STANDBY and SERVICE, and in CRASH once the kernel commit has ended. MODE_STAT shows 2, 3
in another mode, and 5 without a wake source or before the commit has ended; where a later write of the frame has been refused
with 4 it shows that, and is no part of this. That ARB_RESULT is 0x000F in a crash without an arbitration also where INDEX is
15 is this model's choice (log 20). -/
def Obligations.BoundariesOpenTheNextFrame : Prop := (
  ∀ (s : State) (pins : Pins), running s = true →
  let u := lastTick s pins
  let next := (u.clk.time / 512 + 1) * 512
  let bank (t : State) (n : Nat) : Sup := if n = 0 then t.bank0 else if n = 1 then t.bank1 else t.bank2
  running u = true → u.pins.level = pins →
  (calm u → serviceable u.sup.mode = true → ∃ t, exec (.frameBoundary pins) s = .next t ∧ t.clk.time = next ∧
    t.pins.level = pins ∧ t.sup.mode = u.sup.mode ∧ t.dict = u.dict ∧ t.latched = u.latched ∧ t.recs.nvm = u.recs.nvm ∧
    t.bankCur < 3 ∧ t.bankCur ≠ u.bankCur % 3 ∧ u.bankPin ≠ some t.bankCur ∧
    (bank t t.bankCur).mode = u.sup.mode ∧ (bank t t.bankCur).pods = u.sup.pods ∧
    (bank t t.bankCur).chans = u.sup.chans ∧ (bank t t.bankCur).convs = u.sup.convs ∧
    (bank t t.bankCur).crash = u.sup.crash ∧ (bank t t.bankCur).supply = u.sup.supply) ∧
  (∀ r idx sub v, idx < 0x1A00 → sub < 256 → u.accepted = [] → u.odp.job = none → u.hostQ = [] → u.sup.crash.lockNext = false →
    u.sup.crash.clearing = false →
    (∀ q, q ≠ r → (req u q).sets = []) → (req u r).sets = [[(idx * 256 + sub, v)]] →
    ∃ t, exec (.frameBoundary pins) s = .next t ∧ t.clk.time = next ∧ act t idx sub = v ∧ (req t r).sets = [] ∧
      (req t r).applied = true ∧ t.sup.lastCommit = next ∧ cfg t idx sub = v ∧
      ∀ i j, i * 256 + j ≠ idx * 256 + sub → act t i j = act u i j)) ∧ (
  ∀ (s : State) (pins : Pins) (r : Requester) (v time : Nat),
  running s = true →
  let u := lastTick s pins
  running u = true → calm { u with accepted := [] } → u.accepted = [{ ask := .mode v, src := .port r, time := time }] →
  (req u r).modeStat ≠ 4 → serviceable u.sup.mode = true →
  let m := u.sup.mode
  let opens (mode : Mode) (code : Nat) (also : State → Prop) : Prop := ∃ t, exec (.frameBoundary pins) s = .next t ∧
    t.sup.mode = mode ∧ (req t r).modeStat = code ∧ t.dict = u.dict ∧ t.recs.nvm = u.recs.nvm ∧ also t
  let frame (t : State) : Prop := t.clk.time = (u.clk.time / 512 + 1) * 512
  let halted (t : State) : Prop := t.eng.st = .halted ∧ t.eng.tacts = [] ∧ t.eng.startReq = false
  let resets : Prop := ∃ t, exec (.frameBoundary pins) s = .next t ∧ t.pwr = heldBy u.pwr 6 ∧ running t = false ∧
    t.sup.mode = .boot ∧ t.clk.time = 0 ∧ t.dict = [] ∧ t.eng.st = .halted ∧
    (u.image.chunk = none → t.recs.nvm = u.recs.nvm) ∧ t.image.keySlot = u.image.keySlot
  let cfg := act u 0x0200 9
  (v = 3 →
    (m = .standby → opens .service 2 fun t => frame t ∧ halted t ∧ shows t 25) ∧
    (m ≠ .standby → opens m 3 frame)) ∧
  (v = 4 →
    (m = .service → u.sup.line.low = false → opens .standby 2 fun t => frame t ∧ t.eng.startReq = true ∧
      t.image.openUpd = false ∧ t.image.verified = false ∧ shows t 25) ∧
    (m = .service → u.sup.line.low = true → u.sup.line.fault = true → u.recs.huskBusy = none → opens .crash 2 fun t => frame t ∧
      t.sup.crash.cause = 8 ∧ t.sup.crash.noArb = true ∧ t.sup.crash.arbResult = 0x000F ∧ shows t 30) ∧
    (m ≠ .service → opens m 3 frame)) ∧
  (v = 5 →
    let wakes : Prop := ∃ k, k ∈ [0, 1, 2, 3, 4, 5, 6, 7, 13, 14] ∧ cfg.testBit k = true
    (m = .standby → wakes → opens .sleep 2 fun t => frame t ∧ running t = false ∧ halted t ∧ t.sleep.entered = false ∧
      t.sleep.wake = none ∧ t.sleep.coreLow = cfg.testBit 15 ∧ t.sup.line.role = .stopped ∧ t.twi.ready = false ∧
      (∀ q, armed t q = false) ∧ (∀ n, n < 16 → asserted t n = false) ∧ shows t 25) ∧
    (m = .standby → ¬ wakes → opens .standby 5 frame) ∧
    (m ≠ .standby → opens m 3 frame)) ∧
  (v = 6 →
    (m = .standby ∨ m = .service ∨ m = .crash ∧ u.recs.commitEnded = true → resets) ∧
    (m = .crash → u.recs.commitEnded = false → opens .crash 5 frame) ∧
    (m ∈ [.ascend, .run, .descend] → opens m 3 frame)))

/-- R332, R333, R41, R226, R459, R341, R360, R374: what single boundaries bring: the engine's start, the end of a
WAITF, whose next instruction runs in tick 1, the event of a debounced line, an automatic clear, and STANDBY after the
last reference-check frame. Where nothing is due, the command of that effect changes nothing (this model's choice, log
13). -/
def Obligations.BoundariesStartAndResume : Prop := ∀ (s : State) (n : Nat), running s = true →
  let u := lastTick s s.pins.level
  let next := (u.clk.time / 512 + 1) * 512
  let idle (c : Instr) : Prop := ∃ t, exec c s = .next t ∧ unrouted t = unrouted s
  let awaits : Prop := running u = true ∧ nothingAwaits u
  (startDue s = true → awaits → startDue u = true → (act u 0x1800 1).testBit 0 = true → partDisabled u 2 = false →
    0 < u.eng.intLen →
    ∃ t, exec .engineStart s = .next t ∧ t.clk.time = next ∧ t.eng.st = .running ∧ t.eng.pc = 0 ∧ t.eng.field = false ∧
      t.eng.w = [] ∧ t.eng.stack = [] ∧ t.eng.startReq = false ∧ t.eng.ie = false ∧ t.eng.prog = u.eng.prog) ∧
  (startDue s = false → idle .engineStart) ∧
  (s.eng.st = .waitf → engTested s = false → awaits → calm u → u.eng.st = .waitf → engTested u = false →
    u.eng.ie = false → u.eng.skid = none → u.eng.tacts = [] → u.eng.busy = 0 → u.eng.rows = [] → u.now.samples = [] →
    inRegion u.eng (u.eng.pc + 1) = true →
    get u.eng.prog 0 (u.eng.pc + 1).toNat = 0x04000000 →
    ∃ t, exec .waitfResume s = .next t ∧ t.clk.time = next + 2 ∧ t.eng.st = .running ∧ t.eng.pc = u.eng.pc + 2 ∧
      t.eng.w = u.eng.w ∧ t.eng.data = u.eng.data ∧ t.eng.prog = u.eng.prog) ∧
  (s.eng.st ≠ .waitf → idle .waitfResume) ∧
  (n < 8 → pevDue s n = true → awaits → pevDue u n = true → ∃ t, exec (.pinEventDebounced n) s = .next t ∧
    t.clk.time = next ∧ shows t (52 + n) ∧ (pevOf t n).cnt = 0 ∧ (pevOf t n).level = !(pevOf u n).level) ∧
  (pevDue s n = false → idle (.pinEventDebounced n)) ∧
  (let clears (s : State) : Prop := s.sup.mode = .crash ∧ s.recs.commitEnded = true ∧ s.sup.line.arb = .done ∧
    s.sup.crash.clearing = false ∧ (lineCfg s 4).testBit 0 = true ∧ s.sup.crash.autoUsed < lineCfg s 4 / 256 % 16 ∧
    s.sup.crash.time / 512 + 1 + lineCfg s 5 * 4096 ≤ s.clk.time / 512 + 1 ∧
    (∀ k ∈ [4, 5, 11, 12], s.sup.crash.cause ≠ k) ∧
    (∀ c, c < 96 → (chan s c).ovf = false) ∧ ∀ g, g < 8 → (conv s g).failA = false ∧ (conv s g).failB = false
   clears s → awaits → calm u → clears u →
    ∃ t, exec .autoClear s = .next t ∧ t.clk.time = next ∧ t.sup.mode = .crash ∧ t.sup.crash.clearing = true ∧
      t.sup.crash.auto = true ∧ t.sup.crash.clearStat = 1 ∧ t.sup.crash.autoUsed = u.sup.crash.autoUsed + 1 ∧
      t.sup.line.holding = false ∧ t.sup.line.origHold = false) ∧
  (let boots (s : State) : Prop := s.sup.mode = .boot ∧ s.boot.hold = false ∧ s.boot.imageDone = true
   (boots s → s.boot.refFrames = 1 → awaits → boots u → u.boot.refFrames = 1 → u.sup.line.low = false →
    ∃ t, exec .bootComplete s = .next t ∧ t.clk.time = next ∧ t.sup.bootDone = next ∧ t.sup.mode = .standby ∧
      t.boot.refFrames = 0 ∧ t.twi.ready = true ∧ t.sup.line.role = .listening ∧ t.sup.line.start = next ∧
      t.eng.startReq = true ∧ shows t 25 ∧ ∀ p, (port t p).announce = portOn u p) ∧
   (¬ boots s ∨ s.boot.refFrames ≠ 1 → idle .bootComplete))

/-- R165, R163, R168, R170, R171, R172, R191, R192: deadlines of a device whose one pod has a flight of one entry and
no retry. A rail that misses its deadline and a landing that times out fail and start the descent that has no retry
left, which ends FAILED, for pod 0 OFF with FAILED_LAST and event 2; a retry cooldown ends with a new rise; the
descent limit crashes the device with cause 7, or forces the pod OFF with event 4. That FAIL_FRAME of a landing that times
out is the frame before the boundary is this model's reading (log 30). -/
def Obligations.PodDeadlinesOfALonePod : Prop := ∀ (s : State) (entry : Nat), running s = true →
  let u := lastTick s s.pins.level
  running u = true → lonePod u entry → (u.sup.mode = .ascend ∨ u.sup.mode = .descend) → u.sup.line.low = false →
  u.clk.time / 512 = s.clk.time / 512 → u.sup.pods = s.sup.pods → u.latched = s.latched →
  let frame := u.clk.time / 512 + 1
  let q := pod u 0
  let x := ent u 0 0
  let c := entArg entry
  let unit := podUnit u 0
  let at' (t : State) : Prop := t.clk.time = frame * 512
  (retryEn u 0 = false → failCrash u 0 = false →
    (q.st = .rising → q.cooldown = none → q.held = false → q.queueWait = false → q.startFrame ≠ frame → q.k = 1 →
      entType entry = 1 → c < 96 → entOff entry = 0 → entDl entry ≠ 0 → x.reached = true → x.waiting = true → x.good = false →
      x.start + entDl entry * unit ≤ frame → u.sup.mode = .ascend →
      ∃ t, exec (.riseDeadlineExpiry 0 0) s = .next t ∧ at' t ∧ (pod t 0).st = .falling ∧
        (pod t 0).failCause = some .deadline ∧ (pod t 0).failEntry = 0 ∧
        (pod t 0).failFrame = x.start + entDl entry * unit - 1 ∧ (chan t c).enable = false ∧ (chan t c).st = .off) ∧
    (q.st = .rising → q.cooldown = none → q.held = true → q.queueWait = false → q.startFrame ≠ frame → q.k = 0 →
      entType entry = 3 → entRel entry = 0 → q.relHost = false → entDl entry ≠ 0 → entDl entry * unit ≤ q.hf + 1 →
      u.sup.mode = .ascend →
      ∃ t, exec (.landingTimeout 0) s = .next t ∧ at' t ∧ (pod t 0).st = .off ∧ (pod t 0).failedLast = true ∧
        (pod t 0).failCause = some .landingTimeout ∧ (pod t 0).failFrame = frame - 1 ∧ t.sup.mode = .standby ∧
        shows t 2 ∧ shows t 24)) ∧
  (∀ o, q.st = .rising → q.cooldown = some o → o + podCfg u 0 2 * unit ≤ frame → entType entry = 1 → 0 < entOn entry →
    u.sup.mode = .ascend →
    ∃ t, exec (.retryCooldownExpiry 0) s = .next t ∧ at' t ∧ (pod t 0).st = .rising ∧ (pod t 0).cooldown = none ∧
      (pod t 0).retryActive = true ∧ (pod t 0).startFrame = frame ∧ (pod t 0).fc = 0 ∧ (pod t 0).k = 0 ∧
      (pod t 0).retriesUsed = q.retriesUsed) ∧
  (q.st = .falling → q.descFrame ≠ frame → entType entry = 1 → c < 96 → x.disd = false →
    (chan u c).disch = false → podCfg u 0 8 * unit ≤ q.dc + 1 → q.retryActive = false → q.exhausted = false →
    u.sup.mode = .descend →
    (timeoutCrash u 0 = true → ∃ t, exec (.descentLimitExpiry 0) s = .next t ∧ at' t ∧ t.sup.mode = .crash ∧
      t.sup.crash.cause = 7 ∧ t.sup.crash.source = 0x80 ∧ (pod t 0).st = .crashed ∧ shows t 4 ∧ shows t 0) ∧
    (timeoutCrash u 0 = false → ∃ t, exec (.descentLimitExpiry 0) s = .next t ∧ at' t ∧ t.sup.mode = .standby ∧
      (pod t 0).st = .off ∧ (pod t 0).timeout = true ∧ (chan t c).enable = false ∧ (chan t c).st = .off ∧ shows t 4))

/-- R153, R155, R156, R157, R158, R161, R162, R184, R185, R186, R187, R190, R342: a request that a boundary handles has
the outcome that R184 and R157 give by the state of the pod, and its requester reads the code there; a rise from OFF is
a common start that reaches the entries with ON_DELAY 0, a fall from ON switches off the members with OFF_DELAY 0, and
a latched rise waits for OFF. A rise whose rail has been reported good reaches ON; a descent whose rail has discharged
reaches OFF with event 24, and no gate is named from then on (GATE 0xFF: this model's choice, log 30). -/
def Obligations.PodRequestsRisesAndFalls : Prop := ∀ (s : State) (pins : Pins) (entry : Nat), running s = true →
  let u := lastTick s pins
  running u = true → singlePod u entry → u.sup.line.low = false → serviceable u.sup.mode = true → u.sup.mode ≠ .crash →
  let frame := u.clk.time / 512 + 1
  let q := pod u 0
  let x := ent u 0 0
  let c := entArg entry
  let rail : Prop := entType entry = 1 ∧ c < 96
  let opens (also : State → Prop) : Prop := ∃ t, exec (.frameBoundary pins) s = .next t ∧ t.clk.time = frame * 512 ∧ also t
  (∀ r time, isHost r = true → (∀ c, (chan u c).good = none) →
    let code (t : State) (n : Nat) : Prop := get (req t r).podStat 0 0 = n
    (u.accepted = [{ ask := .rise 0, src := .port r, time := time }] →
      ((podCfg u 0 4).testBit 3 = false → q.st = .off ∨ q.st = .on → opens fun t => code t 5 ∧ (pod t 0).st = q.st) ∧
      ((podCfg u 0 4).testBit 3 = true → q.treeErr = true → q.st = .off ∨ q.st = .on →
        opens fun t => code t 8 ∧ (pod t 0).st = q.st) ∧
      ((podCfg u 0 4).testBit 3 = true → q.treeErr = false → u.sup.mode ≠ .service → u.sup.mode ≠ .sleep →
        (q.st = .off ∨ q.st = .failed → rail → entOn entry = 0 → aqHeld u < 96 → x.wantsQ = false → opens fun t =>
          code t 2 ∧ (pod t 0).st = .rising ∧ t.sup.mode = .ascend ∧ (pod t 0).startFrame = frame ∧ (pod t 0).fc = 0 ∧
          (pod t 0).k = 1 ∧ (pod t 0).retriesUsed = 0 ∧ (chan t c).enable = true ∧ (chan t c).st = .rising ∧
          (ent t 0 0).waiting = true ∧ (ent t 0 0).start = frame) ∧
        (q.st = .on → opens fun t => code t 4 ∧ (pod t 0).st = .on) ∧
        (q.st = .falling → q.descFrame ≠ frame → rail → x.disd = false → (chan u c).disch = false →
          q.dc + 1 < podCfg u 0 8 * podUnit u 0 → opens fun t =>
          code t 3 ∧ (pod t 0).st = .falling ∧ (pod t 0).latched = true ∧ (pod t 0).dc = q.dc + 1))) ∧
    (u.accepted = [{ ask := .fall 0, src := .port r, time := time }] → (podCfg u 0 4).testBit 3 = true →
      (q.st = .off → opens fun t => code t 4 ∧ (pod t 0).st = .off) ∧
      (q.st = .on → rail → x.reached = true → (entOff entry = 0 → opens fun t =>
          code t 2 ∧ (pod t 0).st = .falling ∧ t.sup.mode = .descend ∧ (pod t 0).descFrame = frame ∧ (pod t 0).dc = 0 ∧
          (chan t c).enable = false ∧ (chan t c).st = .off ∧ (ent t 0 0).swOff = true ∧ (pod t 0).gate = 0) ∧
        (0 < entOff entry → opens fun t =>
          code t 2 ∧ (pod t 0).st = .falling ∧ (chan t c).enable = (chan u c).enable ∧ (ent t 0 0).swOff = false)) ∧
      (q.st = .failed → opens fun t => code t 2 ∧ (pod t 0).st = .off))) ∧
  (u.accepted = [] → rail → q.st = .rising → q.cooldown = none → q.held = false → q.queueWait = false →
    q.startFrame ≠ frame → q.k = 1 → x.waiting = true → (chan u c).good.isSome = true →
    opens fun t => (pod t 0).st = .on ∧ t.sup.mode = .run ∧ (ent t 0 0).good = true ∧ (ent t 0 0).waiting = false) ∧
  (lonePod u entry → rail → q.st = .falling → q.descFrame ≠ frame → q.retryActive = false → q.exhausted = false →
    (x.swOff = true → x.offFrame < frame → (chan u c).disch = true →
      opens fun t => (pod t 0).st = .off ∧ t.sup.mode = .standby ∧ (pod t 0).gate = 0xFF ∧ shows t 24) ∧
    (x.swOff = false → x.disd = false → entOff entry * podUnit u 0 ≤ q.dc + 1 → q.dc + 1 < podCfg u 0 8 * podUnit u 0 →
      opens fun t => (pod t 0).st = .falling ∧ (pod t 0).dc = q.dc + 1 ∧ (ent t 0 0).swOff = true ∧
        (ent t 0 0).offFrame = frame ∧ (chan t c).enable = false))

/-- R204, R205, R300, R301, R302, R304, R307: a discharge limit that passes ends the supervision of its watch with
event 5; the baseline of a pip ends with its step applied, and its capture with its results and event 28. -/
def Obligations.LimitsAndPipsEndAtBoundaries : Prop := ∀ (s : State) (c : Nat), running s = true → c < 96 →
  let u := lastTick s s.pins.level
  running u = true → u.clk.time / 512 = s.clk.time / 512 →
  let frame := u.clk.time / 512 + 1
  let m := margin u c
  (calm u → serviceable u.sup.mode = true → dis u c = dis s c → u.latched = s.latched → ∀ w, (dis u c).watch = some w →
    w.reached = false → w.sup = true →
    disSupervised (disCfg u c) = true → w.first + disLimit (disCfg u c) * disUnitOf (disCfg u c) ≤ frame →
    ∃ t, exec (.disLimitExpiry c) s = .next t ∧ t.clk.time = frame * 512 ∧ shows t 5 ∧
      (dis t c).watch = some { w with sup := false } ∧ t.sup.mode = u.sup.mode) ∧
  (calm { u with sup := { u.sup with margins := [] } } → u.sup.margins = [(c, m)] → u.sup.margins = s.sup.margins →
    u.sup.mode = .run →
    railPodOn u c = true → (chan u c).st = .running → (chan u c).enable = true → m.pipOut = false →
    chanCfg u c 9 ≤ (chan u c).raw → (chan u c).raw ≤ chanCfg u c 8 →
    (m.st = .pipBaseline → m.pipP + 8 ≤ frame →
      ∃ t, exec (.pipBaselineEnd c) s = .next t ∧ t.clk.time = frame * 512 ∧ (margin t c).st = .pipCapture ∧
        (margin t c).code = m.pipCode0 + m.pipStep ∧ (margin t c).base = m.base ++ [(chan u c).raw] ∧
        (margin t c).caps = m.caps ∧ t.sup.mode = .run) ∧
    (m.st = .pipCapture → m.pipP + 8 + m.pipH ≤ frame → m.fromReached = false →
      let out := pipResults m
      ∃ t, exec (.pipCaptureEnd c) s = .next t ∧ t.clk.time = frame * 512 ∧ shows t 28 ∧ (margin t c).st = .idle ∧
        (margin t c).outEn = false ∧ (margin t c).code = 0 ∧ (margin t c).pipResult = pipWord out m.pipStep ∧
        (margin t c).pipBase = out.base ∧ (margin t c).pipFrame = m.pipP + 8 ∧
        (margin t c).pipStatus = 0x8000 + (if out.settle = m.caps.length then 0x4000 else 0) + m.caps.length ∧
        t.sup.mode = .run))

/-- R292, R293, R294, R296, R297, R298: the margin servo of the one channel that is margined, at a boundary. A request is
admitted or has the code of the first condition that fails, and its first evaluation is at the same boundary; the rate
counts; a rail outside the band takes one code towards the target, within the limit; a rail inside it is REACHED, and a
code beyond the limit AT_LIMIT, with event 27 on the change; a returning channel walks back, and at code 0 it is IDLE
with event 27, as is one whose enable is released, at once. -/
def Obligations.MarginsStepAtBoundaries : Prop := ∀ (s : State) (pins : Pins) (c : Nat), running s = true → c < 96 →
  let u := lastTick s pins
  running u = true → u.sup.line.low = false → serviceable u.sup.mode = true →
  calm { u with accepted := [], sup := { u.sup with margins := [] } } →
  let m := margin u c
  let ch := chan u c
  let raw := ch.raw
  let rate := marginCfg u c 3
  let band := marginCfg u c 4
  let limit := marginCfg u c 2
  let dir : Int := if (marginCfg u c 1).testBit 2 then -1 else 1
  let opens (also : State → Prop) : Prop := ∃ t, exec (.frameBoundary pins) s = .next t ∧ also t
  let idle (m : Margin) : Margin :=
    { m with st := .idle, code := 0, outEn := false, rc := 0, target := 0, fromReached := false }
  let live : Prop := u.sup.mode = .run ∧ railPodOn u c = true ∧ ch.st = .running ∧ ch.enable = true
  let active : Prop := m.st = .servoing ∨ m.st = .reached ∨ m.st = .atLimit
  (u.accepted = [] → u.sup.margins = [(c, m)] →
    (live → active ∨ m.st = .returning → m.rc + 1 < rate → opens fun t => margin t c = { m with rc := m.rc + 1 }) ∧
    (live → active → rate ≤ m.rc + 1 →
      let takes (code : Int) : Prop :=
        (code.natAbs ≤ limit → opens fun t => margin t c = { m with
          rc := 0, code := code, st := if m.st = .atLimit then .servoing else m.st }) ∧
        (limit < code.natAbs → opens fun t => margin t c = { m with rc := 0, st := .atLimit } ∧
          (m.st ≠ .atLimit → shows t 27))
      (m.target + band < raw → takes (m.code + dir)) ∧
      (raw + band < m.target → takes (m.code - dir)) ∧
      (raw ≤ m.target + band → m.target ≤ raw + band → opens fun t => margin t c = { m with rc := 0, st := .reached } ∧
        (m.st ≠ .reached → shows t 27))) ∧
    (ch.st = .running → ch.enable = true → m.st = .returning → rate ≤ m.rc + 1 →
      let code : Int := if 0 < m.code then m.code - 1 else if m.code < 0 then m.code + 1 else 0
      (code ≠ 0 → opens fun t => margin t c = { m with rc := 0, code := code }) ∧
      (code = 0 → opens fun t => margin t c = idle m ∧ shows t 27)) ∧
    (ch.st = .running → ch.enable = true → active → u.sup.mode ≠ .run → 2 ≤ m.code.natAbs → 1 ≤ rate →
      opens fun t => (margin t c).st = .returning ∧ (margin t c).code = (if 0 < m.code then m.code - 1 else m.code + 1)) ∧
    (ch.enable = false → active ∨ m.st = .returning →
      opens fun t => margin t c = { idle m with base := [], caps := [], pipOut := false } ∧ shows t 27)) ∧
  (∀ r target time, isHost r = true → u.sup.margins = [] ∨ u.sup.margins = [(c, m)] →
    let code (t : State) (n : Nat) : Prop := get (req t r).marginStat 0 c = n
    let ready : Prop := live ∧ (ch.kindEff = 1 ∨ ch.kindEff = 3) ∧ ch.thrErr = false
    let admits : Prop := (marginCfg u c 1).testBit 5 = true
    let guarded : Prop := chanCfg u c 9 + marginCfg u c 5 ≤ target ∧ target + marginCfg u c 5 ≤ chanCfg u c 8
    (u.accepted = [{ ask := .margin c target, src := .port r, time := time }] →
      (¬ admits → u.sup.margins = [] → opens fun t => code t 3 ∧ t.sup.margins = []) ∧
      (admits → ¬ guarded → ready → u.sup.margins = [] → opens fun t => code t 5 ∧ t.sup.margins = []) ∧
      (admits → u.sup.mode ≠ .run → u.sup.margins = [] → opens fun t => code t 4 ∧ t.sup.margins = []) ∧
      (admits → ready → guarded → 1 ≤ rate → raw ≤ target + band → target ≤ raw + band →
        (u.sup.margins = [] ∧ aqAdmits u = true ∨ u.sup.margins = [(c, m)] ∧ (active ∨ m.st = .returning)) →
        opens fun t => code t 2 ∧ margin t c = { m with
          st := .reached, target := target, cut := false, outEn := true, rc := 0 } ∧ shows t 27)) ∧
    (u.accepted = [{ ask := .marginRelease c, src := .port r, time := time }] → u.sup.margins = [(c, m)] →
      (¬ admits → m.st = .atLimit → live → m.rc + 1 < rate → opens fun t => code t 3 ∧ (margin t c).st = .atLimit) ∧
      (admits → live → active → 2 ≤ m.code.natAbs → 1 ≤ rate →
        opens fun t => code t 2 ∧ (margin t c).st = .returning ∧
          (margin t c).code = (if 0 < m.code then m.code - 1 else m.code + 1))))
end

