-- ==== Sys2Proof/Laws/Events.lean ====
section
/-!
SUPPORT. What raising, routing, counting and the end of a command can do: they leave `unrouted` alone, they leave no
event waiting, and every raised event shows in EVENT_STATUS.
-/
namespace Sys2Proof.Machine

/-- A fold keeps what each of its steps keeps. -/
theorem each_keep {α β : Type} (p : State → β) (f : State → α → State) (h : ∀ s x, p (f s x) = p s) :
    ∀ (l : List α) (s : State), p (each l s f) = p s := by
  intro l
  induction l with
  | nil => intro s; rfl
  | cons x r ih => intro s; exact (ih (f s x)).trans (h s x)

/-! ## `unrouted` -/

@[simp] theorem unrouted_raise (s : State) (e : Nat) : unrouted (raise s e) = unrouted s := rfl

@[simp] theorem unrouted_record (s : State) (r : List Byte) : unrouted (record s r) = unrouted s := by
  unfold record
  split
  · rfl
  · split <;> rfl

@[simp] theorem unrouted_markStatus (s : State) (e : Nat) : unrouted (markStatus s e) = unrouted s := rfl

@[simp] theorem unrouted_markEngine (s : State) (e : Nat) : unrouted (markEngine s e) = unrouted s := by
  unfold markEngine; split <;> rfl

@[simp] theorem unrouted_routePort (s : State) (p : Port) (b e : Nat) : unrouted (routePort s p b e) = unrouted s := by
  unfold routePort; split <;> cases p <;> rfl

@[simp] theorem unrouted_routeHusk (s : State) (e : Nat) : unrouted (routeHusk s e) = unrouted s := by
  unfold routeHusk; split <;> rfl

@[simp] theorem unrouted_routeEvo (e : Nat) (s : State) (k : Nat) : unrouted (routeEvo e s k) = unrouted s := by
  unfold routeEvo; split <;> rfl

@[simp] theorem unrouted_routeStream (s : State) (e : Nat) : unrouted (routeStream s e) = unrouted s := by
  unfold routeStream; split <;> simp

@[simp] theorem unrouted_routeEvent (s : State) (e : Nat) : unrouted (routeEvent s e) = unrouted s := by
  simp [routeEvent, each_keep unrouted (routeEvo e) (unrouted_routeEvo e)]

/-- What counting can change: the counters and the notes of the tick. -/
theorem bump_eq (s : State) (k code n : Nat) : ∃ c w, bump s k code n = { s with ctrs := c, now := w } := by
  unfold bump
  split
  · exact ⟨_, _, rfl⟩
  · exact ⟨s.ctrs, s.now, rfl⟩

@[simp] theorem unrouted_bump (s : State) (k code n : Nat) : unrouted (bump s k code n) = unrouted s := by
  obtain ⟨c, w, h⟩ := bump_eq s k code n
  rw [h]; rfl

@[simp] theorem unrouted_offer (s : State) (e : Nat) : unrouted (offer s e) = unrouted s := by simp [offer]

/-- The router keeps what each route and each count keeps. -/
theorem route_keep {β : Type} (p : State → β) (h1 : ∀ s e, p (routeEvent s e) = p s)
    (h2 : ∀ s e, p (offer s e) = p s) (l : List Nat) (s : State) : p (route l s) = p s := by
  unfold route
  induction l generalizing s with
  | nil => rfl
  | cons e r ih => exact (ih _).trans ((h2 _ e).trans (h1 s e))

@[simp] theorem unrouted_route (l : List Nat) (s : State) : unrouted (route l s) = unrouted s :=
  route_keep unrouted unrouted_routeEvent unrouted_offer l s

@[simp] theorem unrouted_captureTick (s : State) : unrouted (captureTick s) = unrouted s := by
  unfold captureTick
  split
  · next c h =>
    split
    · simp [unrouted, h, bareCapture]
    · rfl
  · rfl

@[simp] theorem unrouted_flush (s : State) : unrouted (flush s) = unrouted s := by
  simp only [flush, unrouted_captureTick, unrouted_route]
  rfl

@[simp] theorem unrouted_settle (s : State) : unrouted (settle s) = unrouted s := rfl

@[simp] theorem unrouted_overflows (n : Nat) (s : State) : unrouted (overflows n s) = unrouted s := by
  induction n generalizing s with
  | zero => rfl
  | succ n ih =>
    unfold overflows
    split
    · rfl
    · simp only [ih, unrouted_flush]
      rw [each_keep unrouted (fun s _ => raise s 49) (fun _ _ => rfl)]
      rfl

/-! ## The end of a tick -/

@[simp] theorem samples_record (s : State) (r : List Byte) : (record s r).now.samples = s.now.samples := by
  unfold record
  split
  · rfl
  · split <;> rfl

@[simp] theorem samples_bump (s : State) (k code n : Nat) : (bump s k code n).now.samples = s.now.samples := by
  unfold bump; split <;> rfl

@[simp] theorem samples_routeEvent (s : State) (e : Nat) : (routeEvent s e).now.samples = s.now.samples := by
  have hk : ∀ (t : State) (k : Nat), (routeEvo e t k).now = t.now := by intro t k; unfold routeEvo; split <;> rfl
  have hs : ∀ t : State, (routeStream t e).now.samples = t.now.samples := by intro t; unfold routeStream; split <;> simp
  have hh : ∀ t : State, (routeHusk t e).now = t.now := by intro t; unfold routeHusk; split <;> rfl
  have hp : ∀ (t : State) (p : Port) (b : Nat), (routePort t p b e).now = t.now := by
    intro t p b; unfold routePort; split <;> cases p <;> rfl
  have he : ∀ t : State, (markEngine t e).now.samples = t.now.samples := by intro t; unfold markEngine; split <;> rfl
  simp only [routeEvent, hs, each_keep State.now (routeEvo e) hk, hh, hp, he]
  rfl

@[simp] theorem samples_captureTick (s : State) : (captureTick s).now = s.now := by
  unfold captureTick; split
  · split <;> rfl
  · rfl

/-- Handling the events of a tick leaves its reads of a SAMPLE. -/
@[simp] theorem samples_flush (s : State) : (flush s).now.samples = s.now.samples := by
  simp only [flush, samples_captureTick]
  exact route_keep (fun s => s.now.samples) samples_routeEvent (fun s e => by simp [offer]) _ _

@[simp] theorem samples_overflows (n : Nat) (s : State) : (overflows n s).now.samples = s.now.samples := by
  induction n generalizing s with
  | zero => rfl
  | succ n ih =>
    unfold overflows
    split
    · rfl
    · simp only [ih, samples_flush]
      rw [each_keep (fun s => s.now.samples) (fun s _ => raise s 49) (fun _ _ => rfl)]

/-- A tick that has read no SAMPLE ends with nothing but its events and counts. -/
theorem unrouted_closeTick (s : State) (h : s.now.samples = []) : unrouted (closeTick s) = unrouted s := by
  simp [closeTick, h, each]

/-- The captures of the balls are no part of the unrouted state. -/
@[simp] theorem unrouted_captureBalls (s : State) (t : Nat) : unrouted (captureBalls s t) = unrouted s := rfl

@[simp] theorem unrouted_occ (s : State) (lo n code times : Nat) : unrouted (occ s lo n code times) = unrouted s :=
  each_keep unrouted _ (fun s _ => unrouted_bump s _ _ _) _ _

@[simp] theorem unrouted_occConv (s : State) (g code n : Nat) : unrouted (occConv s g code n) = unrouted s := by
  simp [occConv]
@[simp] theorem unrouted_occJudge (s : State) (code : Nat) : unrouted (occJudge s code) = unrouted s := by simp [occJudge]
@[simp] theorem unrouted_occPod (s : State) (code : Nat) : unrouted (occPod s code) = unrouted s := by simp [occPod]
@[simp] theorem unrouted_occEng (s : State) (code n : Nat) : unrouted (occEng s code n) = unrouted s := by simp [occEng]
@[simp] theorem unrouted_occDict (s : State) (code n : Nat) : unrouted (occDict s code n) = unrouted s := by
  simp [occDict]
@[simp] theorem unrouted_occTwi (s : State) (code : Nat) : unrouted (occTwi s code) = unrouted s := by simp [occTwi]
@[simp] theorem unrouted_occNvm (s : State) (code : Nat) : unrouted (occNvm s code) = unrouted s := by simp [occNvm]
@[simp] theorem unrouted_occPins (s : State) (code : Nat) : unrouted (occPins s code) = unrouted s := by simp [occPins]
@[simp] theorem unrouted_occLine (s : State) (code : Nat) : unrouted (occLine s code) = unrouted s := by simp [occLine]
@[simp] theorem unrouted_occPort (s : State) (p : Port) (code n : Nat) :
    unrouted (occPort s p code n) = unrouted s := by cases p <;> simp [occPort]
@[simp] theorem unrouted_violation (s : State) : unrouted (violation s) = unrouted s := by simp [violation]

/-! ## The end of a command -/

@[simp] theorem evq_record (s : State) (r : List Byte) : (record s r).evq = s.evq := by
  unfold record; split
  · rfl
  · split <;> rfl
@[simp] theorem recs_record (s : State) (r : List Byte) : (record s r).recs = s.recs := by
  unfold record; split
  · rfl
  · split <;> rfl

@[simp] theorem evq_routeEvent (s : State) (e : Nat) : (routeEvent s e).evq = s.evq := by
  have hk : ∀ (t : State) (k : Nat), (routeEvo e t k).evq = t.evq := by intro t k; unfold routeEvo; split <;> rfl
  have hs : ∀ t : State, (routeStream t e).evq = t.evq := by intro t; unfold routeStream; split <;> simp
  have hh : ∀ t : State, (routeHusk t e).evq = t.evq := by intro t; unfold routeHusk; split <;> rfl
  have hp : ∀ (t : State) (p : Port) (b : Nat), (routePort t p b e).evq = t.evq := by
    intro t p b; unfold routePort; split <;> cases p <;> rfl
  have he : (markEngine (markStatus s e) e).evq = s.evq := by unfold markEngine; split <;> rfl
  simp only [routeEvent, hs, each_keep State.evq (routeEvo e) hk, hh, hp, he]

@[simp] theorem evq_bump (s : State) (k code n : Nat) : (bump s k code n).evq = s.evq := by
  obtain ⟨c, w, h⟩ := bump_eq s k code n
  rw [h]

@[simp] theorem evq_offer (s : State) (e : Nat) : (offer s e).evq = s.evq := by simp [offer]

@[simp] theorem evq_captureTick (s : State) : (captureTick s).evq = s.evq := by
  unfold captureTick; split
  · split <;> rfl
  · rfl

theorem flush_evq (s : State) : (flush s).evq = [] := by
  simp only [flush, evq_captureTick]
  exact route_keep State.evq evq_routeEvent evq_offer _ _

/-- The capture buffer is filled once for a state of the event history and the counters. -/
theorem captureTick_idem (s : State) : captureTick (captureTick s) = captureTick s := by
  cases hc : s.recs.cap with
  | none => simp [captureTick, hc]
  | some c =>
    by_cases hf : c.fresh ∨ c.crashTime = s.clk.time
    · simp [captureTick, hc, hf]
    · simp [captureTick, hc, hf]

/-- After every command no event or capture of it waits (R463). -/
theorem flush_quiet (s : State) (l : List Instr) : quiet { flush s with causes := [], pending := l } := by
  refine ⟨flush_evq s, rfl, ?_⟩
  have h : ∀ t : State, captureTick { t with causes := [], pending := l } =
      { captureTick t with causes := [], pending := l } := by
    intro t
    cases hc : t.recs.cap with
    | none => simp [captureTick, hc]
    | some c =>
      by_cases hf : c.fresh ∨ c.crashTime = t.clk.time
      · simp [captureTick, hc, hf]
      · simp [captureTick, hc, hf]
  rw [h, flush, captureTick_idem]

/-! ## EVENT_STATUS -/

theorem mem_insertEv {x e : Nat} {l : List Nat} : x ∈ insertEv e l ↔ x = e ∨ x ∈ l := by
  induction l with
  | nil => simp [insertEv]
  | cons y r ih =>
    simp only [insertEv]
    split
    · simp
    · simp only [List.mem_cons, ih]; exact or_left_comm

theorem mem_sortEv {x : Nat} {l : List Nat} : x ∈ sortEv l ↔ x ∈ l := by
  have h : ∀ (l a : List Nat), x ∈ l.foldl (fun a e => insertEv e a) a ↔ x ∈ a ∨ x ∈ l := by
    intro l
    induction l with
    | nil => intro a; simp
    | cons y r ih =>
      intro a
      simp only [List.foldl_cons, ih, mem_insertEv, List.mem_cons]
      rw [or_comm (a := x = y), or_assoc]
  simpa [sortEv] using h l []

@[simp] theorem status_record (s : State) (r : List Byte) : (record s r).sup = s.sup := by
  unfold record; split
  · rfl
  · split <;> rfl

/-- One raise sets the event's STATUS bit and clears none. -/
theorem status_routeEvent (s : State) (e : Nat) : (routeEvent s e).sup.evStatus = setBit s.sup.evStatus e := by
  have hk : ∀ (t : State) (k : Nat), (routeEvo e t k).sup = t.sup := by intro t k; unfold routeEvo; split <;> rfl
  have hs : ∀ t : State, (routeStream t e).sup = t.sup := by intro t; unfold routeStream; split <;> simp
  have hh : ∀ t : State, (routeHusk t e).sup = t.sup := by intro t; unfold routeHusk; split <;> rfl
  have hp : ∀ (t : State) (p : Port) (b : Nat), (routePort t p b e).sup = t.sup := by
    intro t p b; unfold routePort; split <;> cases p <;> rfl
  have he : ∀ t : State, (markEngine t e).sup = t.sup := by intro t; unfold markEngine; split <;> rfl
  simp only [routeEvent, hs, each_keep State.sup (routeEvo e) hk, hh, hp, he, markStatus]

theorem testBit_setBit (v e i : Nat) : (setBit v e).testBit i = (v.testBit i || decide (e = i)) := by
  simp [setBit, Nat.testBit_or, Nat.testBit_two_pow]

@[simp] theorem status_bump (s : State) (k code n : Nat) : (bump s k code n).sup = s.sup := by
  obtain ⟨c, w, h⟩ := bump_eq s k code n
  rw [h]

@[simp] theorem status_offer (s : State) (e : Nat) : (offer s e).sup = s.sup := by simp [offer]

@[simp] theorem status_captureTick (s : State) : (captureTick s).sup = s.sup := by
  unfold captureTick; split
  · split <;> rfl
  · rfl

/-- The router keeps every STATUS bit, sets those of the events it handles, and sets no other (R463). -/
theorem status_route (l : List Nat) (s : State) (i : Nat) :
    (route l s).sup.evStatus.testBit i = true ↔ s.sup.evStatus.testBit i = true ∨ i ∈ l := by
  unfold route
  induction l generalizing s with
  | nil => simp
  | cons e r ih =>
    rw [List.foldl_cons, ih]
    simp only [status_offer, status_routeEvent, testBit_setBit, Bool.or_eq_true, decide_eq_true_eq, List.mem_cons, or_assoc]
    rw [eq_comm (a := e)]

/-- The end of a command keeps every STATUS bit, sets those of the events raised in it, and sets no other (R463). -/
theorem status_flush (s : State) (i : Nat) :
    (flush s).sup.evStatus.testBit i = true ↔ s.sup.evStatus.testBit i = true ∨ i ∈ s.evq := by
  simp only [flush, status_captureTick, status_route, mem_sortEv]

end Sys2Proof.Machine
end

