-- ==== Sys2Proof/Laws/State.lean ====
section
/-!
SUPPORT. What each plain update of the state changes, and that it changes nothing else: one simp rule per field and
update, true by unfolding.
-/
namespace Sys2Proof.Machine

@[simp] theorem modEng_eng (s : State) (f : Eng → Eng) : (modEng s f).eng = f s.eng := rfl

@[simp] theorem modEng_frame (s : State) (f : Eng → Eng) :
    (modEng s f).pwr = s.pwr ∧ (modEng s f).clk = s.clk ∧ (modEng s f).boot = s.boot ∧
    (modEng s f).sleep = s.sleep ∧ (modEng s f).dict = s.dict ∧ (modEng s f).latched = s.latched ∧
    (modEng s f).sup = s.sup ∧ (modEng s f).bank0 = s.bank0 ∧ (modEng s f).bank1 = s.bank1 ∧
    (modEng s f).bank2 = s.bank2 ∧ (modEng s f).bankCur = s.bankCur ∧ (modEng s f).bankPin = s.bankPin ∧
    (modEng s f).reqA = s.reqA ∧ (modEng s f).reqB = s.reqB ∧ (modEng s f).reqT = s.reqT ∧
    (modEng s f).reqE = s.reqE ∧ (modEng s f).accepted = s.accepted ∧ (modEng s f).recs = s.recs ∧
    (modEng s f).canA = s.canA ∧ (modEng s f).canB = s.canB ∧ (modEng s f).lastServed = s.lastServed ∧
    (modEng s f).publish = s.publish ∧ (modEng s f).twi = s.twi ∧ (modEng s f).image = s.image ∧
    (modEng s f).pins = s.pins ∧ (modEng s f).ctrs = s.ctrs ∧ (modEng s f).gal = s.gal ∧
    (modEng s f).bist = s.bist ∧ (modEng s f).evq = s.evq ∧ (modEng s f).odp = s.odp ∧ (modEng s f).now = s.now ∧
    (modEng s f).causes = s.causes ∧ (modEng s f).fresh = s.fresh ∧ (modEng s f).twin = s.twin ∧ (modEng s f).hostQ = s.hostQ ∧
    (modEng s f).pending = s.pending :=
  ⟨rfl, rfl, rfl, rfl, rfl, rfl, rfl, rfl, rfl, rfl, rfl, rfl, rfl, rfl, rfl, rfl, rfl, rfl, rfl,
   rfl, rfl, rfl, rfl, rfl, rfl, rfl, rfl, rfl, rfl, rfl, rfl, rfl, rfl, rfl, rfl,
   rfl⟩

@[simp] theorem modRec_recs (s : State) (f : Rec → Rec) : (modRec s f).recs = f s.recs := rfl

@[simp] theorem modRec_frame (s : State) (f : Rec → Rec) :
    (modRec s f).pwr = s.pwr ∧ (modRec s f).clk = s.clk ∧ (modRec s f).boot = s.boot ∧
    (modRec s f).sleep = s.sleep ∧ (modRec s f).dict = s.dict ∧ (modRec s f).latched = s.latched ∧
    (modRec s f).sup = s.sup ∧ (modRec s f).bank0 = s.bank0 ∧ (modRec s f).bank1 = s.bank1 ∧
    (modRec s f).bank2 = s.bank2 ∧ (modRec s f).bankCur = s.bankCur ∧ (modRec s f).bankPin = s.bankPin ∧
    (modRec s f).reqA = s.reqA ∧ (modRec s f).reqB = s.reqB ∧ (modRec s f).reqT = s.reqT ∧
    (modRec s f).reqE = s.reqE ∧ (modRec s f).accepted = s.accepted ∧ (modRec s f).eng = s.eng ∧
    (modRec s f).canA = s.canA ∧ (modRec s f).canB = s.canB ∧ (modRec s f).lastServed = s.lastServed ∧
    (modRec s f).publish = s.publish ∧ (modRec s f).twi = s.twi ∧ (modRec s f).image = s.image ∧
    (modRec s f).pins = s.pins ∧ (modRec s f).ctrs = s.ctrs ∧ (modRec s f).gal = s.gal ∧
    (modRec s f).bist = s.bist ∧ (modRec s f).evq = s.evq ∧ (modRec s f).odp = s.odp ∧ (modRec s f).now = s.now ∧
    (modRec s f).causes = s.causes ∧ (modRec s f).fresh = s.fresh ∧ (modRec s f).twin = s.twin ∧ (modRec s f).hostQ = s.hostQ ∧
    (modRec s f).pending = s.pending :=
  ⟨rfl, rfl, rfl, rfl, rfl, rfl, rfl, rfl, rfl, rfl, rfl, rfl, rfl, rfl, rfl, rfl, rfl, rfl, rfl,
   rfl, rfl, rfl, rfl, rfl, rfl, rfl, rfl, rfl, rfl, rfl, rfl, rfl, rfl, rfl, rfl,
   rfl⟩

@[simp] theorem modGal_gal (s : State) (f : Gallery → Gallery) : (modGal s f).gal = f s.gal := rfl

@[simp] theorem modGal_frame (s : State) (f : Gallery → Gallery) :
    (modGal s f).pwr = s.pwr ∧ (modGal s f).clk = s.clk ∧ (modGal s f).boot = s.boot ∧ (modGal s f).sleep = s.sleep ∧
    (modGal s f).dict = s.dict ∧ (modGal s f).latched = s.latched ∧ (modGal s f).sup = s.sup ∧
    (modGal s f).bank0 = s.bank0 ∧ (modGal s f).bank1 = s.bank1 ∧ (modGal s f).bank2 = s.bank2 ∧
    (modGal s f).bankCur = s.bankCur ∧ (modGal s f).bankPin = s.bankPin ∧ (modGal s f).reqA = s.reqA ∧
    (modGal s f).reqB = s.reqB ∧ (modGal s f).reqT = s.reqT ∧ (modGal s f).reqE = s.reqE ∧
    (modGal s f).accepted = s.accepted ∧ (modGal s f).recs = s.recs ∧ (modGal s f).eng = s.eng ∧
    (modGal s f).canA = s.canA ∧ (modGal s f).canB = s.canB ∧ (modGal s f).lastServed = s.lastServed ∧
    (modGal s f).odp = s.odp ∧ (modGal s f).publish = s.publish ∧ (modGal s f).twi = s.twi ∧
    (modGal s f).image = s.image ∧ (modGal s f).pins = s.pins ∧ (modGal s f).ctrs = s.ctrs ∧
    (modGal s f).bist = s.bist ∧ (modGal s f).evq = s.evq ∧ (modGal s f).now = s.now ∧
    (modGal s f).causes = s.causes ∧ (modGal s f).fresh = s.fresh ∧ (modGal s f).twin = s.twin ∧ (modGal s f).hostQ = s.hostQ ∧
    (modGal s f).pending = s.pending :=
  ⟨rfl, rfl, rfl, rfl, rfl, rfl, rfl, rfl, rfl, rfl, rfl, rfl, rfl, rfl, rfl, rfl, rfl, rfl, rfl,
   rfl, rfl, rfl, rfl, rfl, rfl, rfl, rfl, rfl, rfl, rfl, rfl, rfl, rfl, rfl, rfl, rfl⟩

@[simp] theorem modTwi_twi (s : State) (f : Twi → Twi) : (modTwi s f).twi = f s.twi := rfl

@[simp] theorem modTwi_frame (s : State) (f : Twi → Twi) :
    (modTwi s f).pwr = s.pwr ∧ (modTwi s f).clk = s.clk ∧ (modTwi s f).boot = s.boot ∧ (modTwi s f).sleep = s.sleep ∧
    (modTwi s f).dict = s.dict ∧ (modTwi s f).latched = s.latched ∧ (modTwi s f).sup = s.sup ∧
    (modTwi s f).bank0 = s.bank0 ∧ (modTwi s f).bank1 = s.bank1 ∧ (modTwi s f).bank2 = s.bank2 ∧
    (modTwi s f).bankCur = s.bankCur ∧ (modTwi s f).bankPin = s.bankPin ∧ (modTwi s f).reqA = s.reqA ∧
    (modTwi s f).reqB = s.reqB ∧ (modTwi s f).reqT = s.reqT ∧ (modTwi s f).reqE = s.reqE ∧
    (modTwi s f).accepted = s.accepted ∧ (modTwi s f).recs = s.recs ∧ (modTwi s f).eng = s.eng ∧
    (modTwi s f).canA = s.canA ∧ (modTwi s f).canB = s.canB ∧ (modTwi s f).lastServed = s.lastServed ∧
    (modTwi s f).odp = s.odp ∧ (modTwi s f).publish = s.publish ∧ (modTwi s f).image = s.image ∧
    (modTwi s f).pins = s.pins ∧ (modTwi s f).ctrs = s.ctrs ∧ (modTwi s f).gal = s.gal ∧ (modTwi s f).bist = s.bist ∧
    (modTwi s f).evq = s.evq ∧ (modTwi s f).now = s.now ∧ (modTwi s f).causes = s.causes ∧
    (modTwi s f).fresh = s.fresh ∧ (modTwi s f).twin = s.twin ∧ (modTwi s f).hostQ = s.hostQ ∧
    (modTwi s f).pending = s.pending :=
  ⟨rfl, rfl, rfl, rfl, rfl, rfl, rfl, rfl, rfl, rfl, rfl, rfl, rfl, rfl, rfl, rfl, rfl, rfl, rfl,
   rfl, rfl, rfl, rfl, rfl, rfl, rfl, rfl, rfl, rfl, rfl, rfl, rfl, rfl, rfl, rfl, rfl⟩

@[simp] theorem setBall_pins (s : State) (n : Nat) (b : Ball) :
    (setBall s n b).pins = { s.pins with ball := put s.pins.ball noBall n b } := rfl

@[simp] theorem setBall_frame (s : State) (n : Nat) (b : Ball) :
    (setBall s n b).pwr = s.pwr ∧ (setBall s n b).clk = s.clk ∧ (setBall s n b).boot = s.boot ∧
    (setBall s n b).sleep = s.sleep ∧ (setBall s n b).dict = s.dict ∧ (setBall s n b).latched = s.latched ∧
    (setBall s n b).sup = s.sup ∧ (setBall s n b).bank0 = s.bank0 ∧ (setBall s n b).bank1 = s.bank1 ∧
    (setBall s n b).bank2 = s.bank2 ∧ (setBall s n b).bankCur = s.bankCur ∧ (setBall s n b).bankPin = s.bankPin ∧
    (setBall s n b).reqA = s.reqA ∧ (setBall s n b).reqB = s.reqB ∧ (setBall s n b).reqT = s.reqT ∧
    (setBall s n b).reqE = s.reqE ∧ (setBall s n b).accepted = s.accepted ∧ (setBall s n b).recs = s.recs ∧
    (setBall s n b).eng = s.eng ∧ (setBall s n b).canA = s.canA ∧ (setBall s n b).canB = s.canB ∧
    (setBall s n b).lastServed = s.lastServed ∧ (setBall s n b).odp = s.odp ∧ (setBall s n b).publish = s.publish ∧
    (setBall s n b).twi = s.twi ∧ (setBall s n b).image = s.image ∧ (setBall s n b).ctrs = s.ctrs ∧
    (setBall s n b).gal = s.gal ∧ (setBall s n b).bist = s.bist ∧ (setBall s n b).evq = s.evq ∧
    (setBall s n b).now = s.now ∧ (setBall s n b).causes = s.causes ∧ (setBall s n b).fresh = s.fresh ∧
    (setBall s n b).twin = s.twin ∧ (setBall s n b).hostQ = s.hostQ ∧
    (setBall s n b).pending = s.pending :=
  ⟨rfl, rfl, rfl, rfl, rfl, rfl, rfl, rfl, rfl, rfl, rfl, rfl, rfl, rfl, rfl, rfl, rfl, rfl, rfl,
   rfl, rfl, rfl, rfl, rfl, rfl, rfl, rfl, rfl, rfl, rfl, rfl, rfl, rfl, rfl, rfl, rfl⟩

@[simp] theorem setPev_pins (s : State) (n : Nat) (v : Pev) :
    (setPev s n v).pins = { s.pins with pev := put s.pins.pev Pev.reset n v } := rfl

@[simp] theorem setPev_frame (s : State) (n : Nat) (v : Pev) :
    (setPev s n v).pwr = s.pwr ∧ (setPev s n v).clk = s.clk ∧ (setPev s n v).boot = s.boot ∧
    (setPev s n v).sleep = s.sleep ∧ (setPev s n v).dict = s.dict ∧ (setPev s n v).latched = s.latched ∧
    (setPev s n v).sup = s.sup ∧ (setPev s n v).bank0 = s.bank0 ∧ (setPev s n v).bank1 = s.bank1 ∧
    (setPev s n v).bank2 = s.bank2 ∧ (setPev s n v).bankCur = s.bankCur ∧ (setPev s n v).bankPin = s.bankPin ∧
    (setPev s n v).reqA = s.reqA ∧ (setPev s n v).reqB = s.reqB ∧ (setPev s n v).reqT = s.reqT ∧
    (setPev s n v).reqE = s.reqE ∧ (setPev s n v).accepted = s.accepted ∧ (setPev s n v).recs = s.recs ∧
    (setPev s n v).eng = s.eng ∧ (setPev s n v).canA = s.canA ∧ (setPev s n v).canB = s.canB ∧
    (setPev s n v).lastServed = s.lastServed ∧ (setPev s n v).odp = s.odp ∧ (setPev s n v).publish = s.publish ∧
    (setPev s n v).twi = s.twi ∧ (setPev s n v).image = s.image ∧ (setPev s n v).ctrs = s.ctrs ∧
    (setPev s n v).gal = s.gal ∧ (setPev s n v).bist = s.bist ∧ (setPev s n v).evq = s.evq ∧
    (setPev s n v).now = s.now ∧ (setPev s n v).causes = s.causes ∧ (setPev s n v).fresh = s.fresh ∧
    (setPev s n v).twin = s.twin ∧ (setPev s n v).hostQ = s.hostQ ∧
    (setPev s n v).pending = s.pending :=
  ⟨rfl, rfl, rfl, rfl, rfl, rfl, rfl, rfl, rfl, rfl, rfl, rfl, rfl, rfl, rfl, rfl, rfl, rfl, rfl,
   rfl, rfl, rfl, rfl, rfl, rfl, rfl, rfl, rfl, rfl, rfl, rfl, rfl, rfl, rfl, rfl, rfl⟩

@[simp] theorem modImage_image (s : State) (f : Image → Image) : (modImage s f).image = f s.image := rfl

@[simp] theorem modImage_frame (s : State) (f : Image → Image) :
    (modImage s f).pwr = s.pwr ∧ (modImage s f).clk = s.clk ∧ (modImage s f).boot = s.boot ∧
    (modImage s f).sleep = s.sleep ∧ (modImage s f).dict = s.dict ∧ (modImage s f).latched = s.latched ∧
    (modImage s f).sup = s.sup ∧ (modImage s f).bank0 = s.bank0 ∧ (modImage s f).bank1 = s.bank1 ∧
    (modImage s f).bank2 = s.bank2 ∧ (modImage s f).bankCur = s.bankCur ∧ (modImage s f).bankPin = s.bankPin ∧
    (modImage s f).reqA = s.reqA ∧ (modImage s f).reqB = s.reqB ∧ (modImage s f).reqT = s.reqT ∧
    (modImage s f).reqE = s.reqE ∧ (modImage s f).accepted = s.accepted ∧ (modImage s f).recs = s.recs ∧
    (modImage s f).eng = s.eng ∧ (modImage s f).canA = s.canA ∧ (modImage s f).canB = s.canB ∧
    (modImage s f).lastServed = s.lastServed ∧ (modImage s f).publish = s.publish ∧ (modImage s f).twi = s.twi ∧
    (modImage s f).pins = s.pins ∧ (modImage s f).ctrs = s.ctrs ∧ (modImage s f).gal = s.gal ∧
    (modImage s f).bist = s.bist ∧ (modImage s f).evq = s.evq ∧ (modImage s f).odp = s.odp ∧
    (modImage s f).now = s.now ∧
    (modImage s f).causes = s.causes ∧ (modImage s f).fresh = s.fresh ∧ (modImage s f).twin = s.twin ∧ (modImage s f).hostQ = s.hostQ ∧
    (modImage s f).pending = s.pending :=
  ⟨rfl, rfl, rfl, rfl, rfl, rfl, rfl, rfl, rfl, rfl, rfl, rfl, rfl, rfl, rfl, rfl, rfl, rfl, rfl,
   rfl, rfl, rfl, rfl, rfl, rfl, rfl, rfl, rfl, rfl, rfl, rfl, rfl, rfl, rfl, rfl,
   rfl⟩

@[simp] theorem modBist_bist (s : State) (f : Bist → Bist) : (modBist s f).bist = f s.bist := rfl

@[simp] theorem modBist_frame (s : State) (f : Bist → Bist) :
    (modBist s f).pwr = s.pwr ∧ (modBist s f).clk = s.clk ∧ (modBist s f).boot = s.boot ∧
    (modBist s f).sleep = s.sleep ∧ (modBist s f).dict = s.dict ∧ (modBist s f).latched = s.latched ∧
    (modBist s f).sup = s.sup ∧ (modBist s f).bank0 = s.bank0 ∧ (modBist s f).bank1 = s.bank1 ∧
    (modBist s f).bank2 = s.bank2 ∧ (modBist s f).bankCur = s.bankCur ∧ (modBist s f).bankPin = s.bankPin ∧
    (modBist s f).reqA = s.reqA ∧ (modBist s f).reqB = s.reqB ∧ (modBist s f).reqT = s.reqT ∧
    (modBist s f).reqE = s.reqE ∧ (modBist s f).accepted = s.accepted ∧ (modBist s f).recs = s.recs ∧
    (modBist s f).eng = s.eng ∧ (modBist s f).canA = s.canA ∧ (modBist s f).canB = s.canB ∧
    (modBist s f).lastServed = s.lastServed ∧ (modBist s f).publish = s.publish ∧ (modBist s f).twi = s.twi ∧
    (modBist s f).image = s.image ∧ (modBist s f).pins = s.pins ∧ (modBist s f).ctrs = s.ctrs ∧
    (modBist s f).gal = s.gal ∧ (modBist s f).evq = s.evq ∧ (modBist s f).odp = s.odp ∧ (modBist s f).now = s.now ∧
    (modBist s f).causes = s.causes ∧ (modBist s f).fresh = s.fresh ∧ (modBist s f).twin = s.twin ∧ (modBist s f).hostQ = s.hostQ ∧
    (modBist s f).pending = s.pending :=
  ⟨rfl, rfl, rfl, rfl, rfl, rfl, rfl, rfl, rfl, rfl, rfl, rfl, rfl, rfl, rfl, rfl, rfl, rfl, rfl,
   rfl, rfl, rfl, rfl, rfl, rfl, rfl, rfl, rfl, rfl, rfl, rfl, rfl, rfl, rfl, rfl,
   rfl⟩

@[simp] theorem setNvm_recs (s : State) (m : Map Byte) : (setNvm s m).recs = { s.recs with nvm := m } := rfl

@[simp] theorem setNvm_frame (s : State) (m : Map Byte) :
    (setNvm s m).pwr = s.pwr ∧ (setNvm s m).clk = s.clk ∧ (setNvm s m).boot = s.boot ∧
    (setNvm s m).sleep = s.sleep ∧ (setNvm s m).dict = s.dict ∧ (setNvm s m).latched = s.latched ∧
    (setNvm s m).sup = s.sup ∧ (setNvm s m).bank0 = s.bank0 ∧ (setNvm s m).bank1 = s.bank1 ∧
    (setNvm s m).bank2 = s.bank2 ∧ (setNvm s m).bankCur = s.bankCur ∧ (setNvm s m).bankPin = s.bankPin ∧
    (setNvm s m).reqA = s.reqA ∧ (setNvm s m).reqB = s.reqB ∧ (setNvm s m).reqT = s.reqT ∧
    (setNvm s m).reqE = s.reqE ∧ (setNvm s m).accepted = s.accepted ∧ (setNvm s m).eng = s.eng ∧
    (setNvm s m).canA = s.canA ∧ (setNvm s m).canB = s.canB ∧ (setNvm s m).lastServed = s.lastServed ∧
    (setNvm s m).publish = s.publish ∧ (setNvm s m).twi = s.twi ∧ (setNvm s m).image = s.image ∧
    (setNvm s m).pins = s.pins ∧ (setNvm s m).ctrs = s.ctrs ∧ (setNvm s m).gal = s.gal ∧
    (setNvm s m).bist = s.bist ∧ (setNvm s m).evq = s.evq ∧ (setNvm s m).odp = s.odp ∧ (setNvm s m).now = s.now ∧
    (setNvm s m).causes = s.causes ∧ (setNvm s m).fresh = s.fresh ∧ (setNvm s m).twin = s.twin ∧ (setNvm s m).hostQ = s.hostQ ∧
    (setNvm s m).pending = s.pending :=
  ⟨rfl, rfl, rfl, rfl, rfl, rfl, rfl, rfl, rfl, rfl, rfl, rfl, rfl, rfl, rfl, rfl, rfl, rfl, rfl,
   rfl, rfl, rfl, rfl, rfl, rfl, rfl, rfl, rfl, rfl, rfl, rfl, rfl, rfl, rfl, rfl,
   rfl⟩

@[simp] theorem setField_dict (s : State) (key v : Nat) : (setField s key v).dict = put s.dict (defaultOf key) key v := rfl

@[simp] theorem setField_frame (s : State) (key v : Nat) :
    (setField s key v).pwr = s.pwr ∧ (setField s key v).clk = s.clk ∧ (setField s key v).boot = s.boot ∧
    (setField s key v).sleep = s.sleep ∧ (setField s key v).latched = s.latched ∧ (setField s key v).sup = s.sup ∧
    (setField s key v).bank0 = s.bank0 ∧ (setField s key v).bank1 = s.bank1 ∧ (setField s key v).bank2 = s.bank2 ∧
    (setField s key v).bankCur = s.bankCur ∧ (setField s key v).bankPin = s.bankPin ∧
    (setField s key v).reqA = s.reqA ∧ (setField s key v).reqB = s.reqB ∧ (setField s key v).reqT = s.reqT ∧
    (setField s key v).reqE = s.reqE ∧ (setField s key v).accepted = s.accepted ∧
    (setField s key v).recs = s.recs ∧ (setField s key v).eng = s.eng ∧ (setField s key v).canA = s.canA ∧
    (setField s key v).canB = s.canB ∧ (setField s key v).lastServed = s.lastServed ∧
    (setField s key v).publish = s.publish ∧ (setField s key v).twi = s.twi ∧ (setField s key v).image = s.image ∧
    (setField s key v).pins = s.pins ∧ (setField s key v).ctrs = s.ctrs ∧ (setField s key v).gal = s.gal ∧
    (setField s key v).bist = s.bist ∧ (setField s key v).evq = s.evq ∧ (setField s key v).odp = s.odp ∧
    (setField s key v).now = s.now ∧
    (setField s key v).causes = s.causes ∧ (setField s key v).fresh = s.fresh ∧
    (setField s key v).twin = s.twin ∧ (setField s key v).hostQ = s.hostQ ∧
    (setField s key v).pending = s.pending :=
  ⟨rfl, rfl, rfl, rfl, rfl, rfl, rfl, rfl, rfl, rfl, rfl, rfl, rfl, rfl, rfl, rfl, rfl, rfl, rfl,
   rfl, rfl, rfl, rfl, rfl, rfl, rfl, rfl, rfl, rfl, rfl, rfl, rfl, rfl, rfl, rfl,
   rfl⟩

@[simp] theorem raise_evq (s : State) (e : Nat) : (raise s e).evq = s.evq ++ [e] := rfl

@[simp] theorem raise_frame (s : State) (e : Nat) :
    (raise s e).pwr = s.pwr ∧ (raise s e).clk = s.clk ∧ (raise s e).boot = s.boot ∧ (raise s e).sleep = s.sleep ∧
    (raise s e).dict = s.dict ∧ (raise s e).latched = s.latched ∧ (raise s e).sup = s.sup ∧
    (raise s e).bank0 = s.bank0 ∧ (raise s e).bank1 = s.bank1 ∧ (raise s e).bank2 = s.bank2 ∧
    (raise s e).bankCur = s.bankCur ∧ (raise s e).bankPin = s.bankPin ∧ (raise s e).reqA = s.reqA ∧
    (raise s e).reqB = s.reqB ∧ (raise s e).reqT = s.reqT ∧ (raise s e).reqE = s.reqE ∧
    (raise s e).accepted = s.accepted ∧ (raise s e).recs = s.recs ∧ (raise s e).eng = s.eng ∧
    (raise s e).canA = s.canA ∧ (raise s e).canB = s.canB ∧ (raise s e).lastServed = s.lastServed ∧
    (raise s e).publish = s.publish ∧ (raise s e).twi = s.twi ∧ (raise s e).image = s.image ∧
    (raise s e).pins = s.pins ∧ (raise s e).ctrs = s.ctrs ∧ (raise s e).gal = s.gal ∧ (raise s e).bist = s.bist ∧
    (raise s e).odp = s.odp ∧ (raise s e).now = s.now ∧ (raise s e).causes = s.causes ∧ (raise s e).fresh = s.fresh ∧
    (raise s e).twin = s.twin ∧ (raise s e).hostQ = s.hostQ ∧
    (raise s e).pending = s.pending :=
  ⟨rfl, rfl, rfl, rfl, rfl, rfl, rfl, rfl, rfl, rfl, rfl, rfl, rfl, rfl, rfl, rfl, rfl, rfl, rfl,
   rfl, rfl, rfl, rfl, rfl, rfl, rfl, rfl, rfl, rfl, rfl, rfl, rfl, rfl, rfl, rfl,
   rfl⟩

@[simp] theorem modCrash_crash (s : State) (f : Crash → Crash) : (modCrash s f).sup.crash = f s.sup.crash := rfl

@[simp] theorem modCrash_frame (s : State) (f : Crash → Crash) :
    (modCrash s f).pwr = s.pwr ∧ (modCrash s f).clk = s.clk ∧ (modCrash s f).boot = s.boot ∧
    (modCrash s f).sleep = s.sleep ∧ (modCrash s f).dict = s.dict ∧ (modCrash s f).latched = s.latched ∧
    (modCrash s f).bank0 = s.bank0 ∧ (modCrash s f).bank1 = s.bank1 ∧ (modCrash s f).bank2 = s.bank2 ∧
    (modCrash s f).bankCur = s.bankCur ∧ (modCrash s f).bankPin = s.bankPin ∧ (modCrash s f).reqA = s.reqA ∧
    (modCrash s f).reqB = s.reqB ∧ (modCrash s f).reqT = s.reqT ∧ (modCrash s f).reqE = s.reqE ∧
    (modCrash s f).accepted = s.accepted ∧ (modCrash s f).recs = s.recs ∧ (modCrash s f).eng = s.eng ∧
    (modCrash s f).canA = s.canA ∧ (modCrash s f).canB = s.canB ∧ (modCrash s f).lastServed = s.lastServed ∧
    (modCrash s f).publish = s.publish ∧ (modCrash s f).twi = s.twi ∧ (modCrash s f).image = s.image ∧
    (modCrash s f).pins = s.pins ∧ (modCrash s f).ctrs = s.ctrs ∧ (modCrash s f).gal = s.gal ∧
    (modCrash s f).bist = s.bist ∧ (modCrash s f).evq = s.evq ∧ (modCrash s f).odp = s.odp ∧
    (modCrash s f).now = s.now ∧
    (modCrash s f).causes = s.causes ∧ (modCrash s f).fresh = s.fresh ∧ (modCrash s f).twin = s.twin ∧ (modCrash s f).hostQ = s.hostQ ∧
    (modCrash s f).sup.lastCommit = s.sup.lastCommit ∧ (modCrash s f).sup.bootDone = s.sup.bootDone ∧
    (modCrash s f).pending = s.pending ∧
    (modCrash s f).sup.mode = s.sup.mode ∧ (modCrash s f).sup.bootHold = s.sup.bootHold ∧
    (modCrash s f).sup.chans = s.sup.chans ∧ (modCrash s f).sup.convs = s.sup.convs ∧
    (modCrash s f).sup.pods = s.sup.pods ∧ (modCrash s f).sup.dis = s.sup.dis ∧
    (modCrash s f).sup.disOut = s.sup.disOut ∧ (modCrash s f).sup.margins = s.sup.margins ∧
    (modCrash s f).sup.line = s.sup.line ∧ (modCrash s f).sup.supply = s.sup.supply ∧
    (modCrash s f).sup.evStatus = s.sup.evStatus ∧ (modCrash s f).sup.aqHeld = s.sup.aqHeld ∧
    (modCrash s f).sup.aqRes = s.sup.aqRes :=
  ⟨rfl, rfl, rfl, rfl, rfl, rfl, rfl, rfl, rfl, rfl, rfl, rfl, rfl, rfl, rfl, rfl, rfl, rfl, rfl, rfl, rfl,
   rfl, rfl, rfl, rfl, rfl, rfl, rfl, rfl, rfl, rfl, rfl, rfl, rfl, rfl, rfl, rfl,
   rfl, rfl, rfl, rfl, rfl, rfl, rfl, rfl, rfl, rfl, rfl, rfl, rfl, rfl⟩

@[simp] theorem modLine_line (s : State) (f : Line → Line) : (modLine s f).sup.line = f s.sup.line := rfl

@[simp] theorem modLine_frame (s : State) (f : Line → Line) :
    (modLine s f).pwr = s.pwr ∧ (modLine s f).clk = s.clk ∧ (modLine s f).boot = s.boot ∧
    (modLine s f).sleep = s.sleep ∧ (modLine s f).dict = s.dict ∧ (modLine s f).latched = s.latched ∧
    (modLine s f).bank0 = s.bank0 ∧ (modLine s f).bank1 = s.bank1 ∧ (modLine s f).bank2 = s.bank2 ∧
    (modLine s f).bankCur = s.bankCur ∧ (modLine s f).bankPin = s.bankPin ∧ (modLine s f).reqA = s.reqA ∧
    (modLine s f).reqB = s.reqB ∧ (modLine s f).reqT = s.reqT ∧ (modLine s f).reqE = s.reqE ∧
    (modLine s f).accepted = s.accepted ∧ (modLine s f).recs = s.recs ∧ (modLine s f).eng = s.eng ∧
    (modLine s f).canA = s.canA ∧ (modLine s f).canB = s.canB ∧ (modLine s f).lastServed = s.lastServed ∧
    (modLine s f).publish = s.publish ∧ (modLine s f).twi = s.twi ∧ (modLine s f).image = s.image ∧
    (modLine s f).pins = s.pins ∧ (modLine s f).ctrs = s.ctrs ∧ (modLine s f).gal = s.gal ∧
    (modLine s f).bist = s.bist ∧ (modLine s f).evq = s.evq ∧ (modLine s f).odp = s.odp ∧ (modLine s f).now = s.now ∧
    (modLine s f).causes = s.causes ∧ (modLine s f).fresh = s.fresh ∧ (modLine s f).twin = s.twin ∧ (modLine s f).hostQ = s.hostQ ∧
    (modLine s f).sup.lastCommit = s.sup.lastCommit ∧ (modLine s f).sup.bootDone = s.sup.bootDone ∧
    (modLine s f).pending = s.pending ∧
    (modLine s f).sup.mode = s.sup.mode ∧ (modLine s f).sup.bootHold = s.sup.bootHold ∧
    (modLine s f).sup.chans = s.sup.chans ∧ (modLine s f).sup.convs = s.sup.convs ∧
    (modLine s f).sup.pods = s.sup.pods ∧ (modLine s f).sup.dis = s.sup.dis ∧
    (modLine s f).sup.disOut = s.sup.disOut ∧ (modLine s f).sup.margins = s.sup.margins ∧
    (modLine s f).sup.crash = s.sup.crash ∧ (modLine s f).sup.supply = s.sup.supply ∧
    (modLine s f).sup.evStatus = s.sup.evStatus ∧ (modLine s f).sup.aqHeld = s.sup.aqHeld ∧
    (modLine s f).sup.aqRes = s.sup.aqRes :=
  ⟨rfl, rfl, rfl, rfl, rfl, rfl, rfl, rfl, rfl, rfl, rfl, rfl, rfl, rfl, rfl, rfl, rfl, rfl, rfl, rfl, rfl,
   rfl, rfl, rfl, rfl, rfl, rfl, rfl, rfl, rfl, rfl, rfl, rfl, rfl, rfl, rfl, rfl,
   rfl, rfl, rfl, rfl, rfl, rfl, rfl, rfl, rfl, rfl, rfl, rfl, rfl, rfl⟩

@[simp] theorem modSupply_supply (s : State) (f : Supply → Supply) : (modSupply s f).sup.supply = f s.sup.supply := rfl

@[simp] theorem modSupply_frame (s : State) (f : Supply → Supply) :
    (modSupply s f).pwr = s.pwr ∧ (modSupply s f).clk = s.clk ∧ (modSupply s f).boot = s.boot ∧
    (modSupply s f).sleep = s.sleep ∧ (modSupply s f).dict = s.dict ∧ (modSupply s f).latched = s.latched ∧
    (modSupply s f).bank0 = s.bank0 ∧ (modSupply s f).bank1 = s.bank1 ∧ (modSupply s f).bank2 = s.bank2 ∧
    (modSupply s f).bankCur = s.bankCur ∧ (modSupply s f).bankPin = s.bankPin ∧ (modSupply s f).reqA = s.reqA ∧
    (modSupply s f).reqB = s.reqB ∧ (modSupply s f).reqT = s.reqT ∧ (modSupply s f).reqE = s.reqE ∧
    (modSupply s f).accepted = s.accepted ∧ (modSupply s f).recs = s.recs ∧ (modSupply s f).eng = s.eng ∧
    (modSupply s f).canA = s.canA ∧ (modSupply s f).canB = s.canB ∧ (modSupply s f).lastServed = s.lastServed ∧
    (modSupply s f).publish = s.publish ∧ (modSupply s f).twi = s.twi ∧ (modSupply s f).image = s.image ∧
    (modSupply s f).pins = s.pins ∧ (modSupply s f).ctrs = s.ctrs ∧ (modSupply s f).gal = s.gal ∧
    (modSupply s f).bist = s.bist ∧ (modSupply s f).evq = s.evq ∧ (modSupply s f).odp = s.odp ∧
    (modSupply s f).now = s.now ∧
    (modSupply s f).causes = s.causes ∧ (modSupply s f).fresh = s.fresh ∧ (modSupply s f).twin = s.twin ∧ (modSupply s f).hostQ = s.hostQ ∧
    (modSupply s f).sup.lastCommit = s.sup.lastCommit ∧ (modSupply s f).sup.bootDone = s.sup.bootDone ∧
    (modSupply s f).pending = s.pending ∧
    (modSupply s f).sup.mode = s.sup.mode ∧ (modSupply s f).sup.bootHold = s.sup.bootHold ∧
    (modSupply s f).sup.chans = s.sup.chans ∧ (modSupply s f).sup.convs = s.sup.convs ∧
    (modSupply s f).sup.pods = s.sup.pods ∧ (modSupply s f).sup.dis = s.sup.dis ∧
    (modSupply s f).sup.disOut = s.sup.disOut ∧ (modSupply s f).sup.margins = s.sup.margins ∧
    (modSupply s f).sup.crash = s.sup.crash ∧ (modSupply s f).sup.line = s.sup.line ∧
    (modSupply s f).sup.evStatus = s.sup.evStatus ∧ (modSupply s f).sup.aqHeld = s.sup.aqHeld ∧
    (modSupply s f).sup.aqRes = s.sup.aqRes :=
  ⟨rfl, rfl, rfl, rfl, rfl, rfl, rfl, rfl, rfl, rfl, rfl, rfl, rfl, rfl, rfl, rfl, rfl, rfl, rfl, rfl, rfl,
   rfl, rfl, rfl, rfl, rfl, rfl, rfl, rfl, rfl, rfl, rfl, rfl, rfl, rfl, rfl, rfl,
   rfl, rfl, rfl, rfl, rfl, rfl, rfl, rfl, rfl, rfl, rfl, rfl, rfl, rfl⟩

@[simp] theorem setChan_chans (s : State) (c : Nat) (v : Chan) : (setChan s c v).sup.chans = put s.sup.chans Chan.reset c v := rfl

@[simp] theorem setChan_frame (s : State) (c : Nat) (v : Chan) :
    (setChan s c v).pwr = s.pwr ∧ (setChan s c v).clk = s.clk ∧ (setChan s c v).boot = s.boot ∧
    (setChan s c v).sleep = s.sleep ∧ (setChan s c v).dict = s.dict ∧ (setChan s c v).latched = s.latched ∧
    (setChan s c v).bank0 = s.bank0 ∧ (setChan s c v).bank1 = s.bank1 ∧ (setChan s c v).bank2 = s.bank2 ∧
    (setChan s c v).bankCur = s.bankCur ∧ (setChan s c v).bankPin = s.bankPin ∧ (setChan s c v).reqA = s.reqA ∧
    (setChan s c v).reqB = s.reqB ∧ (setChan s c v).reqT = s.reqT ∧ (setChan s c v).reqE = s.reqE ∧
    (setChan s c v).accepted = s.accepted ∧ (setChan s c v).recs = s.recs ∧ (setChan s c v).eng = s.eng ∧
    (setChan s c v).canA = s.canA ∧ (setChan s c v).canB = s.canB ∧ (setChan s c v).lastServed = s.lastServed ∧
    (setChan s c v).publish = s.publish ∧ (setChan s c v).twi = s.twi ∧ (setChan s c v).image = s.image ∧
    (setChan s c v).pins = s.pins ∧ (setChan s c v).ctrs = s.ctrs ∧ (setChan s c v).gal = s.gal ∧
    (setChan s c v).bist = s.bist ∧ (setChan s c v).evq = s.evq ∧ (setChan s c v).odp = s.odp ∧
    (setChan s c v).now = s.now ∧
    (setChan s c v).causes = s.causes ∧ (setChan s c v).fresh = s.fresh ∧ (setChan s c v).twin = s.twin ∧ (setChan s c v).hostQ = s.hostQ ∧
    (setChan s c v).sup.lastCommit = s.sup.lastCommit ∧ (setChan s c v).sup.bootDone = s.sup.bootDone ∧
    (setChan s c v).pending = s.pending ∧
    (setChan s c v).sup.mode = s.sup.mode ∧ (setChan s c v).sup.bootHold = s.sup.bootHold ∧
    (setChan s c v).sup.convs = s.sup.convs ∧ (setChan s c v).sup.pods = s.sup.pods ∧
    (setChan s c v).sup.dis = s.sup.dis ∧ (setChan s c v).sup.disOut = s.sup.disOut ∧
    (setChan s c v).sup.margins = s.sup.margins ∧ (setChan s c v).sup.crash = s.sup.crash ∧
    (setChan s c v).sup.line = s.sup.line ∧ (setChan s c v).sup.supply = s.sup.supply ∧
    (setChan s c v).sup.evStatus = s.sup.evStatus ∧ (setChan s c v).sup.aqHeld = s.sup.aqHeld ∧
    (setChan s c v).sup.aqRes = s.sup.aqRes :=
  ⟨rfl, rfl, rfl, rfl, rfl, rfl, rfl, rfl, rfl, rfl, rfl, rfl, rfl, rfl, rfl, rfl, rfl, rfl, rfl, rfl, rfl,
   rfl, rfl, rfl, rfl, rfl, rfl, rfl, rfl, rfl, rfl, rfl, rfl, rfl, rfl, rfl, rfl,
   rfl, rfl, rfl, rfl, rfl, rfl, rfl, rfl, rfl, rfl, rfl, rfl, rfl, rfl⟩

@[simp] theorem setConv_convs (s : State) (g : Nat) (v : Conv) : (setConv s g v).sup.convs = put s.sup.convs Conv.reset g v := rfl

@[simp] theorem setConv_frame (s : State) (g : Nat) (v : Conv) :
    (setConv s g v).pwr = s.pwr ∧ (setConv s g v).clk = s.clk ∧ (setConv s g v).boot = s.boot ∧
    (setConv s g v).sleep = s.sleep ∧ (setConv s g v).dict = s.dict ∧ (setConv s g v).latched = s.latched ∧
    (setConv s g v).bank0 = s.bank0 ∧ (setConv s g v).bank1 = s.bank1 ∧ (setConv s g v).bank2 = s.bank2 ∧
    (setConv s g v).bankCur = s.bankCur ∧ (setConv s g v).bankPin = s.bankPin ∧ (setConv s g v).reqA = s.reqA ∧
    (setConv s g v).reqB = s.reqB ∧ (setConv s g v).reqT = s.reqT ∧ (setConv s g v).reqE = s.reqE ∧
    (setConv s g v).accepted = s.accepted ∧ (setConv s g v).recs = s.recs ∧ (setConv s g v).eng = s.eng ∧
    (setConv s g v).canA = s.canA ∧ (setConv s g v).canB = s.canB ∧ (setConv s g v).lastServed = s.lastServed ∧
    (setConv s g v).publish = s.publish ∧ (setConv s g v).twi = s.twi ∧ (setConv s g v).image = s.image ∧
    (setConv s g v).pins = s.pins ∧ (setConv s g v).ctrs = s.ctrs ∧ (setConv s g v).gal = s.gal ∧
    (setConv s g v).bist = s.bist ∧ (setConv s g v).evq = s.evq ∧ (setConv s g v).odp = s.odp ∧
    (setConv s g v).now = s.now ∧
    (setConv s g v).causes = s.causes ∧ (setConv s g v).fresh = s.fresh ∧ (setConv s g v).twin = s.twin ∧ (setConv s g v).hostQ = s.hostQ ∧
    (setConv s g v).sup.lastCommit = s.sup.lastCommit ∧ (setConv s g v).sup.bootDone = s.sup.bootDone ∧
    (setConv s g v).pending = s.pending ∧
    (setConv s g v).sup.mode = s.sup.mode ∧ (setConv s g v).sup.bootHold = s.sup.bootHold ∧
    (setConv s g v).sup.chans = s.sup.chans ∧ (setConv s g v).sup.pods = s.sup.pods ∧
    (setConv s g v).sup.dis = s.sup.dis ∧ (setConv s g v).sup.disOut = s.sup.disOut ∧
    (setConv s g v).sup.margins = s.sup.margins ∧ (setConv s g v).sup.crash = s.sup.crash ∧
    (setConv s g v).sup.line = s.sup.line ∧ (setConv s g v).sup.supply = s.sup.supply ∧
    (setConv s g v).sup.evStatus = s.sup.evStatus ∧ (setConv s g v).sup.aqHeld = s.sup.aqHeld ∧
    (setConv s g v).sup.aqRes = s.sup.aqRes :=
  ⟨rfl, rfl, rfl, rfl, rfl, rfl, rfl, rfl, rfl, rfl, rfl, rfl, rfl, rfl, rfl, rfl, rfl, rfl, rfl, rfl, rfl,
   rfl, rfl, rfl, rfl, rfl, rfl, rfl, rfl, rfl, rfl, rfl, rfl, rfl, rfl, rfl, rfl,
   rfl, rfl, rfl, rfl, rfl, rfl, rfl, rfl, rfl, rfl, rfl, rfl, rfl, rfl⟩

@[simp] theorem setPod_pods (s : State) (p : Nat) (v : Pod) : (setPod s p v).sup.pods = put s.sup.pods Pod.reset p v := rfl

@[simp] theorem setPod_frame (s : State) (p : Nat) (v : Pod) :
    (setPod s p v).pwr = s.pwr ∧ (setPod s p v).clk = s.clk ∧ (setPod s p v).boot = s.boot ∧
    (setPod s p v).sleep = s.sleep ∧ (setPod s p v).dict = s.dict ∧ (setPod s p v).latched = s.latched ∧
    (setPod s p v).bank0 = s.bank0 ∧ (setPod s p v).bank1 = s.bank1 ∧ (setPod s p v).bank2 = s.bank2 ∧
    (setPod s p v).bankCur = s.bankCur ∧ (setPod s p v).bankPin = s.bankPin ∧ (setPod s p v).reqA = s.reqA ∧
    (setPod s p v).reqB = s.reqB ∧ (setPod s p v).reqT = s.reqT ∧ (setPod s p v).reqE = s.reqE ∧
    (setPod s p v).accepted = s.accepted ∧ (setPod s p v).recs = s.recs ∧ (setPod s p v).eng = s.eng ∧
    (setPod s p v).canA = s.canA ∧ (setPod s p v).canB = s.canB ∧ (setPod s p v).lastServed = s.lastServed ∧
    (setPod s p v).publish = s.publish ∧ (setPod s p v).twi = s.twi ∧ (setPod s p v).image = s.image ∧
    (setPod s p v).pins = s.pins ∧ (setPod s p v).ctrs = s.ctrs ∧ (setPod s p v).gal = s.gal ∧
    (setPod s p v).bist = s.bist ∧ (setPod s p v).evq = s.evq ∧ (setPod s p v).odp = s.odp ∧
    (setPod s p v).now = s.now ∧
    (setPod s p v).causes = s.causes ∧ (setPod s p v).fresh = s.fresh ∧ (setPod s p v).twin = s.twin ∧ (setPod s p v).hostQ = s.hostQ ∧
    (setPod s p v).sup.lastCommit = s.sup.lastCommit ∧ (setPod s p v).sup.bootDone = s.sup.bootDone ∧
    (setPod s p v).pending = s.pending ∧
    (setPod s p v).sup.mode = s.sup.mode ∧ (setPod s p v).sup.bootHold = s.sup.bootHold ∧
    (setPod s p v).sup.chans = s.sup.chans ∧ (setPod s p v).sup.convs = s.sup.convs ∧
    (setPod s p v).sup.dis = s.sup.dis ∧ (setPod s p v).sup.disOut = s.sup.disOut ∧
    (setPod s p v).sup.margins = s.sup.margins ∧ (setPod s p v).sup.crash = s.sup.crash ∧
    (setPod s p v).sup.line = s.sup.line ∧ (setPod s p v).sup.supply = s.sup.supply ∧
    (setPod s p v).sup.evStatus = s.sup.evStatus ∧ (setPod s p v).sup.aqHeld = s.sup.aqHeld ∧
    (setPod s p v).sup.aqRes = s.sup.aqRes :=
  ⟨rfl, rfl, rfl, rfl, rfl, rfl, rfl, rfl, rfl, rfl, rfl, rfl, rfl, rfl, rfl, rfl, rfl, rfl, rfl, rfl, rfl,
   rfl, rfl, rfl, rfl, rfl, rfl, rfl, rfl, rfl, rfl, rfl, rfl, rfl, rfl, rfl, rfl,
   rfl, rfl, rfl, rfl, rfl, rfl, rfl, rfl, rfl, rfl, rfl, rfl, rfl, rfl⟩

@[simp] theorem setDis_dis (s : State) (c : Nat) (v : Dis) : (setDis s c v).sup.dis = put s.sup.dis Dis.reset c v := rfl

@[simp] theorem setDis_frame (s : State) (c : Nat) (v : Dis) :
    (setDis s c v).pwr = s.pwr ∧ (setDis s c v).clk = s.clk ∧ (setDis s c v).boot = s.boot ∧
    (setDis s c v).sleep = s.sleep ∧ (setDis s c v).dict = s.dict ∧ (setDis s c v).latched = s.latched ∧
    (setDis s c v).bank0 = s.bank0 ∧ (setDis s c v).bank1 = s.bank1 ∧ (setDis s c v).bank2 = s.bank2 ∧
    (setDis s c v).bankCur = s.bankCur ∧ (setDis s c v).bankPin = s.bankPin ∧ (setDis s c v).reqA = s.reqA ∧
    (setDis s c v).reqB = s.reqB ∧ (setDis s c v).reqT = s.reqT ∧ (setDis s c v).reqE = s.reqE ∧
    (setDis s c v).accepted = s.accepted ∧ (setDis s c v).recs = s.recs ∧ (setDis s c v).eng = s.eng ∧
    (setDis s c v).canA = s.canA ∧ (setDis s c v).canB = s.canB ∧ (setDis s c v).lastServed = s.lastServed ∧
    (setDis s c v).publish = s.publish ∧ (setDis s c v).twi = s.twi ∧ (setDis s c v).image = s.image ∧
    (setDis s c v).pins = s.pins ∧ (setDis s c v).ctrs = s.ctrs ∧ (setDis s c v).gal = s.gal ∧
    (setDis s c v).bist = s.bist ∧ (setDis s c v).evq = s.evq ∧ (setDis s c v).odp = s.odp ∧
    (setDis s c v).now = s.now ∧
    (setDis s c v).causes = s.causes ∧ (setDis s c v).fresh = s.fresh ∧ (setDis s c v).twin = s.twin ∧ (setDis s c v).hostQ = s.hostQ ∧
    (setDis s c v).sup.lastCommit = s.sup.lastCommit ∧ (setDis s c v).sup.bootDone = s.sup.bootDone ∧
    (setDis s c v).pending = s.pending ∧
    (setDis s c v).sup.mode = s.sup.mode ∧ (setDis s c v).sup.bootHold = s.sup.bootHold ∧
    (setDis s c v).sup.chans = s.sup.chans ∧ (setDis s c v).sup.convs = s.sup.convs ∧
    (setDis s c v).sup.pods = s.sup.pods ∧ (setDis s c v).sup.disOut = s.sup.disOut ∧
    (setDis s c v).sup.margins = s.sup.margins ∧ (setDis s c v).sup.crash = s.sup.crash ∧
    (setDis s c v).sup.line = s.sup.line ∧ (setDis s c v).sup.supply = s.sup.supply ∧
    (setDis s c v).sup.evStatus = s.sup.evStatus ∧ (setDis s c v).sup.aqHeld = s.sup.aqHeld ∧
    (setDis s c v).sup.aqRes = s.sup.aqRes :=
  ⟨rfl, rfl, rfl, rfl, rfl, rfl, rfl, rfl, rfl, rfl, rfl, rfl, rfl, rfl, rfl, rfl, rfl, rfl, rfl, rfl, rfl,
   rfl, rfl, rfl, rfl, rfl, rfl, rfl, rfl, rfl, rfl, rfl, rfl, rfl, rfl, rfl, rfl,
   rfl, rfl, rfl, rfl, rfl, rfl, rfl, rfl, rfl, rfl, rfl, rfl, rfl, rfl⟩

@[simp] theorem setMargin_margins (s : State) (c : Nat) (v : Margin) : (setMargin s c v).sup.margins = put s.sup.margins Margin.reset c v := rfl

@[simp] theorem setMargin_frame (s : State) (c : Nat) (v : Margin) :
    (setMargin s c v).pwr = s.pwr ∧ (setMargin s c v).clk = s.clk ∧ (setMargin s c v).boot = s.boot ∧
    (setMargin s c v).sleep = s.sleep ∧ (setMargin s c v).dict = s.dict ∧ (setMargin s c v).latched = s.latched ∧
    (setMargin s c v).bank0 = s.bank0 ∧ (setMargin s c v).bank1 = s.bank1 ∧ (setMargin s c v).bank2 = s.bank2 ∧
    (setMargin s c v).bankCur = s.bankCur ∧ (setMargin s c v).bankPin = s.bankPin ∧
    (setMargin s c v).reqA = s.reqA ∧ (setMargin s c v).reqB = s.reqB ∧ (setMargin s c v).reqT = s.reqT ∧
    (setMargin s c v).reqE = s.reqE ∧ (setMargin s c v).accepted = s.accepted ∧ (setMargin s c v).recs = s.recs ∧
    (setMargin s c v).eng = s.eng ∧ (setMargin s c v).canA = s.canA ∧ (setMargin s c v).canB = s.canB ∧
    (setMargin s c v).lastServed = s.lastServed ∧ (setMargin s c v).publish = s.publish ∧
    (setMargin s c v).twi = s.twi ∧ (setMargin s c v).image = s.image ∧ (setMargin s c v).pins = s.pins ∧
    (setMargin s c v).ctrs = s.ctrs ∧ (setMargin s c v).gal = s.gal ∧ (setMargin s c v).bist = s.bist ∧
    (setMargin s c v).evq = s.evq ∧ (setMargin s c v).odp = s.odp ∧ (setMargin s c v).now = s.now ∧
    (setMargin s c v).causes = s.causes ∧
    (setMargin s c v).fresh = s.fresh ∧ (setMargin s c v).twin = s.twin ∧ (setMargin s c v).hostQ = s.hostQ ∧
    (setMargin s c v).sup.lastCommit = s.sup.lastCommit ∧ (setMargin s c v).sup.bootDone = s.sup.bootDone ∧
    (setMargin s c v).pending = s.pending ∧
    (setMargin s c v).sup.mode = s.sup.mode ∧ (setMargin s c v).sup.bootHold = s.sup.bootHold ∧
    (setMargin s c v).sup.chans = s.sup.chans ∧ (setMargin s c v).sup.convs = s.sup.convs ∧
    (setMargin s c v).sup.pods = s.sup.pods ∧ (setMargin s c v).sup.dis = s.sup.dis ∧
    (setMargin s c v).sup.disOut = s.sup.disOut ∧ (setMargin s c v).sup.crash = s.sup.crash ∧
    (setMargin s c v).sup.line = s.sup.line ∧ (setMargin s c v).sup.supply = s.sup.supply ∧
    (setMargin s c v).sup.evStatus = s.sup.evStatus ∧ (setMargin s c v).sup.aqHeld = s.sup.aqHeld ∧
    (setMargin s c v).sup.aqRes = s.sup.aqRes :=
  ⟨rfl, rfl, rfl, rfl, rfl, rfl, rfl, rfl, rfl, rfl, rfl, rfl, rfl, rfl, rfl, rfl, rfl, rfl, rfl, rfl, rfl,
   rfl, rfl, rfl, rfl, rfl, rfl, rfl, rfl, rfl, rfl, rfl, rfl, rfl, rfl, rfl, rfl,
   rfl, rfl, rfl, rfl, rfl, rfl, rfl, rfl, rfl, rfl, rfl, rfl, rfl, rfl⟩

@[simp] theorem markStatus_now (s : State) (e : Nat) : (markStatus s e).now = { s.now with raised := setBit s.now.raised e } := rfl

@[simp] theorem markStatus_evStatus (s : State) (e : Nat) : (markStatus s e).sup.evStatus = setBit s.sup.evStatus e := rfl

@[simp] theorem markStatus_frame (s : State) (e : Nat) :
    (markStatus s e).pwr = s.pwr ∧ (markStatus s e).clk = s.clk ∧ (markStatus s e).boot = s.boot ∧
    (markStatus s e).sleep = s.sleep ∧ (markStatus s e).dict = s.dict ∧ (markStatus s e).latched = s.latched ∧
    (markStatus s e).bank0 = s.bank0 ∧ (markStatus s e).bank1 = s.bank1 ∧ (markStatus s e).bank2 = s.bank2 ∧
    (markStatus s e).bankCur = s.bankCur ∧ (markStatus s e).bankPin = s.bankPin ∧ (markStatus s e).reqA = s.reqA ∧
    (markStatus s e).reqB = s.reqB ∧ (markStatus s e).reqT = s.reqT ∧ (markStatus s e).reqE = s.reqE ∧
    (markStatus s e).accepted = s.accepted ∧ (markStatus s e).recs = s.recs ∧ (markStatus s e).eng = s.eng ∧
    (markStatus s e).canA = s.canA ∧ (markStatus s e).canB = s.canB ∧ (markStatus s e).lastServed = s.lastServed ∧
    (markStatus s e).publish = s.publish ∧ (markStatus s e).twi = s.twi ∧ (markStatus s e).image = s.image ∧
    (markStatus s e).pins = s.pins ∧ (markStatus s e).ctrs = s.ctrs ∧ (markStatus s e).gal = s.gal ∧
    (markStatus s e).bist = s.bist ∧ (markStatus s e).evq = s.evq ∧ (markStatus s e).odp = s.odp ∧
    (markStatus s e).causes = s.causes ∧ (markStatus s e).fresh = s.fresh ∧ (markStatus s e).twin = s.twin ∧ (markStatus s e).hostQ = s.hostQ ∧
    (markStatus s e).sup.lastCommit = s.sup.lastCommit ∧ (markStatus s e).sup.bootDone = s.sup.bootDone ∧
    (markStatus s e).pending = s.pending ∧
    (markStatus s e).sup.mode = s.sup.mode ∧ (markStatus s e).sup.bootHold = s.sup.bootHold ∧
    (markStatus s e).sup.chans = s.sup.chans ∧ (markStatus s e).sup.convs = s.sup.convs ∧
    (markStatus s e).sup.pods = s.sup.pods ∧ (markStatus s e).sup.dis = s.sup.dis ∧
    (markStatus s e).sup.disOut = s.sup.disOut ∧ (markStatus s e).sup.margins = s.sup.margins ∧
    (markStatus s e).sup.crash = s.sup.crash ∧ (markStatus s e).sup.line = s.sup.line ∧
    (markStatus s e).sup.supply = s.sup.supply ∧ (markStatus s e).sup.aqHeld = s.sup.aqHeld ∧
    (markStatus s e).sup.aqRes = s.sup.aqRes :=
  ⟨rfl, rfl, rfl, rfl, rfl, rfl, rfl, rfl, rfl, rfl, rfl, rfl, rfl, rfl, rfl, rfl, rfl, rfl, rfl, rfl,
   rfl, rfl, rfl, rfl, rfl, rfl, rfl, rfl, rfl, rfl, rfl, rfl, rfl, rfl, rfl, rfl,
   rfl, rfl, rfl, rfl, rfl, rfl, rfl, rfl, rfl, rfl, rfl, rfl, rfl, rfl⟩

@[simp] theorem req_modReq (s : State) (r : Requester) (f : ReqState → ReqState) :
    req (modReq s r f) r = f (req s r) := by cases r <;> rfl

theorem req_modReq_other (s : State) (r r' : Requester) (f : ReqState → ReqState) (h : r' ≠ r) :
    req (modReq s r f) r' = req s r' := by cases r <;> cases r' <;> first | rfl | exact absurd rfl h

theorem modReq_modReq (s : State) (r : Requester) (f g : ReqState → ReqState) :
    modReq (modReq s r f) r g = modReq s r fun q => g (f q) := by cases r <;> rfl

@[simp] theorem modReq_frame (s : State) (r : Requester) (f : ReqState → ReqState) :
    (modReq s r f).pwr = s.pwr ∧ (modReq s r f).clk = s.clk ∧ (modReq s r f).boot = s.boot ∧
    (modReq s r f).sleep = s.sleep ∧ (modReq s r f).dict = s.dict ∧ (modReq s r f).latched = s.latched ∧
    (modReq s r f).sup = s.sup ∧ (modReq s r f).bank0 = s.bank0 ∧ (modReq s r f).bank1 = s.bank1 ∧
    (modReq s r f).bank2 = s.bank2 ∧ (modReq s r f).bankCur = s.bankCur ∧ (modReq s r f).bankPin = s.bankPin ∧
    (modReq s r f).accepted = s.accepted ∧ (modReq s r f).recs = s.recs ∧ (modReq s r f).eng = s.eng ∧
    (modReq s r f).canA = s.canA ∧ (modReq s r f).canB = s.canB ∧ (modReq s r f).lastServed = s.lastServed ∧
    (modReq s r f).publish = s.publish ∧ (modReq s r f).twi = s.twi ∧ (modReq s r f).image = s.image ∧
    (modReq s r f).pins = s.pins ∧ (modReq s r f).ctrs = s.ctrs ∧ (modReq s r f).gal = s.gal ∧
    (modReq s r f).bist = s.bist ∧ (modReq s r f).evq = s.evq ∧ (modReq s r f).odp = s.odp ∧
    (modReq s r f).now = s.now ∧
    (modReq s r f).causes = s.causes ∧ (modReq s r f).fresh = s.fresh ∧ (modReq s r f).twin = s.twin ∧ (modReq s r f).hostQ = s.hostQ ∧
    (modReq s r f).pending = s.pending := by
  cases r <;> simp [modReq, setReq]

@[simp] theorem modPort_frame (s : State) (p : Port) (f : CanPort → CanPort) :
    (modPort s p f).pwr = s.pwr ∧ (modPort s p f).clk = s.clk ∧ (modPort s p f).boot = s.boot ∧
    (modPort s p f).sleep = s.sleep ∧ (modPort s p f).dict = s.dict ∧ (modPort s p f).latched = s.latched ∧
    (modPort s p f).sup = s.sup ∧ (modPort s p f).bank0 = s.bank0 ∧ (modPort s p f).bank1 = s.bank1 ∧
    (modPort s p f).bank2 = s.bank2 ∧ (modPort s p f).bankCur = s.bankCur ∧ (modPort s p f).bankPin = s.bankPin ∧
    (modPort s p f).reqA = s.reqA ∧ (modPort s p f).reqB = s.reqB ∧ (modPort s p f).reqT = s.reqT ∧
    (modPort s p f).reqE = s.reqE ∧ (modPort s p f).accepted = s.accepted ∧ (modPort s p f).recs = s.recs ∧
    (modPort s p f).eng = s.eng ∧ (modPort s p f).lastServed = s.lastServed ∧ (modPort s p f).publish = s.publish ∧
    (modPort s p f).twi = s.twi ∧ (modPort s p f).image = s.image ∧ (modPort s p f).pins = s.pins ∧
    (modPort s p f).ctrs = s.ctrs ∧ (modPort s p f).gal = s.gal ∧ (modPort s p f).bist = s.bist ∧
    (modPort s p f).evq = s.evq ∧ (modPort s p f).odp = s.odp ∧ (modPort s p f).now = s.now ∧
    (modPort s p f).causes = s.causes ∧
    (modPort s p f).fresh = s.fresh ∧ (modPort s p f).twin = s.twin ∧ (modPort s p f).hostQ = s.hostQ ∧
    (modPort s p f).pending = s.pending := by
  cases p <;> simp [modPort]

@[simp] theorem port_modPort (s : State) (p : Port) (f : CanPort → CanPort) : port (modPort s p f) p = f (port s p) := by
  cases p <;> rfl

end Sys2Proof.Machine
end

