-- ==== Sys2Proof/Laws/Done.lean ====
section
/-!
SUPPORT. The end of every command, said once: what `done` answers, that no event of it waits, which EVENT_STATUS bits
it sets, and how a state given by its unrouted part determines the answer.
-/
namespace Sys2Proof.Machine

/-- Equal unrouted parts agree in everything that `unrouted` keeps. -/
theorem of_unrouted {α : Type} (p : State → α) (hp : ∀ s, p (unrouted s) = p s) {s t : State}
    (h : unrouted s = unrouted t) : p s = p t := by rw [← hp s, ← hp t, h]

theorem unrouted_unrouted (s : State) : unrouted (unrouted s) = unrouted s := by
  have : ∀ o : Option Capture, (o.map bareCapture).map bareCapture = o.map bareCapture := by
    intro o; cases o <;> rfl
  simp [unrouted, this]

theorem unrouted_withPending (s : State) (l : List Instr) :
    unrouted { s with causes := [], pending := l } = { unrouted s with pending := l } := rfl

/-- What the second copy of SUPERVISE does stays in that copy. -/
theorem bothCopies_eq (s : State) (f : State → State) : ∃ v, bothCopies s f = { f s with twin := v } := by
  unfold bothCopies
  dsimp only
  split
  · exact ⟨_, rfl⟩
  · exact ⟨(f s).twin, rfl⟩

/-- Where the copies stand alike, what one does is all. -/
theorem bothCopies_alike (s : State) (f : State → State) (h : s.twin = none) : bothCopies s f = f s := by
  simp [bothCopies, h]

@[simp] theorem unrouted_bothCopies (s : State) (f : State → State) : unrouted (bothCopies s f) = unrouted (f s) := by
  obtain ⟨w, h⟩ := bothCopies_eq s f
  rw [h]; rfl

/-- What a command answers: its effect, and its queue as it was. -/
theorem done_next (s u : State) (f : State → State) (h : unrouted (f s) = unrouted u) (hp : u.pending = s.pending) :
    ∃ v, done s f = .next v ∧ unrouted v = unrouted u := by
  refine ⟨_, rfl, ?_⟩
  rw [unrouted_withPending, unrouted_flush, unrouted_bothCopies, h, ← hp]
  rfl

/-- The answer of a command is its unrouted effect with the queue as it was. -/
theorem unrouted_done {s v : State} {f : State → State} (h : done s f = .next v) :
    unrouted v = { unrouted (f s) with pending := s.pending } := by
  injection h with h
  rw [← h, unrouted_withPending, unrouted_flush, unrouted_bothCopies]

theorem done_ne_fault (s : State) (f : State → State) (x : Fault) : done s f ≠ .fault x := nofun
theorem done_ne_refused (s : State) (f : State → State) (x : Refusal) : done s f ≠ .refused x := nofun

theorem quiet_done {s v : State} {f : State → State} (h : done s f = .next v) : quiet v := by
  injection h with h
  rw [← h]
  exact flush_quiet _ s.pending

theorem pending_done {s v : State} {f : State → State} (h : done s f = .next v) : v.pending = s.pending := by
  injection h with h
  rw [← h]

/-! ## A new tick -/

/-- A new tick changes the time and what `unrouted` leaves out, where the tick that ends has read no SAMPLE. -/
theorem unrouted_newTick (s : State) (t : Nat) (h : s.now.samples = []) :
    unrouted (newTick s t) = { unrouted s with clk := { s.clk with time := t } } := by
  have k : ∀ (u : State) (w : Now), unrouted { u with clk := { u.clk with time := t }, now := w } =
      { unrouted u with clk := { (unrouted u).clk with time := t } } := fun _ _ => rfl
  unfold newTick
  refine (k (bothCopies s fun s => tickOver s t) _).trans ?_
  rw [unrouted_bothCopies, tickOver, unrouted_settle, unrouted_closeTick (captureBalls s t) h, unrouted_captureBalls]
  rfl

/-! ## Which events show -/

@[simp] theorem sup_occ (s : State) (lo n code times : Nat) : (occ s lo n code times).sup = s.sup :=
  each_keep State.sup _ (fun s _ => status_bump s _ _ _) _ _

@[simp] theorem evq_occ (s : State) (lo n code times : Nat) : (occ s lo n code times).evq = s.evq :=
  each_keep State.evq _ (fun s _ => evq_bump s _ _ _) _ _

/-- A command shows the events that it raises, keeps those that showed, and shows no other. -/
theorem done_shows {s v : State} {f : State → State} (h : done s f = .next v) (e : Nat) :
    shows v e ↔ (f s).sup.evStatus.testBit e = true ∨ e ∈ (f s).evq := by
  injection h with h
  obtain ⟨w, hw⟩ := bothCopies_eq s f
  rw [← h, hw]
  exact status_flush _ e

end Sys2Proof.Machine
end

