-- ==== Sys2Proof/Laws/Count.lean ====
section
/-!
SUPPORT. Counting changes the counters and the notes of the tick, and nothing else (R472).
-/
namespace Sys2Proof.Machine

/-- A fold keeps a relation to its start that each of its steps keeps. -/
theorem each_rel {α : Type} (p : State → State → Prop) (f : State → α → State)
    (h : ∀ s t x, p s t → p s (f t x)) (l : List α) : ∀ s t, p s t → p s (each l t f) := by
  induction l with
  | nil => intro s t hp; exact hp
  | cons x r ih => intro s t hp; exact ih s (f t x) (h s t x hp)

/-- Everything that counting can do. -/
theorem occ_eq (s : State) (lo n code times : Nat) : ∃ c w, occ s lo n code times = { s with ctrs := c, now := w } := by
  refine each_rel (fun s t => ∃ c w, t = { s with ctrs := c, now := w }) _ ?_ _ s s ⟨s.ctrs, s.now, rfl⟩
  intro s t x ⟨c, w, ht⟩
  obtain ⟨c', w', hc⟩ := bump_eq t (lo + x) code times
  exact ⟨c', w', by rw [hc, ht]⟩

@[simp] theorem occ_frame (s : State) (lo n code times : Nat) :
    (occ s lo n code times).pwr = s.pwr ∧ (occ s lo n code times).clk = s.clk ∧
    (occ s lo n code times).boot = s.boot ∧ (occ s lo n code times).sleep = s.sleep ∧
    (occ s lo n code times).dict = s.dict ∧ (occ s lo n code times).latched = s.latched ∧
    (occ s lo n code times).sup = s.sup ∧ (occ s lo n code times).bank0 = s.bank0 ∧
    (occ s lo n code times).bank1 = s.bank1 ∧ (occ s lo n code times).bank2 = s.bank2 ∧
    (occ s lo n code times).bankCur = s.bankCur ∧ (occ s lo n code times).bankPin = s.bankPin ∧
    (occ s lo n code times).reqA = s.reqA ∧ (occ s lo n code times).reqB = s.reqB ∧
    (occ s lo n code times).reqT = s.reqT ∧ (occ s lo n code times).reqE = s.reqE ∧
    (occ s lo n code times).accepted = s.accepted ∧ (occ s lo n code times).recs = s.recs ∧
    (occ s lo n code times).eng = s.eng ∧ (occ s lo n code times).canA = s.canA ∧
    (occ s lo n code times).canB = s.canB ∧ (occ s lo n code times).lastServed = s.lastServed ∧
    (occ s lo n code times).publish = s.publish ∧ (occ s lo n code times).twi = s.twi ∧
    (occ s lo n code times).image = s.image ∧ (occ s lo n code times).pins = s.pins ∧
    (occ s lo n code times).gal = s.gal ∧ (occ s lo n code times).bist = s.bist ∧
    (occ s lo n code times).odp = s.odp ∧ (occ s lo n code times).evq = s.evq ∧ (occ s lo n code times).causes = s.causes ∧
    (occ s lo n code times).fresh = s.fresh ∧ (occ s lo n code times).twin = s.twin ∧ (occ s lo n code times).hostQ = s.hostQ ∧
    (occ s lo n code times).pending = s.pending := by
  obtain ⟨c, w, h⟩ := occ_eq s lo n code times
  simp [h]

/-! The counts of the blocks are counts: simp rewrites each to `occ`, whose frame then applies. -/

@[simp] theorem occConv_occ (s : State) (g code n : Nat) : occConv s g code n = occ s (2 * g) 2 code n := rfl
@[simp] theorem occJudge_occ (s : State) (code : Nat) : occJudge s code = occ s 16 4 code 1 := rfl
@[simp] theorem occPod_occ (s : State) (code : Nat) : occPod s code = occ s 20 4 code 1 := rfl
@[simp] theorem occEng_occ (s : State) (code n : Nat) : occEng s code n = occ s 24 4 code n := rfl
@[simp] theorem occDict_occ (s : State) (code n : Nat) : occDict s code n = occ s 29 1 code n := rfl
@[simp] theorem occTwi_occ (s : State) (code : Nat) : occTwi s code = occ s 34 2 code 1 := rfl
@[simp] theorem occNvm_occ (s : State) (code : Nat) : occNvm s code = occ s 36 2 code 1 := rfl
@[simp] theorem occPins_occ (s : State) (code : Nat) : occPins s code = occ s 38 2 code 1 := rfl
@[simp] theorem occLine_occ (s : State) (code : Nat) : occLine s code = occ s 40 2 code 1 := rfl
@[simp] theorem occPort_a (s : State) (code n : Nat) : occPort s .a code n = occ s 30 2 code n := rfl
@[simp] theorem occPort_b (s : State) (code n : Nat) : occPort s .b code n = occ s 32 2 code n := rfl
@[simp] theorem violation_occ (s : State) : violation s = occ s 28 1 1 1 := rfl

end Sys2Proof.Machine
end

