-- ==== Sys2Proof/Laws/Map.lean ====
section
/-!
SUPPORT. The laws of sparse tables: reading after writing, and the canonical form, for tables and for the NVM.
-/
namespace Sys2Proof.Machine

variable {α : Type}

@[simp] theorem get_nil (d : α) (k : Nat) : get [] d k = d := rfl

theorem get_del_same (m : Map α) (d : α) (k : Nat) : get (del m k) d k = d := by
  induction m with
  | nil => rfl
  | cons e r ih =>
    obtain ⟨i, v⟩ := e
    by_cases h : i = k
    · simpa [del, h] using ih
    · have : del ((i, v) :: r) k = (i, v) :: del r k := by simp [del, h]
      simp [this, get, h, ih]

theorem get_del_other (m : Map α) (d : α) {k j : Nat} (h : j ≠ k) : get (del m k) d j = get m d j := by
  induction m with
  | nil => rfl
  | cons e r ih =>
    obtain ⟨i, v⟩ := e
    by_cases hk : i = k
    · have : del ((i, v) :: r) k = del r k := by simp [del, hk]
      rw [this, ih]
      have : ¬ i = j := by omega
      simp [get, this]
    · have : del ((i, v) :: r) k = (i, v) :: del r k := by simp [del, hk]
      simp [this, get, ih]

theorem get_ins (m : Map α) (d : α) (k : Nat) (v : α) (j : Nat) (hn : ∀ e ∈ m, e.1 ≠ k) :
    get (ins m k v) d j = if j = k then v else get m d j := by
  induction m with
  | nil => by_cases hj : k = j <;> simp [ins, get, hj, eq_comm]
  | cons e r ih =>
    obtain ⟨i, w⟩ := e
    have hi : i ≠ k := hn (i, w) (by simp)
    have ih' := ih fun e he => hn e (by simp [he])
    by_cases hlt : k < i
    · rw [ins, if_pos hlt]
      by_cases hj : j = k
      · subst hj; simp [get]
      · have : ¬ k = j := fun h => hj h.symm
        simp [get, hj, this]
    · rw [ins, if_neg hlt]
      by_cases hij : i = j
      · subst hij; simp [get, hi]
      · simp [get, hij, ih']

theorem del_ne (m : Map α) (k : Nat) : ∀ e ∈ del m k, e.1 ≠ k := by
  intro e he
  have := (List.mem_filter.mp he).2
  simpa using this

variable [DecidableEq α]

/-- A write is read back at its own key. -/
@[simp] theorem get_put_same (m : Map α) (d : α) (k : Nat) (v : α) : get (put m d k v) d k = v := by
  unfold put
  split
  · next h => rw [get_del_same, h]
  · rw [get_ins _ _ _ _ _ (del_ne m k)]; simp

/-- A write leaves every other key alone. -/
theorem get_put_other (m : Map α) (d : α) {k j : Nat} (v : α) (h : j ≠ k) : get (put m d k v) d j = get m d j := by
  unfold put
  split
  · exact get_del_other m d h
  · rw [get_ins _ _ _ _ _ (del_ne m k), if_neg h, get_del_other m d h]

theorem get_put (m : Map α) (d : α) (k j : Nat) (v : α) :
    get (put m d k v) d j = if j = k then v else get m d j := by
  by_cases h : j = k
  · subst h; simp
  · rw [get_put_other m d v h, if_neg h]

/-! ## The canonical form -/

theorem wfFrom_mono {d : α} {m : Map α} {lo lo' : Nat} (h : wfFrom d lo m = true) (hl : lo' ≤ lo) :
    wfFrom d lo' m = true := by
  cases m with
  | nil => rfl
  | cons e r =>
    obtain ⟨i, v⟩ := e
    simp only [wfFrom, Bool.and_eq_true, decide_eq_true_eq] at h ⊢
    exact ⟨⟨by omega, h.1.2⟩, h.2⟩

theorem wfFrom_del {d : α} {m : Map α} {lo : Nat} (k : Nat) (h : wfFrom d lo m = true) :
    wfFrom d lo (del m k) = true := by
  induction m generalizing lo with
  | nil => rfl
  | cons e r ih =>
    obtain ⟨i, v⟩ := e
    simp only [wfFrom, Bool.and_eq_true, decide_eq_true_eq] at h
    by_cases hk : i = k
    · have : del ((i, v) :: r) k = del r k := by simp [del, hk]
      rw [this]
      exact wfFrom_mono (ih h.2) (by omega)
    · have : del ((i, v) :: r) k = (i, v) :: del r k := by simp [del, hk]
      rw [this]
      simp only [wfFrom, Bool.and_eq_true, decide_eq_true_eq]
      exact ⟨h.1, ih h.2⟩

theorem wfFrom_ins {d : α} {m : Map α} {lo k : Nat} {v : α} (h : wfFrom d lo m = true) (hv : v ≠ d)
    (hk : lo ≤ k) (hn : ∀ e ∈ m, e.1 ≠ k) : wfFrom d lo (ins m k v) = true := by
  induction m generalizing lo with
  | nil => simp [ins, wfFrom, hv, hk]
  | cons e r ih =>
    obtain ⟨i, w⟩ := e
    have hi : i ≠ k := hn (i, w) (by simp)
    simp only [wfFrom, Bool.and_eq_true, decide_eq_true_eq] at h
    by_cases hlt : k < i
    · simp only [ins, hlt, if_true, wfFrom, Bool.and_eq_true, decide_eq_true_eq]
      exact ⟨⟨hk, by simpa using hv⟩, ⟨by omega, h.1.2⟩, h.2⟩
    · simp only [ins, hlt, if_false, wfFrom, Bool.and_eq_true, decide_eq_true_eq]
      exact ⟨h.1, ih h.2 (by omega) (fun e he => hn e (by simp [he]))⟩

/-- Every write keeps the canonical form. -/
theorem wf_put {d : α} {m : Map α} (k : Nat) (v : α) (h : wf d m = true) : wf d (put m d k v) = true := by
  unfold put
  split
  · exact wfFrom_del k h
  · next hv => exact wfFrom_ins (wfFrom_del k h) hv (Nat.zero_le k) (del_ne m k)

/-! ## The NVM -/

/-- Reading the NVM after a write of bytes: the bytes written inside the range, the old byte outside it. -/
theorem nvmByte_nvmPut (bs : List Byte) : ∀ (m : Map Byte) (a i : Nat),
    nvmByte (nvmPut m a bs) i = if h : a ≤ i ∧ i < a + bs.length then bs[i - a]'(by omega) else nvmByte m i := by
  induction bs with
  | nil =>
    intro m a i
    have : ¬ (a ≤ i ∧ i < a + ([] : List Byte).length) := by simp
    rw [dif_neg this]
    rfl
  | cons b r ih =>
    intro m a i
    rw [nvmPut, ih]
    by_cases h1 : a + 1 ≤ i ∧ i < a + 1 + r.length
    · have h2 : a ≤ i ∧ i < a + (b :: r).length := by simp; omega
      rw [dif_pos h1, dif_pos h2]
      have : i - a = (i - (a + 1)) + 1 := by omega
      simp [this]
    · rw [dif_neg h1]
      by_cases h3 : i = a
      · subst h3
        have h2 : i ≤ i ∧ i < i + (b :: r).length := by simp
        rw [dif_pos h2]
        simp [nvmByte]
      · have h2 : ¬ (a ≤ i ∧ i < a + (b :: r).length) := by simp; omega
        rw [dif_neg h2]
        simp only [nvmByte]
        exact get_put_other _ _ _ h3

/-- A write of bytes leaves every byte outside its range alone. -/
theorem nvmByte_nvmPut_outside {bs : List Byte} {m : Map Byte} {a i : Nat} (h : i < a ∨ a + bs.length ≤ i) :
    nvmByte (nvmPut m a bs) i = nvmByte m i := by
  rw [nvmByte_nvmPut, dif_neg (by omega)]

/-- A write of bytes keeps the canonical form of the NVM. -/
theorem wf_nvmPut (bs : List Byte) : ∀ (m : Map Byte) (a : Nat), wf 0xFF m = true → wf 0xFF (nvmPut m a bs) = true := by
  induction bs with
  | nil => intro m a h; exact h
  | cons b r ih => intro m a h; exact ih _ _ (wf_put a b h)

end Sys2Proof.Machine
end

