-- ==== Sys2Proof/Laws/Boundary.lean ====
section
/-!
SUPPORT. The frame boundary, said once: what closing a frame leaves alone, and what the later steps do when no set, no
request and no crash waits.
-/
namespace Sys2Proof.Machine

/-! ## Ticks in which the device does nothing by itself -/

/-- A fold whose steps all leave the state leaves it. -/
theorem each_still {α : Type} {l : List α} {s : State} {f : State → α → State} (h : ∀ x ∈ l, f s x = s) :
    each l s f = s := by
  induction l with
  | nil => rfl
  | cons x r ih =>
    have h1 : each (x :: r) s f = each r (f s x) f := rfl
    rw [h1, h x (by simp)]
    exact ih fun y hy => h y (by simp [hy])

/-- At the end of a tick at rest the receiver and the line cycle find nothing. -/
theorem tickWork_rests {s : State} (h : tickRests s) : tickWork s = s := by
  obtain ⟨hs, -, hb, hw, ha, hf, hp, -⟩ := h
  have h1 : receive s = s := by
    have : sampleFlt s = s := by simp [sampleFlt, hb, hw]
    have har : sampleArb s = s := by
      unfold sampleArb
      split
      · next t0 h => simp [arbRuns, h] at ha
      · rfl
    unfold receive
    simp only [this, har]
    split
    · next hc =>
      simp only [Bool.and_eq_true, Bool.not_eq_true', decide_eq_true_eq] at hc
      have := hf hc.1.1 hc.1.2
      omega
    · rfl
  have h2 : passWindows s = s := by
    unfold passWindows
    split
    · next hr =>
      refine each_still fun i hi => ?_
      split
      · next hle =>
        rcases hp hr i (List.mem_range.mp hi) with hj | hj
        · simp [judgeWindow, hj]
        · omega
      · rfl
    · rfl
  simp only [still, Bool.and_eq_true, Bool.or_eq_true, decide_eq_true_eq] at hs
  obtain ⟨⟨⟨⟨⟨he, -⟩, -⟩, -⟩, -⟩, -⟩ := hs
  have h3 : tactShare s = s := by
    unfold tactShare tactDue
    rcases he with he | ⟨⟨⟨-, ht⟩, -⟩, -⟩
    · simp [he]
    · simp [List.isEmpty_iff.mp ht, takeDue]
  have h4 : engineShare s = s := by
    unfold engineShare
    rcases he with he | ⟨⟨⟨he, -⟩, h0⟩, hr⟩
    · simp [he]
    · split
      · rfl
      · rcases he with he | he <;> simp [he, h0, List.isEmpty_iff.mp hr]
  simp [tickWork, h1, h2, h3, h4]

theorem endTick_rests {s : State} (h : tickRests s) : endTick s = s := by
  have ht : s.twin = none := by
    have := h.1
    simp only [still, Bool.and_eq_true] at this
    simpa using this.1.2
  unfold endTick
  split
  · rw [bothCopies_alike s tickWork ht, tickWork_rests h]
    simp [compareCopies, ht]
  · rfl

/-- A tick at rest passes with the time alone, but for counts and routed events. -/
theorem unrouted_passTick_rests {s : State} (h : tickRests s) :
    unrouted (passTick s) = { unrouted s with clk := { s.clk with time := s.clk.time + 1 } } := by
  have hu := unrouted_newTick s (s.clk.time + 1) h.2.1.1
  unfold passTick passTo
  rw [endTick_rests h]
  generalize hn : newTick s (s.clk.time + 1) = u at hu
  have key : ∀ {β : Type} (p : State → β), (∀ s, p (unrouted s) = p s) →
      p u = p { s with clk := { s.clk with time := s.clk.time + 1 } } := fun p hp => of_unrouted p hp hu
  unfold beginTick
  split
  · have h1 : passCycles u = u := by
      have hl : u.sup.line = s.sup.line := key (fun s => s.sup.line) fun _ => rfl
      have ht : u.clk.time = s.clk.time + 1 := key (fun s => s.clk.time) fun _ => rfl
      unfold passCycles
      split
      · rfl
      · next hr =>
        rw [hl] at hr
        have := h.2.2.2.2.2.2.2 hr
        have : lineTick u / 3200 = 0 := by
          unfold lineTick
          rw [hl, ht]
          omega
        rw [this]
        rfl
    have hs := h.1
    simp only [still, Bool.and_eq_true, Bool.or_eq_true, decide_eq_true_eq, Bool.not_eq_true', Option.isNone_iff_eq_none] at hs
    obtain ⟨⟨⟨⟨⟨he, hj⟩, hq⟩, hk⟩, -⟩, -⟩ := hs
    have h2 : u.sup.crash.lockNext = false := (key (fun s => s.sup.crash.lockNext) fun _ => rfl).trans hk
    have h3 : accessTick u = u := by
      unfold accessTick
      split
      · next hc =>
        simp only [Bool.and_eq_true, decide_eq_true_eq] at hc
        replace hc := hc.1
        have ht : u.clk.time = s.clk.time + 1 := key (fun s => s.clk.time) fun _ => rfl
        have h15 : s.clk.time % 512 = 15 := by omega
        have hd : accessDue u = accessDue s := by
          have hm : accessDue u = accessDue { s with clk := { s.clk with time := s.clk.time + 1 } } :=
            key accessDue fun _ => rfl
          rw [hm]
          have : (s.clk.time + 1) / 512 = s.clk.time / 512 := by omega
          simp only [accessDue, frame, frameOf, this]
          rfl
        rw [hd, h.2.1.2 h15] at hc
        exact absurd hc.1 (by simp)
      · rfl
    have h4 : odpWord u = u := by
      have : u.odp.job = none := (key (fun s => s.odp.job) fun _ => rfl).trans hj
      simp [odpWord, this]
    have h6 : hostWord u = u := by
      have : u.hostQ = [] := (key (fun s => s.hostQ) fun _ => rfl).trans (List.isEmpty_iff.mp hq)
      simp [hostWord, this]
    have h5 : countWait u = u := by
      have ht : engTested u = engTested s := key engTested fun _ => rfl
      have hst : u.eng.st = s.eng.st := key (fun s => s.eng.st) fun _ => rfl
      unfold countWait
      rcases he with he | ⟨⟨⟨he, -⟩, -⟩, -⟩
      · simp [ht, he]
      · rcases he with he | he <;> simp [hst, he]
    rw [unrouted_bothCopies]
    simp [tickStart, h1, h2, h3, h4, h5, h6, hu]
  · exact hu

/-- The effect of an instant in the present frame follows, where the ticks before it leave the instant as it is. -/
theorem atInstant_due {s : State} {due : State → Option Nat} {t : Nat} (hd : due s = some t) (hf : t / 512 ≤ frame s)
    (hr : running (advance s t) = true) (hk : due (advance s t) = some t) (f : State → State) :
    atInstant s due f = f (advance s t) := by
  simp [atInstant, hd, hf, hk, hr]

/-- Nothing happens at an instant that is not due, or that lies beyond the present frame. -/
theorem atInstant_none {s : State} {due : State → Option Nat} (hd : due s = none) (f : State → State) :
    atInstant s due f = s := by simp [atInstant, hd]

theorem atInstant_beyond {s : State} {due : State → Option Nat} {t : Nat} (hd : due s = some t) (hf : frame s < t / 512)
    (f : State → State) : atInstant s due f = s := by
  simp [atInstant, hd, Nat.not_le.mpr hf]

/-- Time that has come passes no tick. -/
theorem advance_past (s : State) (t : Nat) (h : t ≤ s.clk.time) : advance s t = s := by
  simp [advance, Nat.sub_eq_zero_of_le h, passUntil]

/-! ## Closing the frame -/

/-- A reading that no part of closing a frame changes within one tick: each field says which update it does not see. -/
structure KeptInTick {β : Type} (p : State → β) : Prop where
  route : ∀ s, p (unrouted s) = p s
  line : ∀ s f, p (modLine s f) = p s
  fill : ∀ s h r, p { s with sup := { s.sup with aqHeld := h, aqRes := r } } = p s
  pev : ∀ s n v, p (setPev s n v) = p s
  banks : ∀ s a b c n, p { s with bank0 := a, bank1 := b, bank2 := c, bankCur := n } = p s
  frames : ∀ s l c, p { s with recs := { s.recs with frames := l, cap := c } } = p s

/-- A reading that closing a frame leaves alone: neither does the time change it, nor a SAMPLE that the tick has read. -/
structure KeptByClosing {β : Type} (p : State → β) : Prop extends KeptInTick p where
  time : ∀ s t, p { s with clk := { s.clk with time := t } } = p s
  sample : ∀ s x, p (wholeSample s x) = p s

variable {β : Type} {p : State → β}

theorem KeptInTick.of (k : KeptInTick p) {s t : State} (h : unrouted s = unrouted t) : p s = p t :=
  of_unrouted p k.route h

theorem KeptByClosing.newTick (k : KeptByClosing p) (s : State) (t : Nat) : p (newTick s t) = p s := by
  have h0 : ∀ (u : State) (w : Now), p { u with clk := { u.clk with time := t }, now := w } = p u := fun u w =>
    (k.of (s := { u with clk := { u.clk with time := t }, now := w })
      (t := { u with clk := { u.clk with time := t } }) rfl).trans (k.time u t)
  have h1 : ∀ u : State, p (closeTick u) = p u := fun u => by
    unfold closeTick
    exact (each_keep p wholeSample k.sample _ _).trans (k.of (by simp))
  unfold Machine.newTick
  exact (h0 _ _).trans ((k.of (unrouted_bothCopies _ _)).trans
    ((k.of (unrouted_settle _)).trans ((h1 _).trans (k.of rfl))))

theorem KeptInTick.occLine (k : KeptInTick p) (s : State) (c : Nat) : p (occLine s c) = p s := k.of (by simp)

theorem KeptInTick.judgeWindow (k : KeptInTick p) (s : State) (i : Nat) : p (judgeWindow s i) = p s := by
  unfold Machine.judgeWindow
  dsimp only
  split
  · rfl
  · split
    · split
      · rw [k.line, k.line]
      · split
        · rw [k.line]
        · rw [k.occLine, k.line, k.line]
    · rw [k.line]

theorem KeptInTick.changeRole (k : KeptInTick p) (s : State) : p (changeRole s) = p s := by
  unfold Machine.changeRole
  dsimp only
  repeat' split
  all_goals first | rfl | rw [k.occLine, k.line]

theorem KeptInTick.endCycle (k : KeptInTick p) (s : State) : p (endCycle s) = p s := by
  simp only [Machine.endCycle]
  rw [k.line, k.changeRole, k.line]
  split
  · exact each_keep p _ (fun s i => k.judgeWindow s i) _ _
  · rfl

theorem KeptInTick.passCycles (k : KeptInTick p) (s : State) : p (passCycles s) = p s := by
  unfold Machine.passCycles
  split
  · rfl
  · exact each_keep p _ (fun s _ => k.endCycle s) _ _

theorem KeptInTick.pevSample (k : KeptInTick p) (s : State) : p (pevSample s) = p s := by
  refine each_keep p _ ?_ _ _
  intro s n
  split
  · rfl
  · dsimp only
    split
    · exact (k.of (unrouted_raise _ _)).trans (k.pev s n _)
    · exact k.pev s n _

theorem KeptInTick.frameRecords (k : KeptInTick p) (s : State) (f : Nat) : p (frameRecords s f) = p s := by
  have hr : ∀ s l, p (record s l) = p s := fun s l => k.of (unrouted_record s l)
  unfold Machine.frameRecords
  dsimp only
  split
  · refine (each_keep p _ ?_ _ _).trans (hr s _)
    intro s i
    split
    · exact hr s _
    · rfl
  · exact hr s _

theorem KeptInTick.takeSnapshot (k : KeptInTick p) (s : State) : p (takeSnapshot s) = p s := by
  unfold Machine.takeSnapshot
  split <;> exact k.banks s _ _ _ _

/-- Tick 0 of the next frame before the snapshot, from the end of tick 511: the dump is captured and the pips have taken
their samples. -/
def sampled (u : State) : State :=
  samplePips (dumpCapture (newTick (bothCopies u closeSup) (inFrame u 512)) (frame u + 1))

/-- The state once the frame that closes has been recorded and the line cycle and the pins have had their sample, before
the first committed set is applied (R51 step 1). -/
def closed (u : State) : State :=
  pevSample (passCycles (closeFrame (frameRecords (takeSnapshot (sampled u)) (frame u)) (frame u)))

theorem KeptInTick.recorded (k : KeptInTick p) (s : State) (f : Nat) :
    p (closeFrame (Machine.frameRecords (Machine.takeSnapshot s) f) f) = p s := by
  simp only [closeFrame]
  refine (k.frames _ _ _).trans ?_
  rw [k.frameRecords, k.takeSnapshot]

/-- Closing a frame leaves every such reading alone that no pip's sample changes. -/
theorem KeptByClosing.closed (k : KeptByClosing p) (hp : ∀ s c f, p (modMargin s c f) = p s) (u : State) :
    p (closed u) = p u := by
  have hs : ∀ s, p (samplePips s) = p s := by
    intro s
    unfold samplePips
    exact each_keep p pipSample (fun s c => by unfold pipSample; exact hp s c _) _ _
  have hd : ∀ s f, p (dumpCapture s f) = p s := fun s f => k.of rfl
  simp only [Machine.closed, Machine.sampled]
  rw [k.pevSample, k.passCycles, k.recorded, hs, hd, k.newTick, k.of (unrouted_bothCopies _ _)]
  simp only [closeSup]
  rw [k.line, k.fill]

/-- With no margin active, no pip takes a sample. -/
theorem samplePips_still {t : State} (h : t.sup.margins = []) : samplePips t = t := by
  unfold samplePips activeMargins
  rw [h]
  rfl

/-- What a read of a SAMPLE can be given when its tick ends: the requesters' shadows, the request in service, a register and
the words to send (R475). -/
theorem wholeSample_eq (s : State) (x : SampleRead) : ∃ a b t e o g w,
    wholeSample s x = { s with reqA := a, reqB := b, reqT := t, reqE := e, odp := o, eng := g, twi := w } := by
  unfold wholeSample
  dsimp only
  split
  · next r _ =>
    split
    · split
      · cases r <;> exact ⟨_, _, _, _, _, _, _, rfl⟩
      · exact ⟨_, _, _, _, _, _, _, rfl⟩
    · exact ⟨_, _, _, _, _, _, _, rfl⟩
  · exact ⟨_, _, _, _, _, _, _, rfl⟩
  · split
    · exact ⟨_, _, _, _, _, _, _, rfl⟩
    · exact ⟨_, _, _, _, _, _, _, rfl⟩
  · exact ⟨_, _, _, _, _, _, _, rfl⟩
  · exact ⟨_, _, _, _, _, _, _, rfl⟩

theorem keepsMargins : KeptByClosing fun s => s.sup.margins :=
  ⟨⟨fun _ => rfl, fun _ _ => rfl, fun _ _ _ => rfl, fun _ _ _ => rfl, fun _ _ _ _ _ => rfl, fun _ _ _ => rfl⟩,
    fun _ _ => rfl, fun s x => by obtain ⟨_, _, _, _, _, _, _, h⟩ := wholeSample_eq s x; rw [h]⟩

theorem closed_margins {u : State} (h : u.sup.margins = []) : (closed u).sup.margins = [] := by
  have h1 : (dumpCapture (newTick (bothCopies u closeSup) (inFrame u 512)) (frame u + 1)).sup.margins = [] := by
    have e1 : ∀ u f, (dumpCapture u f).sup = u.sup := fun _ _ => rfl
    have e2 : (bothCopies u closeSup).sup.margins = u.sup.margins := by
      obtain ⟨v, hv⟩ := bothCopies_eq u closeSup
      rw [hv]; rfl
    rw [e1]
    exact (keepsMargins.newTick _ _).trans (e2.trans h)
  simp only [closed, sampled, samplePips_still h1]
  exact (keepsMargins.pevSample _).trans ((keepsMargins.passCycles _).trans ((keepsMargins.recorded _ _).trans h1))

theorem keepsTime : KeptInTick fun s => s.clk.time :=
  ⟨fun _ => rfl, fun _ _ => rfl, fun _ _ _ => rfl, fun _ _ _ => rfl, fun _ _ _ _ _ => rfl, fun _ _ _ => rfl⟩

theorem closed_time (u : State) : (closed u).clk.time = (frame u + 1) * 512 := by
  have hs : ∀ t, (samplePips t).clk.time = t.clk.time := by
    intro t
    unfold samplePips
    exact each_keep (fun s => s.clk.time) pipSample (fun s c => rfl) _ _
  simp only [closed, sampled]
  rw [keepsTime.pevSample, keepsTime.passCycles, keepsTime.recorded, hs]
  show inFrame u 512 = _
  simp only [inFrame]
  omega

/-! ## The later steps -/

theorem boundary_eq {s : State} {level : Pins} (hr : running (lastTick s level) = true) :
    let u := samplePodreq (lastTick s level)
    ∃ v, boundary s level = { openFrame (requestsAndPods (autoClear (leaveCrash (openCrashWatches (engineStep (commitStep
      (modCrash (closed u) fun k => { k with lockNext := false }))) (frame u + 1)))) (frame u)
      (closed u).sup.crash.lockNext) with twin := v } := by
  intro u
  have hb : boundary s level =
      bothCopies (newTick (bothCopies u closeSup) (inFrame u 512)) fun t => openTick t (frame u) := if_pos hr
  rw [hb]
  exact bothCopies_eq _ _

theorem applySets_none {s : State} {r : Requester} (h : (req s r).sets = []) : applySets s r = s := by
  simp [applySets, h]

/-- With no set waiting, and every set latched, step 2 does nothing. -/
theorem commitStep_still {s : State} (h : ∀ r, (req s r).sets = []) (hl : s.latched = s.dict) : commitStep s = s := by
  have h1 : each requesters s applySets = s := by
    simp only [requesters, each, List.foldl_cons, List.foldl_nil, applySets_none (h _)]
  simp [commitStep, h1, hl]

theorem requestStep_still {s : State} (h : s.accepted = []) (f : Nat) : requestStep s f = s := by
  have h1 : { s with accepted := [] } = s := by rw [← h]
  simp [requestStep, h, inOrder, mirrorCommand, h1]

theorem leaveCrash_still {s : State} (h : s.sup.crash.clearing = false) : leaveCrash s = s := by simp [leaveCrash, h]

theorem autoClear_still {s : State} (h : s.sup.mode ≠ .crash) : autoClear s = s := by
  have : autoClearDue s = false := by simp [autoClearDue, clearRefusal, h]
  simp [autoClear, this]

theorem engineStep_still {s : State} (hw : s.eng.st ≠ .waitf) (hs : startDue s = false) : engineStep s = s := by
  simp [engineStep, hw, startEngine, hs]

theorem openCrashWatches_still {s : State} (h : ∀ c, (dis s c).opening = false) (a : Nat) : openCrashWatches s a = s :=
  each_still fun c _ => by simp [h c]

/-- What the engine's boundary step leaves alone. -/
theorem engineStep_keeps (s : State) : (engineStep s).sup = s.sup ∧ (engineStep s).accepted = s.accepted := by
  have hs : ∀ t : State, (startEngine t).sup = t.sup ∧ (startEngine t).accepted = t.accepted := by
    intro t
    unfold startEngine
    repeat' split
    all_goals exact ⟨rfl, rfl⟩
  unfold engineStep
  dsimp only
  split <;> split <;> simp [hs]

/-- What a SAMPLE's end of tick leaves of a requester: everything but its shadow. -/
theorem req_modReq_shadow (s : State) (r q : Requester) (h : Option Shadow) :
    (req (modReq s q fun x => { x with shadow := h }) r).sets = (req s r).sets := by
  cases r <;> cases q <;> rfl

theorem sets_wholeSample (s : State) (x : SampleRead) (r : Requester) :
    (req (wholeSample s x) r).sets = (req s r).sets := by
  have h : ∀ (t : State) (o : Odp) (g : Eng) (w : Twi),
      (req { t with odp := o, eng := g, twi := w } r).sets = (req t r).sets := fun _ _ _ _ => by cases r <;> rfl
  unfold wholeSample
  dsimp only
  split
  · split
    · split
      · exact req_modReq_shadow s r _ _
      · rfl
    · rfl
  · exact h s _ s.eng s.twi
  · split
    · exact h s s.odp _ s.twi
    · rfl
  · exact h s s.odp _ s.twi
  · exact h s s.odp s.eng _

/-- Closing a frame leaves the committed sets. -/
theorem keepsSets (r : Requester) : KeptByClosing fun s => (req s r).sets :=
  { route := fun _ => by cases r <;> rfl
    line := fun _ _ => by cases r <;> rfl
    fill := fun _ _ _ => by cases r <;> rfl
    pev := fun _ _ _ => by cases r <;> rfl
    banks := fun _ _ _ _ _ => by cases r <;> rfl
    frames := fun _ _ _ => by cases r <;> rfl
    time := fun _ _ => by cases r <;> rfl
    sample := fun s x => sets_wholeSample s x r }

/-- What awaits a boundary, apart from the committed sets. -/
def awaiting (s : State) : Map Nat × Map Nat × List Request × Crash × Map Dis :=
  (s.latched, s.dict, s.accepted, s.sup.crash, s.sup.dis)

theorem keepsAwaiting : KeptByClosing awaiting :=
  ⟨⟨fun _ => rfl, fun _ _ => rfl, fun _ _ _ => rfl, fun _ _ _ => rfl, fun _ _ _ _ _ => rfl, fun _ _ _ => rfl⟩,
    fun _ _ => rfl, fun s x => by obtain ⟨_, _, _, _, _, _, _, h⟩ := wholeSample_eq s x; rw [h]; rfl⟩

theorem clearLockNext_still {s : State} (h : s.sup.crash.lockNext = false) :
    (modCrash s fun k => { k with lockNext := false }) = s := by
  simp only [modCrash]
  rw [← h]

theorem autoClear_accepted (s : State) : (autoClear s).accepted = s.accepted := by
  simp only [autoClear, beginClearing]
  repeat' split
  all_goals rfl

/-- The steps of a boundary at which nothing waits, up to the new frame. -/
theorem openTick_still {c : State} (hq : ∀ r, (req c r).sets = []) (hl : c.latched = c.dict) (ha : c.accepted = [])
    (hk : c.sup.crash.lockNext = false) (hc : c.sup.crash.clearing = false) (ho : ∀ n, (dis c n).opening = false) (f g : Nat) :
    requestsAndPods (autoClear (leaveCrash (openCrashWatches (engineStep (commitStep
      (modCrash c fun k => { k with lockNext := false }))) g))) f false = evalNow (autoClear (engineStep c)) false := by
  obtain ⟨h1, h2⟩ := engineStep_keeps c
  simp only [requestsAndPods, Bool.false_eq_true, if_false]
  rw [clearLockNext_still hk, commitStep_still hq hl, openCrashWatches_still, leaveCrash_still, requestStep_still]
  · rw [autoClear_accepted, h2, ha]
  · rw [h1, hc]
  · intro n
    unfold dis
    rw [h1]
    exact ho n

/-- A boundary before which nothing waits: the frame closes, the pins' lines take their samples, the engine may start or
resume, a crash may clear by itself, and the new frame opens. -/
theorem boundary_still {s : State} {level : Pins} (hr : running (lastTick s level) = true)
    (h : nothingAwaits (lastTick s level)) :
    ∃ v, boundary s level =
      { openFrame (evalNow (autoClear (engineStep (closed (samplePodreq (lastTick s level))))) false) with twin := v } := by
  obtain ⟨v, hb⟩ := boundary_eq hr
  have hw := keepsAwaiting.closed (fun _ _ _ => rfl) (samplePodreq (lastTick s level))
  have hs := fun r => (keepsSets r).closed (fun _ _ _ => by cases r <;> rfl) (samplePodreq (lastTick s level))
  refine ⟨v, ?_⟩
  rw [hb]
  generalize closed (samplePodreq (lastTick s level)) = c at hw hs
  obtain ⟨-, -, -, ha, hq, hl, hk, hc, ho⟩ := h
  simp only [awaiting, Prod.mk.injEq] at hw
  obtain ⟨e1, e2, e3, e4, e5⟩ := hw
  have hk' : c.sup.crash.lockNext = false := by rw [e4]; exact hk
  rw [hk', openTick_still (fun r => (hs r).trans ((by cases r <;> rfl : _ = (req (lastTick s level) r).sets).trans (hq r)))
    (by rw [e1, e2]; exact hl) (e3.trans ha) hk' (by rw [e4]; exact hc) (fun n => by unfold dis; rw [e5]; exact ho n)]

/-! ## Step 5 where nothing is on its way -/

theorem mem_insertDeep {s : State} {p x : Nat} {l : List Nat} (h : x ∈ insertDeep s p l) : x = p ∨ x ∈ l := by
  induction l with
  | nil => simpa [insertDeep] using h
  | cons y r ih =>
    simp only [insertDeep] at h
    split at h
    · simpa using h
    · rcases List.mem_cons.mp h with h | h
      · exact Or.inr (by simp [h])
      · rcases ih h with h | h
        · exact Or.inl h
        · exact Or.inr (by simp [h])

theorem mem_deepFirst {s : State} {x : Nat} {l : List Nat} (h : x ∈ deepFirst s l) : x ∈ l := by
  have : ∀ (l a : List Nat), x ∈ l.foldl (fun a p => insertDeep s p a) a → x ∈ a ∨ x ∈ l := by
    intro l
    induction l with
    | nil => intro a h; exact Or.inl h
    | cons y r ih =>
      intro a h
      rcases ih _ h with h | h
      · rcases mem_insertDeep h with h | h
        · exact Or.inr (by simp [h])
        · exact Or.inl h
      · exact Or.inr (by simp [h])
  rcases this l [] h with h | h
  · cases h
  · exact h

theorem mem_podsInUse {s : State} {p : Nat} (h : p ∈ podsInUse s) : (pod s p).inUse = true := by
  simp only [podsInUse, List.mem_filter] at h
  exact h.2

/-- No pod in use is on its way and no rail waits to be dealt with: the pods' part of `calm`. -/
def podsRest (s : State) : Prop :=
  (∀ c, (chan s c).chatFail = none ∧ (chan s c).descFault = false) ∧
  ∀ p, (pod s p).inUse = true → (pod s p).st ≠ .rising ∧ (pod s p).st ≠ .falling ∧ (pod s p).failPend = false ∧
    (pod s p).held = false ∧ (pod s p).queueWait = false ∧ ∀ k, (ent s p k).wantsQ = false

theorem podsRest_of_calm {s : State} (h : calm s) : podsRest s := h.2.2

/-- `podsRest` sees the channels and the pods alone. -/
theorem podsRest_of_sup {s t : State} (h : podsRest s) (hc : t.sup.chans = s.sup.chans) (hp : t.sup.pods = s.sup.pods) :
    podsRest t := by
  simpa only [podsRest, chan, pod, ent, hc, hp] using h

/-- No good report and no chatter failure of a channel counts any longer. -/
def spendChan (s : State) (c : Nat) : State := modChan s c fun ch => { ch with good := none, chatFail := none }

/-- No release of a pod counts any longer. -/
def spendPod (s : State) (p : Nat) : State :=
  modPod s p fun q => { q with relHost := false, relEng := false, relLine := false }

/-- What step 5 leaves of a resting pod unit. -/
def spent (s : State) : State :=
  let t := each (listedChans s) s spendChan
  each (podsInUse t) t spendPod

theorem pod_modPod (s : State) (p j : Nat) (f : Pod → Pod) :
    pod (modPod s p f) j = if j = p then f (pod s p) else pod s j := get_put _ _ _ _ _

/-- `spent` leaves every reading of a pod but the three releases. -/
theorem pod_spent {β : Type} (s : State) (j : Nat) (g : Pod → β)
    (hg : ∀ q : Pod, g { q with relHost := false, relEng := false, relLine := false } = g q) :
    g (pod (spent s) j) = g (pod s j) := by
  unfold spent
  refine (each_keep (fun s => g (pod s j)) spendPod ?_ _ _).trans
    (each_keep (fun s => g (pod s j)) spendChan (fun s c => rfl) _ _)
  intro s p
  show g (pod (spendPod s p) j) = _
  unfold spendPod
  rw [pod_modPod]
  split
  · next h => rw [h, hg]
  · rfl

/-- A resting pod unit does nothing at step 5 (R146). -/
theorem evalPods_rest {s : State} (h : podsRest s) : evalPods s = spent s := by
  obtain ⟨hc, hp⟩ := h
  have h1 : each (listedChans s) s releaseFaulted = s := each_still fun c _ => by simp [releaseFaulted, (hc c).2]
  have h2 : serveWaiting s = s := by
    unfold serveWaiting
    refine each_still fun p hm => each_still fun k _ => ?_
    have := (hp p (mem_podsInUse (mem_deepFirst hm))).2.2.2.2.2 k
    simp [this]
  have h3 : ∀ ons, (deepFirst s (podsInUse s)).foldl (evalPod ons) s = s := fun ons =>
    each_still (f := evalPod ons) fun p hm => by
      have := hp p (mem_podsInUse (mem_deepFirst hm))
      unfold evalPod
      dsimp only
      split
      · next hs => exact absurd hs this.1
      · next hs => exact absurd hs this.2.1
      · rfl
  have h4 : each (listedChans s) s recordChatter = s := each_still fun c _ => by simp [recordChatter, (hc c).1]
  have h5 : ∀ ons, handleFailures ons 100 s = s := fun ons => by
    have hf : waitingFailures s = [] := by
      rw [waitingFailures, List.filter_eq_nil_iff]
      intro p hm
      simp [(hp p (mem_podsInUse (mem_deepFirst hm))).2.2.1]
    simp [handleFailures, nextFailure, hf]
  have hu : podsInUse (spent s) = podsInUse s := by
    unfold podsInUse
    refine List.filter_congr fun p _ => ?_
    exact pod_spent s p (fun q => q.inUse) fun _ => rfl
  have hw : (podsInUse (spent s)).any (fun p => (pod (spent s) p).queueWait) = false := by
    rw [hu, List.any_eq_false]
    intro p hm
    rw [pod_spent s p (fun q => q.queueWait) fun _ => rfl, (hp p (mem_podsInUse hm)).2.2.2.2.1]
    simp
  have hh : (podsInUse (spent s)).any (fun p => (pod (spent s) p).held) = false := by
    rw [hu, List.any_eq_false]
    intro p hm
    rw [pod_spent s p (fun q => q.held) fun _ => rfl, (hp p (mem_podsInUse hm)).2.2.2.1]
    simp
  have he : evalPods s =
      (let u := if (podsInUse (spent s)).any fun p => (pod (spent s) p).queueWait then occPod (spent s) 2 else spent s
       if (podsInUse u).any fun p => (pod u p).held then occPod u 5 else u) := by
    unfold evalPods
    simp only [h1, h2, h3, h4, h5]
    rfl
  rw [he, hw]
  simp [hh]

/-- `spent` leaves every reading that sees neither channels nor pods. -/
theorem spent_keeps {β : Type} {p : State → β} (hc : ∀ s c f, p (modChan s c f) = p s)
    (hp : ∀ s q f, p (modPod s q f) = p s) (s : State) : p (spent s) = p s :=
  (each_keep p spendPod (fun s q => hp s q _) _ _).trans (each_keep p spendChan (fun s c => hc s c _) _ _)

/-- Everything that a summary candidate can change (R274, R276, R471). -/
theorem candidate_eq (s : State) (kind cause source f d0 d1 : Nat) :
    ∃ r c q w, candidate s kind cause source f d0 d1 = { s with recs := r, ctrs := c, evq := q, now := w } := by
  have hn : ∀ (t : State) (g : Rec → Rec) (code : Nat), ∃ r c q w,
      noteReport (occNvm (modRec t g) code) f = { t with recs := r, ctrs := c, evq := q, now := w } := by
    intro t g code
    obtain ⟨c, w, h⟩ := occ_eq (modRec t g) 36 2 code 1
    unfold occNvm
    rw [h]
    unfold noteReport
    split
    · exact ⟨_, c, t.evq, w, rfl⟩
    · exact ⟨_, c, _, w, rfl⟩
  unfold candidate
  split
  · exact ⟨s.recs, s.ctrs, s.evq, s.now, rfl⟩
  · dsimp only
    split
    · exact hn _ _ _
    · split
      · exact ⟨_, s.ctrs, s.evq, s.now, rfl⟩
      · exact hn _ _ _

/-- Everything that the limit check of one channel can change (R204, R205). -/
theorem disBoundary_eq (s : State) (c b : Nat) :
    ∃ d p r k q w, disBoundary s c b =
      { s with sup := { s.sup with dis := d, pods := p }, recs := r, ctrs := k, evq := q, now := w } := by
  unfold disBoundary
  split
  · split
    · unfold disFault
      dsimp only
      split
      all_goals
        rename_i w _ hp
        obtain ⟨r, k, q, w, h⟩ := candidate_eq _ _ _ _ _ _ _
        rw [h]
        exact ⟨_, _, r, k, q, w, rfl⟩
    · exact ⟨_, _, _, _, _, _, rfl⟩
  · exact ⟨_, _, _, _, _, _, rfl⟩

theorem withoutCauses {s : State} (h : s.causes = []) : { s with causes := [] } = s := by
  cases s
  simpa using h.symm

theorem evalMargins_still {s : State} (h : s.sup.margins = []) : evalMargins s = s := by
  unfold evalMargins activeMargins
  rw [h]
  rfl

/-- Step 5 of a device on which nothing is on its way: the discharge limits alone (R204). -/
theorem evalStep_rest {s : State} (h : podsRest s) (hm : s.sup.margins = []) (hc : s.causes = []) :
    evalStep s false = each channels (spent s) fun s c => disBoundary s c (frame s) := by
  have k1 : ∀ t : State, (each channels t fun s c => disBoundary s c (frame s)).causes = t.causes := fun t =>
    each_keep (fun s => s.causes) _ (fun s c => by obtain ⟨_, _, _, _, _, _, h⟩ := disBoundary_eq s c (frame s); rw [h]) _ _
  have k2 : ∀ t : State, (each channels t fun s c => disBoundary s c (frame s)).sup.margins = t.sup.margins := fun t =>
    each_keep (fun s => s.sup.margins) _
      (fun s c => by obtain ⟨_, _, _, _, _, _, h⟩ := disBoundary_eq s c (frame s); rw [h]) _ _
  have e1 : (each channels (spent s) fun s c => disBoundary s c (frame s)).causes = [] := by
    rw [k1, spent_keeps (p := fun s => s.causes) (fun _ _ _ => rfl) (fun _ _ _ => rfl), hc]
  have e2 : (each channels (spent s) fun s c => disBoundary s c (frame s)).sup.margins = [] := by
    rw [k2, spent_keeps (p := fun s => s.sup.margins) (fun _ _ _ => rfl) (fun _ _ _ => rfl), hm]
  have e3 : podCauses (each channels (spent s) fun s c => disBoundary s c (frame s)) false = [] := by
    unfold podCauses
    rw [e1]
    rfl
  have e4 : ∀ u : State, crash u [] = u := fun _ => rfl
  simp only [evalStep, evalPods_rest h, Bool.false_eq_true, if_false, withoutCauses e1, e3, e4, evalMargins_still e2]

end Sys2Proof.Machine
end

