-- ==== Sys2Proof/Laws/Engine.lean ====
section
/-!
SUPPORT. The engine's shared operations, said once: what an instruction answers when the engine can execute, what it
leaves when it completes, and what a trap leaves.
-/
namespace Sys2Proof.Machine

/-- The state in which an instruction runs: the engine with no ticks of another one left, in a tick that has run one. -/
def idle (s : State) : State := { modEng s fun e => { e with busy := 0, read := none } with now := { s.now with ran := true } }

@[simp] theorem idle_eng (s : State) :
    (idle s).eng.st = s.eng.st ∧ (idle s).eng.w = s.eng.w ∧ (idle s).eng.pc = s.eng.pc ∧ (idle s).eng.z = s.eng.z ∧
    (idle s).eng.n = s.eng.n ∧ (idle s).eng.c = s.eng.c ∧ (idle s).eng.v = s.eng.v ∧
    (idle s).eng.stack = s.eng.stack ∧ (idle s).eng.fra = s.eng.fra ∧ (idle s).eng.fsd = s.eng.fsd ∧
    (idle s).eng.field = s.eng.field ∧ (idle s).eng.fieldStart = s.eng.fieldStart ∧
    (idle s).eng.inHandler = s.eng.inHandler ∧ (idle s).eng.epc = s.eng.epc ∧ (idle s).eng.ez = s.eng.ez ∧
    (idle s).eng.en = s.eng.en ∧ (idle s).eng.ec = s.eng.ec ∧ (idle s).eng.ev = s.eng.ev ∧
    (idle s).eng.efield = s.eng.efield ∧ (idle s).eng.ie = s.eng.ie ∧ (idle s).eng.evnum = s.eng.evnum ∧
    (idle s).eng.pend = s.eng.pend ∧ (idle s).eng.prog = s.eng.prog ∧ (idle s).eng.data = s.eng.data ∧
    (idle s).eng.intLen = s.eng.intLen ∧ (idle s).eng.initData = s.eng.initData ∧
    (idle s).eng.trapInfo = s.eng.trapInfo ∧ (idle s).eng.trapPc = s.eng.trapPc ∧
    (idle s).eng.tactStat = s.eng.tactStat ∧ (idle s).eng.tactDisc = s.eng.tactDisc ∧
    (idle s).eng.tacts = s.eng.tacts ∧ (idle s).eng.startReq = s.eng.startReq ∧ (idle s).eng.stall = s.eng.stall ∧
    (idle s).eng.skid = s.eng.skid ∧ (idle s).eng.tactWait = s.eng.tactWait ∧
    (idle s).eng.rows = s.eng.rows ∧ (idle s).eng.rowWait = s.eng.rowWait := by
  simp [idle]

@[simp] theorem idle_frame (s : State) :
    (idle s).pwr = s.pwr ∧ (idle s).clk = s.clk ∧ (idle s).boot = s.boot ∧ (idle s).sleep = s.sleep ∧
    (idle s).dict = s.dict ∧ (idle s).latched = s.latched ∧ (idle s).sup = s.sup ∧ (idle s).bank0 = s.bank0 ∧
    (idle s).bank1 = s.bank1 ∧ (idle s).bank2 = s.bank2 ∧ (idle s).bankCur = s.bankCur ∧
    (idle s).bankPin = s.bankPin ∧ (idle s).reqA = s.reqA ∧ (idle s).reqB = s.reqB ∧ (idle s).reqT = s.reqT ∧
    (idle s).reqE = s.reqE ∧ (idle s).accepted = s.accepted ∧ (idle s).recs = s.recs ∧ (idle s).canA = s.canA ∧
    (idle s).canB = s.canB ∧ (idle s).lastServed = s.lastServed ∧ (idle s).publish = s.publish ∧
    (idle s).twi = s.twi ∧ (idle s).image = s.image ∧ (idle s).pins = s.pins ∧ (idle s).ctrs = s.ctrs ∧
    (idle s).gal = s.gal ∧ (idle s).bist = s.bist ∧ (idle s).evq = s.evq ∧ (idle s).odp = s.odp ∧
    (idle s).causes = s.causes ∧ (idle s).fresh = s.fresh ∧ (idle s).twin = s.twin ∧ (idle s).hostQ = s.hostQ ∧
    (idle s).pending = s.pending := by
  simp [idle]

@[simp] theorem reg_idle (s : State) (n : Fin 16) : reg (idle s).eng n = reg s.eng n := rfl
@[simp] theorem dataOk_idle (s : State) (a : Nat) : dataOk (idle s).eng a = dataOk s.eng a := rfl
@[simp] theorem dataWord_idle (s : State) (a : Nat) : dataWord (idle s).eng a = dataWord s.eng a := rfl
@[simp] theorem inRegion_idle (s : State) (a : PAddr) : inRegion (idle s).eng a = inRegion s.eng a := rfl
@[simp] theorem nextPc_idle (s : State) : nextPc (idle s).eng = s.eng.pc + 1 := rfl
@[simp] theorem retFloor_idle (s : State) : retFloor (idle s).eng = retFloor s.eng := rfl
@[simp] theorem condHolds_idle (s : State) (c : Cond) : condHolds (idle s).eng c = condHolds s.eng c := by
  cases c <;> rfl

theorem dataAddr_eq (b o : Word) : dataAddr b o = (b.toNat + o.toNat) % 65536 := by simp [dataAddr]

theorem unrouted_modEng (s : State) (f : Eng → Eng) :
    unrouted (modEng s f) = { unrouted s with eng := { f s.eng with pend := 0 } } := rfl

/-- An instruction that the engine can execute runs its operation. -/
theorem instrEffect_of_canExecute {s : State} (h : canExecute s) (op : State → State) : instrEffect s op = op (idle s) := by
  obtain ⟨h1, -, h2, h3, h4⟩ := h
  simp [instrEffect, recogniseDue, skidStep, h1, h2, h3, h4, idle]

/-- An instruction that completes changes the engine alone, but for counts (R318). -/
theorem unrouted_goto (s : State) (a : PAddr) (f : Eng → Eng) :
    unrouted (goto s a f) = { unrouted s with eng := { f s.eng with pc := a, pend := 0 } } := by
  simp [goto, unrouted_modEng]

/-- What the command of an instruction does that the engine can execute. -/
theorem instr_of_canExecute {s : State} (h : canExecute s) (i : Instr) (op : State → State) :
    (if s.eng.rows = [] then instrEffect s op else if executing s then queueRow s (.instr i) else s) = op (idle s) := by
  rw [if_pos h.2.1, instrEffect_of_canExecute h op]

/-- What an instruction answers whose operation leaves a known unrouted part. -/
theorem instr_next {s : State} (h : canExecute s) (i : Instr) (op : State → State) (u : State)
    (hu : unrouted (op (idle s)) = unrouted u) (hp : u.pending = s.pending) :
    ∃ t, instr s i op = .next t ∧ unrouted t = unrouted u :=
  done_next s u _ (by rw [instr_of_canExecute h i op, hu]) hp

/-- An instruction that completes in sequence answers its engine's change alone. -/
theorem instr_seq {s : State} (h : canExecute s) (i : Instr) (f g : Eng → Eng)
    (hf : f { s.eng with busy := 0, read := none } = g { s.eng with busy := 0, read := none }) :
    ∃ t, instr s i (fun s => next s f) = .next t ∧ unrouted t = unrouted (engineAt s (s.eng.pc + 1) g) := by
  refine instr_next h i _ _ ?_ rfl
  rw [next, unrouted_goto]
  simp only [idle, modEng_eng, hf]
  rfl

/-- HALTED: the timed actions are discarded and a start that waited is withdrawn (R326, R334). -/
theorem unrouted_haltEngine (s : State) : unrouted (haltEngine s) = { unrouted s with eng := { s.eng with
    st := .halted, busy := 0, stall := 0, skid := none, read := none, rows := [], rowWait := 0, startReq := false, pend := 0, tactWait := false
    tacts := [], tactDisc := s.eng.tactDisc + s.eng.tacts.length } } := rfl

@[simp] theorem eng_goto (s : State) (a : PAddr) (f : Eng → Eng) : (goto s a f).eng = { f s.eng with pc := a } := by
  simp [goto]

/-- A trap raises event 50 and marks nothing before the end of its command (R331). -/
theorem mem_evq_trap (s : State) (cause : Nat) : 50 ∈ (trap s cause).evq := by
  unfold trap
  dsimp only
  split <;> simp [discardFieldTacts, stopEngine, discardTacts]

/-- A trap with no field call in progress: the engine is TRAPPED with the cause and the PC (R326, R331). -/
theorem unrouted_trap_halt (s : State) (cause : Nat) (h : inFieldCall s.eng = false) :
    unrouted (trap s cause) = unrouted { s with eng := { s.eng with
      st := .trapped, busy := 0, stall := 0, skid := none, read := none, rows := [], rowWait := 0, trapInfo := flg s.eng.field 15 + trapCause s.eng cause
      trapPc := s.eng.pc, tactWait := false, tacts := [], tactDisc := s.eng.tactDisc + s.eng.tacts.length } } := by
  obtain ⟨c, w, hc⟩ := occ_eq (raise s 50) 24 4 9 1
  simp only [trap, occEng, hc]
  cases hk : s.eng.skid <;> simp [h, stopEngine, discardTacts, unrouted, modEng, idleEngine, keepEvent, hk]

/-- A trap in a field call ends the call with C set and the cause in W0 (R322, R326). -/
theorem unrouted_trap_field (s : State) (cause : Nat) (h : inFieldCall s.eng = true) :
    unrouted (trap s cause) = unrouted (modEng (discardFieldTacts s) fun e =>
      { setReg e 0 (BitVec.ofNat 16 (trapCause s.eng cause)) with
        stack := cutStack s.eng.stack s.eng.fsd, c := true, field := false, pc := s.eng.fra, busy := 0, stall := 0
        skid := none, read := none, trapInfo := flg s.eng.field 15 + trapCause s.eng cause, trapPc := s.eng.pc }) := by
  obtain ⟨c, w, hc⟩ := occ_eq (raise s 50) 24 4 9 1
  simp only [trap, occEng, hc]
  cases hk : s.eng.skid <;> simp [h, discardFieldTacts, unrouted, modEng, setReg, idleEngine, keepEvent, hk, frame]

/-- An instruction that traps answers the trap's effect, and event 50. -/
theorem instr_trap {s : State} (h : canExecute s) (i : Instr) (op : State → State) (cause : Nat)
    (hop : op (idle s) = trap (idle s) cause) (u : State) (hu : unrouted (trap (idle s) cause) = unrouted u)
    (hp : u.pending = s.pending) : ∃ t, instr s i op = .next t ∧ shows t 50 ∧ unrouted t = unrouted u := by
  obtain ⟨t, ht, hv⟩ := instr_next h i op u (by rw [hop, hu]) hp
  refine ⟨t, ht, ?_, hv⟩
  refine (done_shows ht 50).mpr (Or.inr ?_)
  rw [instr_of_canExecute h i op, hop]
  exact mem_evq_trap _ _

/-- An instruction that traps with no field call in progress. -/
theorem instr_trap_halt {s : State} (h : canExecute s) (hf : inFieldCall s.eng = false)
    (i : Instr) (op : State → State) (cause : Nat)
    (hop : op (idle s) = trap (idle s) cause) :
    ∃ t, instr s i op = .next t ∧ shows t 50 ∧ unrouted t = unrouted { s with eng := { s.eng with
      st := .trapped, busy := 0, stall := 0, skid := none, read := none, rows := [], rowWait := 0
      trapInfo := flg s.eng.field 15 + trapCause s.eng cause, trapPc := s.eng.pc, tactWait := false
      tacts := [], tactDisc := s.eng.tactDisc + s.eng.tacts.length } } :=
  instr_trap h i op cause hop _ (unrouted_trap_halt _ cause hf) rfl

/-- An instruction that traps in a field call. -/
theorem instr_trap_field {s : State} (h : canExecute s) (hf : inFieldCall s.eng = true)
    (i : Instr) (op : State → State) (cause : Nat)
    (hop : op (idle s) = trap (idle s) cause) :
    ∃ t, instr s i op = .next t ∧ shows t 50 ∧
      unrouted t = unrouted (modEng (discardFieldTacts s) fun e => { setReg e 0 (BitVec.ofNat 16 (trapCause s.eng cause)) with
        stack := cutStack s.eng.stack s.eng.fsd, c := true, field := false, pc := s.eng.fra, busy := 0, stall := 0
        skid := none, read := none, trapInfo := flg s.eng.field 15 + trapCause s.eng cause, trapPc := s.eng.pc }) :=
  instr_trap h i op cause hop _ (unrouted_trap_field _ cause hf) rfl

end Sys2Proof.Machine
end

