-- ==== Sys2Proof/Laws/EngineWords.lean ====
section
/-!
SUPPORT. The fields of the words that wordRR, wordRI and wordJ build (R317).
-/
namespace Sys2Proof.Machine

theorem toNat_wordRR (op : Nat) (d a b : Fin 16) (h : op < 64) :
    (wordRR op d a b).toNat = op * 2 ^ 26 + d.val * 2 ^ 22 + a.val * 2 ^ 18 + b.val * 2 ^ 14 := by
  simp only [wordRR, BitVec.toNat_ofNat]
  have := d.isLt; have := a.isLt; have := b.isLt
  omega

theorem toNat_wordRI (op : Nat) (d a : Fin 16) (v : Word) (h : op < 64) :
    (wordRI op d a v).toNat = op * 2 ^ 26 + d.val * 2 ^ 22 + a.val * 2 ^ 18 + v.toNat := by
  simp only [wordRI, BitVec.toNat_ofNat]
  have := d.isLt; have := a.isLt; have := v.isLt
  omega

theorem toNat_wordJ (op c : Nat) (t : PAddr) (h : op < 64) (hc : c < 16) :
    (wordJ op c t).toNat = op * 2 ^ 26 + c * 2 ^ 22 + t.toNat := by
  simp only [wordJ, BitVec.toNat_ofNat]
  have := t.isLt
  omega

/-- Form RR: every field reads back, and no reserved bit is set. -/
theorem wordRR_fields (op : Nat) (d a b : Fin 16) (h : op < 64) :
    opField (wordRR op d a b) = op ∧ rdField (wordRR op d a b) = d ∧ raField (wordRR op d a b) = a ∧
    rbField (wordRR op d a b) = b ∧ rrOk (wordRR op d a b) = true := by
  have := d.isLt; have := a.isLt; have := b.isLt
  have ht := toNat_wordRR op d a b h
  refine ⟨?_, ?_, ?_, ?_, ?_⟩
  · simp only [opField, ht]; omega
  · simp only [rdField, ht]; apply Fin.ext; simp only [Fin.ofNat]; omega
  · simp only [raField, ht]; apply Fin.ext; simp only [Fin.ofNat]; omega
  · simp only [rbField, ht]; apply Fin.ext; simp only [Fin.ofNat]; omega
  · simp only [rrOk, ht, decide_eq_true_eq]; omega

/-- Form RI: every field reads back, and no reserved bit is set. -/
theorem wordRI_fields (op : Nat) (d a : Fin 16) (v : Word) (h : op < 64) :
    opField (wordRI op d a v) = op ∧ rdField (wordRI op d a v) = d ∧ raField (wordRI op d a v) = a ∧
    imm16 (wordRI op d a v) = v ∧ riOk (wordRI op d a v) = true := by
  have := d.isLt; have := a.isLt; have := v.isLt
  have ht := toNat_wordRI op d a v h
  refine ⟨?_, ?_, ?_, ?_, ?_⟩
  · simp only [opField, ht]; omega
  · simp only [rdField, ht]; apply Fin.ext; simp only [Fin.ofNat]; omega
  · simp only [raField, ht]; apply Fin.ext; simp only [Fin.ofNat]; omega
  · apply BitVec.eq_of_toNat_eq; simp only [imm16, ht, BitVec.toNat_ofNat]; omega
  · simp only [riOk, ht, decide_eq_true_eq]; omega

/-- Form J: every field reads back, and no reserved bit is set. -/
theorem wordJ_fields (op c : Nat) (t : PAddr) (h : op < 64) (hc : c < 16) :
    opField (wordJ op c t) = op ∧ (rdField (wordJ op c t)).val = c ∧ target13 (wordJ op c t) = t ∧
    jOk (wordJ op c t) = true := by
  have := t.isLt
  have ht := toNat_wordJ op c t h hc
  refine ⟨?_, ?_, ?_, ?_⟩
  · simp only [opField, ht]; omega
  · simp only [rdField, ht, Fin.ofNat]; omega
  · apply BitVec.eq_of_toNat_eq; simp only [target13, ht, BitVec.toNat_ofNat]; omega
  · simp only [jOk, ht, decide_eq_true_eq]; omega

end Sys2Proof.Machine
end

