-- ==== Sys2Proof/Laws/Store.lean ====
section
/-!
SUPPORT. The store's ports, said once: what an access does that finds the port free (R80), and what a write that passes its
checks does (R15, R77, R87, R345).
-/
namespace Sys2Proof.Machine

@[simp] theorem mayAccess_count (s : State) (r : Requester) (c : Map Ctr) (w : Now) :
    mayAccess { s with ctrs := c, now := w } r = mayAccess s r := rfl

/-- What the service of a word leaves. -/
theorem served_eq (s : State) (r : Requester) : ∃ c w, served s r = { s with ctrs := c, now := w } := by
  obtain ⟨c, w, hc⟩ := occ_eq s 29 1 3 1
  unfold served
  simp only [occDict, hc]
  split
  · exact ⟨c, _, rfl⟩
  · exact ⟨c, _, rfl⟩

@[simp] theorem unrouted_served (s : State) (r : Requester) : unrouted (served s r) = unrouted s := by
  obtain ⟨c, w, h⟩ := served_eq s r
  rw [h]; rfl

/-- An access whose last word the port serves has its effect in that tick (R80). -/
theorem portWord_last {s : State} {a : Access} (hm : mayAccess s a.req = true) (hw : a.words ≤ 1) :
    portWord s a = (accessEffect (served s a.req) a, []) := by
  simp [portWord, hm, Nat.not_lt.mpr hw]

/-- An access whose last word is not served yet leaves a count and the words that remain (R80). -/
theorem portWord_more {s : State} {a : Access} (hm : mayAccess s a.req = true) (hw : 1 < a.words) :
    portWord s a = (served s a.req, [{ a with words := a.words - 1 }]) := by
  simp [portWord, hm, hw]

/-- A host's access of one word that finds the port free has its effect at once. -/
theorem hostAccess_turn {s : State} {a : Access} (hm : mayAccess s a.req = true) (hr : isHost a.req = true)
    (ht : turn s a.req = true) (hw : a.words ≤ 1) : hostAccess s a = accessEffect (served s a.req) a := by
  simp only [turn, hr, if_true, Bool.and_eq_true, List.isEmpty_iff] at ht
  obtain ⟨hp, hq⟩ := ht
  have hf := hp
  simp only [portReady, portFree, Bool.and_eq_true, Bool.not_eq_true'] at hf
  have hs : ({ s with hostQ := [] } : State) = s := by cases s; cases hq; rfl
  have hp' : portReady { s with hostQ := [] ++ [a] } = true := hp
  simp only [hostAccess, hq, hf.1.1.2, hf.1.2, Bool.or_self, Bool.false_eq_true, if_false, if_true, hostWord, hp']
  simp only [List.nil_append, hs]
  rw [portWord_last hm hw]
  rfl

/-- An access of the engine of one word that finds the port free has its effect at once. -/
theorem engAccess_turn {s : State} {a : Access} (hm : mayAccess s a.req = true) (hr : isHost a.req = false)
    (ht : turn s a.req = true) (hw : a.words ≤ 1) : engAccess s a = accessEffect (served s a.req) a := by
  simp only [turn, hr, Bool.false_eq_true, if_false, Bool.and_eq_true, List.isEmpty_iff] at ht
  simp only [engAccess, ht.1, ht.2, and_self, if_true, portWord_last hm hw]
  simp [modEng]

/-- An access of one word that finds the port free has its effect at once. -/
theorem access_turn {s : State} {r : Requester} {n : Nat} {op : StoreOp} (hm : mayAccess s r = true)
    (ht : turn s r = true) (hn : r = .twi ∨ n ≤ 1) :
    access s r n op = accessEffect (served s r) { req := r, op := op, words := if r = .twi then 1 else n } := by
  have hw : (if r = .twi then 1 else n) ≤ 1 := by
    obtain h | h := hn
    · simp [h]
    · split <;> omega
  simp only [access, hm, if_true]
  cases hr : isHost r
  · exact engAccess_turn (a := ⟨r, op, _⟩) hm hr ht hw
  · exact hostAccess_turn (a := ⟨r, op, _⟩) hm hr ht hw

/-- The words that a field counts, where the write of it is allowed (R362, R378). -/
theorem widthNow_allowed {s : State} {r : Requester} {fp : Bool} {idx sub : Nat} {o : Obj} {f : Field}
    (ho : objOf idx = some o) (hf : fieldOf idx sub = some f) (h : writeAllowed s r fp o f sub = true) :
    widthNow s idx sub = f.words := by
  simp only [writeAllowed, Bool.and_eq_true] at h
  obtain ⟨⟨⟨⟨-, h⟩, -⟩, -⟩, -⟩ := h
  have hn : (inHoldNow s && !holdReaches s.boot.cause o) = false := by
    revert h; cases inHoldNow s <;> cases holdReaches s.boot.cause o <;> simp
  simp [widthNow, ho, hn, widthOf, hf]

/-- A field whose write the store admits exists, and the write is allowed and in its range. -/
theorem admits_field {s : State} {r : Requester} {idx sub v : Nat} (h : admits s r idx sub v = true) :
    ∃ o f, objOf idx = some o ∧ fieldOf idx sub = some f ∧
      writeAllowed s r (!isHost r && s.eng.field) o f sub = true ∧ inRange false o sub v = true ∧ v < 65536 ^ f.words := by
  unfold admits at h
  split at h
  · next o f ho hf =>
    simp only [Bool.and_eq_true, decide_eq_true_eq] at h
    exact ⟨o, f, ho, hf, h.2.1.1, h.2.1.2, h.2.2⟩
  · simp at h

/-- A write that passes its checks, in the tick of its last word. -/
theorem writeField_admits {s : State} {r : Requester} {idx sub v : Nat} (h : admits s r idx sub v = true) {o : Obj}
    {f : Field} (ho : objOf idx = some o) (hf : fieldOf idx sub = some f) :
    writeField s r (!isHost r && s.eng.field) idx sub v = writeEffect (afterWrite s r) r (heldKey s r) o f idx sub v := by
  obtain ⟨o', f', ho', hf', hw, hr, -⟩ := admits_field h
  rw [ho] at ho'; rw [hf] at hf'
  cases ho'; cases hf'
  simp only [writeField, ho, hf, hr, Bool.and_true]
  cases r <;> exact if_pos hw

/-- A write as a command of its own, where it passes its checks. -/
theorem present_canWrite {s : State} {r : Requester} {idx sub v : Nat} (h : canWrite s r idx sub v = true) {o : Obj}
    {f : Field} (ho : objOf idx = some o) (hf : fieldOf idx sub = some f) :
    present s r idx sub v = writeEffect (afterWrite (served s r) r) r (heldKey (served s r) r) o f idx sub v := by
  simp only [canWrite, Bool.and_eq_true, decide_eq_true_eq, oneWord] at h
  obtain ⟨⟨⟨ht, h1⟩, hn⟩, ha⟩ := h
  have hw : widthOf idx sub = f.words := by simp [widthOf, hf]
  obtain ⟨c, w, hs⟩ := served_eq s r
  have hm : mayAccess s r = true := by
    have := ha
    simp only [admits, Bool.and_eq_true, hs, mayAccess_count] at this
    exact this.1
  obtain ⟨o', f', ho', hf', -, -, hv⟩ := admits_field ha
  rw [hf] at hf'
  cases hf'
  simp only [present]
  rw [access_turn hm ht (h1.imp id (fun h => by omega)), hn, hw, Nat.mod_eq_of_lt hv]
  exact writeField_admits ha ho hf

/-- What a command answers that is a write whose effect leaves a known unrouted part. -/
theorem write_next {s : State} {r : Requester} {idx sub v : Nat} (h : canWrite s r idx sub v = true) {o : Obj}
    {f : Field} (ho : objOf idx = some o) (hf : fieldOf idx sub = some f) (u : State)
    (hu : unrouted (writeEffect (afterWrite (served s r) r) r (heldKey (served s r) r) o f idx sub v) = unrouted u) :
    ∃ t, done s (fun s => present s r idx sub v) = .next t ∧ unrouted t = { unrouted u with pending := s.pending } :=
  ⟨_, rfl, by rw [unrouted_done rfl, present_canWrite h ho hf, hu]⟩

end Sys2Proof.Machine
end

