-- ==== Sys2Proof/WellFormed.lean ====
section
/-!
DEFINITION. Which operands a command can carry: the ranges that the manual gives the things they name.
-/
namespace Sys2Proof

/-- What the monitors can measure (R355, R356, R286). -/
def Measured.wf (m : Measured) : Bool :=
  decide (m.vaux < 65536) && decide (m.v33 < 65536) && decide (m.v09 < 65536) && decide (m.tj < 65536) &&
  decide (m.vhold < 256)

/-- A failing cell as MEM_FAIL can show it (R496). -/
def MemCell.wf (c : MemCell) : Bool := decide (1 ≤ c.ram ∧ c.ram ≤ 9) && decide (c.addr < 2 ^ 18) && decide (c.bit < 64)

def BistRun.wf (r : BistRun) : Bool := decide (r.misr < 2 ^ 32) && decide (r.patterns ≤ 1048576)

/-- A channel below 96, a DIS output below 16 (R202), a block's number and what changes in one of its registers. -/
def SupPart.wf : SupPart → Bool
  | .enable c | .margin c => decide (c < 96)
  | .dis n => decide (n < 16)
  | .safeN | .flt => true
  | .register _ i _ v => decide (i < 2 ^ 24) && decide (0 < v ∧ v < 2 ^ 32)

/-- A field's address and a value of at most eight words (R377, R379). -/
def fieldWf (idx sub val : Nat) : Bool := decide (idx < 65536) && decide (sub < 256) && decide (val < 2 ^ 128)

/-- The operands lie in the ranges of the things they name: a channel below 96, a pod below 48, a converter below 8,
a slot below 16, a pin below 48, an event below 64, a counter below 42, a word below 65 536. -/
def Instr.wf : Instr → Bool
  | .memoryBist (some c) => c.wf
  | .logicBist p r c _ => decide (p ≤ 5) && r.wf && c.wf
  | .bootStepOverrun n => decide (1 ≤ n ∧ n ≤ 6)
  | .conversion k raws _ => decide (k < 16) && decide (raws.length = 8) && raws.all (fun v => decide (v < 65536))
  | .judgeSample k => decide (k < 16)
  | .lockstepMismatch l => !l.isEmpty && l.all SupPart.wf
  | .trigEdge g _ => decide (g < 8)
  | .urgentReq _ g v => decide (g < 8) && decide (v < 65536)
  | .dictionaryWrite _ i j v => fieldWf i j v
  | .word0ShadowRead _ i j => fieldWf i j 0
  | .riseRequest _ p | .fallRequest _ p | .landingRelease _ p | .landingTimeout p | .retryCooldownExpiry p
  | .descentLimitExpiry p => decide (p < 48)
  | .podreqEdge k _ => decide (k < 16)
  | .riseDeadlineExpiry p k => decide (p < 48) && decide (k < 32)
  | .disLimitExpiry c | .marginRelease _ c | .pipBaselineEnd c | .pipCaptureEnd c => decide (c < 96)
  | .marginTarget _ c v | .pipReq _ c v => decide (c < 96) && decide (v < 65536)
  | .fltPulseEnd n => decide (1 ≤ n)
  | .partnerLost i => decide (i < 15)
  | .viewSelect _ _ v => decide (v < 65536)
  | .imageKeyWrite _ v => decide (v < 2 ^ 128)
  | .wakeTwoWire a => decide (a < 128)
  | .twiAddress a _ => decide (a < 128)
  | .wakePinEvent n _ | .pinEventEdge n _ | .pinEventDebounced n | .evoPulseEnd n | .venBankChange n _ =>
    decide (n < 8)
  | .supplyMeasure m => m.wf
  | .supplyWarning w | .supplyWarningClear w => decide (w < 13)
  | .imageChunk _ bs => decide (bs.length ≤ 56)
  | .twiImageChunk bs => decide (bs.length = 56)
  | .canRequestReceived _ node bs => decide (node < 128) && decide (bs.length ≤ 64)
  | .publishAssemble m => decide (m < 16)
  | .canErrorStateChange _ es tec rxe => decide (es ≤ 2) && decide (tec < 256) && decide (rxe < 256)
  | .pinOutWrite _ n v => decide (n < 48) && decide (v < 65536)
  | .eventClear _ m => decide (m < 2 ^ 64)
  | .counterClearOvf _ k | .counterZero _ k | .counterOverflow k => decide (k < 42)
  | .testNow _ v => decide (v < 65536)
  | .bistRunEnd r => r.wf
  | .crystalMonitorGate n => decide (n < 65536)
  | _ => true

end Sys2Proof
end

