-- ==== Sys2Proof/Tests/Slice0.lean ====
section
/-!
SUPPORT. Tests of this model: an ill-formed command for each check of WellFormed, a state that meets the hypotheses of
each clause of the statements, and small facts that the manual gives.
-/
namespace Sys2Proof.Tests

open Sys2Proof.Machine

/-! ## Small states -/

/-- A running device in a mode whose BOOT is done, right after reset otherwise. -/
def inMode (m : Mode) : State := { State.reset with
  sup := { Sup.reset with mode := m }
  recs := { State.reset.recs with scanned := true }
  boot := { State.reset.boot with
    crystalDone := true, memDone := true, logicDone := 63, ringDone := true, imageDone := true, refFrames := 0 } }

def stby : State := inMode .standby
def svc : State := inMode .service

/-- The state at a device time. -/
def at' (t : Nat) (s : State) : State := { s with clk := { s.clk with time := t } }

/-- A configuration that is active and latched: fields as (index, subindex, value). -/
def withCfg (l : List (Nat × Nat × Nat)) (s : State) : State :=
  let d := l.foldl (fun m e => put m (defaultOf (keyOf e.1 e.2.1)) (keyOf e.1 e.2.1) e.2.2) s.dict
  { s with dict := d, latched := d }

def withLine (f : Line → Line) (s : State) : State := modLine s f
def withEng (f : Eng → Eng) (s : State) : State := modEng s f
def withRec (f : Rec → Rec) (s : State) : State := modRec s f
def withReq (r : Requester) (f : ReqState → ReqState) (s : State) : State := modReq s r f

/-- A device whose engine runs with integrator privilege. -/
def eng : State := withEng (fun e => { e with st := .running }) stby
/-- The same with field privilege, in a field call. -/
def engF : State := withEng (fun e => { e with pc := 0x1000, field := true, fra := 5 }) eng
/-- The engine started at 0x1000 (R322). -/
def engStart : State := withEng (fun e => { e with fieldStart := true }) engF

def armedKey (r : Requester) (s : State) : State := withReq r (fun q => { q with key := .armed 0 }) s

/-! ## WellFormed refuses -/

def noRun : BistRun := { patterns := 1048576, misr := 2 ^ 32 }

theorem illformed_boot :
    (Instr.memoryBist (some { ram := 0, addr := 0, bit := 0 })).wf = false ∧
    (Instr.memoryBist (some { ram := 10, addr := 0, bit := 0 })).wf = false ∧
    (Instr.memoryBist (some { ram := 1, addr := 2 ^ 18, bit := 0 })).wf = false ∧
    (Instr.memoryBist (some { ram := 1, addr := 0, bit := 64 })).wf = false ∧
    (Instr.logicBist 6 { noRun with misr := 0 } { noRun with misr := 0 } []).wf = false ∧
    (Instr.logicBist 0 noRun { noRun with misr := 0 } []).wf = false ∧ (Instr.logicBist 0 { noRun with misr := 0 } noRun []).wf = false ∧
    (Instr.bistRunEnd { patterns := 1048577, misr := 0 }).wf = false ∧ (Instr.lockstepMismatch []).wf = false ∧
    (Instr.lockstepMismatch [.enable 96]).wf = false ∧ (Instr.lockstepMismatch [.dis 16]).wf = false ∧
    (Instr.bootStepOverrun 0).wf = false ∧ (Instr.bootStepOverrun 7).wf = false ∧
    (Instr.bistRunEnd noRun).wf = false ∧ (Instr.crystalMonitorGate 65536).wf = false ∧
    (Instr.testNow .cana 65536).wf = false := by decide

theorem illformed_converters :
    (Instr.conversion 16 (List.replicate 8 0) 0).wf = false ∧ (Instr.conversion 0 (List.replicate 7 0) 0).wf = false ∧
    (Instr.conversion 0 (List.replicate 8 65536) 0).wf = false ∧ (Instr.judgeSample 16).wf = false ∧
    (Instr.trigEdge 8 true).wf = false ∧ (Instr.urgentReq .cana 8 0).wf = false ∧
    (Instr.urgentReq .cana 0 65536).wf = false := by decide

theorem illformed_store :
    (Instr.dictionaryWrite .cana 65536 0 0).wf = false ∧ (Instr.dictionaryWrite .cana 0 256 0).wf = false ∧
    (Instr.dictionaryWrite .cana 0 0 (2 ^ 128)).wf = false ∧ (Instr.word0ShadowRead .cana 65536 0).wf = false ∧
    (Instr.viewSelect .cana .kernel 65536).wf = false ∧ (Instr.imageKeyWrite .cana (2 ^ 128)).wf = false ∧
    (Instr.imageChunk .cana (List.replicate 57 0)).wf = false ∧ (Instr.eventClear .cana (2 ^ 64)).wf = false ∧
    (Instr.counterClearOvf .cana 42).wf = false ∧ (Instr.counterZero .cana 42).wf = false ∧
    (Instr.pinOutWrite .cana 48 0).wf = false ∧ (Instr.pinOutWrite .cana 0 65536).wf = false := by decide

theorem illformed_pods :
    (Instr.riseRequest .cana 48).wf = false ∧ (Instr.fallRequest .cana 48).wf = false ∧
    (Instr.landingRelease .cana 48).wf = false ∧ (Instr.landingTimeout 48).wf = false ∧
    (Instr.retryCooldownExpiry 48).wf = false ∧ (Instr.descentLimitExpiry 48).wf = false ∧
    (Instr.podreqEdge 16 true).wf = false ∧ (Instr.riseDeadlineExpiry 48 0).wf = false ∧
    (Instr.riseDeadlineExpiry 0 32).wf = false ∧ (Instr.disLimitExpiry 96).wf = false ∧
    (Instr.marginRelease .cana 96).wf = false ∧ (Instr.pipBaselineEnd 96).wf = false ∧
    (Instr.pipCaptureEnd 96).wf = false ∧ (Instr.marginTarget .cana 96 0).wf = false ∧
    (Instr.marginTarget .cana 0 65536).wf = false ∧ (Instr.pipReq .cana 96 0).wf = false ∧
    (Instr.pipReq .cana 0 65536).wf = false := by decide

theorem illformed_bus :
    (Instr.fltPulseEnd 0).wf = false ∧ (Instr.partnerLost 15).wf = false ∧ (Instr.wakeTwoWire 128).wf = false ∧
    (Instr.twiAddress 128 true).wf = false ∧ (Instr.twiImageChunk []).wf = false ∧
    (Instr.canRequestReceived .a 128 []).wf = false ∧ (Instr.canRequestReceived .a 0 (List.replicate 65 0)).wf = false ∧
    (Instr.publishAssemble 16).wf = false ∧ (Instr.canErrorStateChange .a 3 0 0).wf = false ∧
    (Instr.canErrorStateChange .a 0 256 0).wf = false ∧ (Instr.canErrorStateChange .a 0 0 256).wf = false := by decide

theorem illformed_pins :
    (Instr.wakePinEvent 8 true).wf = false ∧ (Instr.pinEventEdge 8 true).wf = false ∧
    (Instr.pinEventDebounced 8).wf = false ∧ (Instr.evoPulseEnd 8).wf = false ∧ (Instr.venBankChange 8 true).wf = false ∧
    (Instr.counterOverflow 42).wf = false ∧ (Instr.supplyWarning 13).wf = false ∧
    (Instr.supplyWarningClear 13).wf = false ∧
    (Instr.supplyMeasure { vaux := 65536, v33 := 0, v09 := 0, tj := 0, vhold := 0 }).wf = false ∧
    (Instr.supplyMeasure { vaux := 0, v33 := 0, v09 := 0, tj := 0, vhold := 256 }).wf = false := by decide

/-! ## States that meet the hypotheses: the block and the engine -/

theorem wit_front : { stby with pending := [.nop, .ei] }.pending = .nop :: [.ei] := rfl

theorem wit_completes :
    State.reset.pending = [] ∧ running { State.reset with pwr := { State.reset.pwr with held := true } } = false ∧
    (at' 511 stby).clk.time % 512 = 511 ∧ running (at' 510 stby) = true ∧ (at' 510 stby).clk.time % 512 ≠ 511 := by decide

theorem wit_rests : tickRests (at' 510 stby) := by unfold tickRests accessRests lineRests; decide

theorem wit_quiet : quiet State.reset := ⟨rfl, rfl, rfl⟩

theorem wit_quiet_step : quiet { stby with pending := [.nop] } ∧ ∃ t, step { stby with pending := [.nop] } = .next t :=
  ⟨⟨rfl, rfl, rfl⟩, _, rfl⟩

theorem wit_kept : nvmKept stby ∧ queueKept stby ∧ ∃ t, step stby = .next t := by
  refine ⟨⟨rfl, by decide, by decide, by decide, by decide, by decide, nofun, nofun, nofun⟩,
    ⟨by decide, .cons (by simp) .nil, .nil, .nil, fun p => ?_⟩, _, rfl⟩
  by_cases h : p = 0
  · subst h; exact .nil
  · have : pod stby p = Pod.reset := by simp [pod, stby, inMode, Sup.reset, Machine.get, Ne.symm h]
    rw [this]; exact .nil

theorem wit_words : engineWord (.add 1 2 3) = some 0x1048C000#32 ∧ instrOf 0x1048C000#32 ≠ .illegal := by decide

theorem canExecute_eng : canExecute eng := by unfold canExecute; decide
theorem canExecute_engF : canExecute engF := by unfold canExecute; decide

/-- Both ends of both data regions. -/
theorem wit_data :
    (eng.eng.field = false ∧ ((reg eng.eng 0).toNat + (0x1FF : Word).toNat) % 65536 = 0x1FF) ∧
    (engF.eng.field = true ∧ ((reg engF.eng 0).toNat + (0x200 : Word).toNat) % 65536 = 0x200) ∧
    (engF.eng.field = true ∧ ((reg engF.eng 0).toNat + (0x3FF : Word).toNat) % 65536 = 0x3FF) := by decide

theorem canExecute_engStart : canExecute engStart := by unfold canExecute; decide

/-- R331: the first address above the integrator's data, a descriptor whose last word lies there, and no handler. -/
theorem wit_traps :
    eng.eng.field = false ∧ 0x200 ≤ ((reg eng.eng 0).toNat + (0x200 : Word).toNat) % 65536 ∧
    0x200 ≤ ((reg (setReg eng.eng 1 0x1FD) 1).toNat + 3) % 65536 ∧ eng.eng.inHandler = false := by decide

/-- R322: the addresses beside the field's data, and a return stack at depth FSD. -/
theorem wit_field_traps :
    engF.eng.field = true ∧ engF.eng.fieldStart = false ∧
    ¬ (0x200 ≤ ((reg engF.eng 0).toNat + (0x1FF : Word).toNat) % 65536 ∧
      ((reg engF.eng 0).toNat + (0x1FF : Word).toNat) % 65536 < 0x400) ∧
    ¬ (0x200 ≤ ((reg engF.eng 0).toNat + (0x400 : Word).toNat) % 65536 ∧
      ((reg engF.eng 0).toNat + (0x400 : Word).toNat) % 65536 < 0x400) ∧
    engF.eng.stack.length ≤ engF.eng.fsd := by decide

/-- R316, R318: a branch not taken, targets at both ends of the regions, 15 return addresses, a return, a jump. -/
theorem wit_branches :
    eng.eng.z = false ∧ (0x1000 ≤ (0xFFF : PAddr).toNat ↔ eng.eng.field = true) ∧
    (0x1000 ≤ (0x1000 : PAddr).toNat ↔ engF.eng.field = true) ∧
    ({ eng.eng with stack := List.replicate 15 0 }).stack.length < 16 ∧
    ({ eng.eng with stack := [7] }).stack = 7 :: [] ∧ ({ engF.eng with stack := [0x1FFF] }).stack = 0x1FFF :: [] ∧
    engF.eng.fsd ≤ ([] : List PAddr).length ∧ (reg (setReg engF.eng 1 0x1FFF) 1).toNat < 0x2000 := by decide

/-- R331: a PC and targets outside the region, a full and an empty return stack. -/
theorem wit_address_traps :
    (let s := withEng (fun e => { e with pc := 0x1000 }) eng
     executing s = true ∧ s.eng.rows = [] ∧ s.eng.skid = none ∧ irqDue s = false ∧ s.eng.field = false ∧ 0x1000 ≤ s.eng.pc.toNat) ∧
    executing eng = true ∧ eng.eng.rows = [] ∧ eng.eng.skid = none ∧ irqDue eng = false ∧ eng.eng.pc.toNat < 0x1000 ∧
    0x1000 ≤ (0x1000 : PAddr).toNat ∧ 0x1000 ≤ (reg (setReg eng.eng 1 0x1000) 1).toNat ∧
    16 ≤ ({ eng.eng with stack := List.replicate 16 0 }).stack.length ∧ eng.eng.stack = [] := by decide

/-- R322: what traps in field code that was started at 0x1000: addresses beside its data and its region, a full return
stack and an empty one. -/
theorem wit_field_start :
    engStart.eng.field = true ∧ engStart.eng.fieldStart = true ∧
    ¬ (0x200 ≤ ((reg engStart.eng 0).toNat + (0x1FF : Word).toNat) % 65536 ∧
      ((reg engStart.eng 0).toNat + (0x1FF : Word).toNat) % 65536 < 0x400) ∧
    ¬ (0x200 ≤ ((reg engStart.eng 0).toNat + (0x400 : Word).toNat) % 65536 ∧
      ((reg engStart.eng 0).toNat + (0x400 : Word).toNat) % 65536 < 0x400) ∧
    (0xFFF : PAddr).toNat < 0x1000 ∧ (reg engStart.eng 1).toNat < 0x1000 ∧
    0x2000 ≤ (reg (setReg engStart.eng 1 0x2000) 1).toNat ∧
    16 ≤ ({ engStart.eng with stack := List.replicate 16 0x1000 }).stack.length ∧ engStart.eng.stack = [] := by decide

theorem wit_handler : (withEng (fun e => { e with inHandler := true }) eng).eng.inHandler = true := by decide

/-- R327: events 5 and 9 pending. -/
def pendingEng : State := withEng (fun e => { e with ie := true, pend := 0x220, st := .waite }) eng

theorem wit_interrupt :
    running pendingEng = true ∧ engTested pendingEng = false ∧ pendingEng.eng.ie = true ∧
    pendingEng.eng.rows = [] ∧ pendingEng.eng.inHandler = false ∧ pendingEng.eng.skid = none ∧ pendingEng.eng.pend.testBit 5 = true ∧
    (∀ m, m < 5 → pendingEng.eng.pend.testBit m = false) ∧
    (let s := withEng (fun e => { e with st := .running }) pendingEng
     s.eng.st = .running ∧ inRegion s.eng s.eng.pc = true ∧ s.now.pended = 0) := by decide

theorem wit_interrupt_quiet : quiet pendingEng := ⟨rfl, rfl, rfl⟩

/-- An interrupt recognised with one and with three instructions left. -/
theorem wit_skid :
    (let s := withEng (fun e => { e with skid := some 3, evnum := 5 }) eng
     running s = true ∧ engTested s = false ∧ s.eng.rows = [] ∧ s.eng.st = .running ∧ s.eng.skid = some 3 ∧
     inRegion s.eng s.eng.pc = true ∧ 2 ≤ 3) ∧
    quiet (withEng (fun e => { e with skid := some 1 }) eng) := ⟨by decide, rfl, rfl, rfl⟩

/-- A NOP, and a DRD in each of its ticks. -/
def running' (w : InstrWord) (busy : Nat) : State := withEng (fun e => { e with prog := [(0, w)], busy := busy }) eng

theorem wit_ticks :
    (∀ e ∈ [((0x04000000 : InstrWord), 0), (0x70841303, 0), (0x70841303, 2), (0x74000000, 1), (0x04000000, 1)],
      let s := running' e.1 e.2
      s.pending = [] ∧ executing s = true ∧ s.clk.time % 512 ≠ 511 ∧ s.eng.rows = [] ∧ s.eng.stall = 0 ∧ irqDue s = false ∧
      tactDue s = false ∧ s.odp.job = none ∧ s.hostQ = [] ∧ s.sup.crash.lockNext = false ∧ s.twin = none ∧
      s.now.fired = false ∧ s.now.engPort = false ∧ s.now.hostPort = false ∧ s.eng.skid = none ∧
      inRegion s.eng s.eng.pc = true) ∧
    ticksOf (running' 0x04000000 0).eng (current (running' 0x04000000 0)) = 1 ∧
    storeAccess (current (running' 0x04000000 1)) = false ∧ (running' 0x70841303 2).eng.busy = 2 ∧
    (let s := { running' 0x70841303 0 with now := { Now.reset with hostPort := true } }
     storeAccess (current s) = true ∧ s.now.hostPort = true ∧
     ticksOf s.eng (current s) + (if storeAccess (current s) ∧ s.now.hostPort = true then 1 else 0) = 3) := by decide

/-- A DRD of a channel register in its last tick, and a DWR that stages a threshold in its own. -/
theorem wit_access_ends :
    (let s := withEng (fun e => { e with read := some 7 }) (running' 0x70841303 1)
     current s = .drd 2 1 0x1303 ∧ s.eng.busy = 1 ∧ s.eng.read = some 7 ∧ objOf 0x1303 = some (.podLive 3)) ∧
    (let s := withEng (fun e => { e with w := [(1, 0x0600), (2, 5)] }) (running' 0x74841000 1)
     current s = .dwr 2 1 0x1000 ∧ s.eng.busy = 1 ∧ (fieldOf 0x1000 6).map (fun f => (f.acc, f.words)) = some (.rws, 1) ∧
     (reg s.eng 1).toNat = 0x0600 ∧ (reg s.eng 2).toNat = 5 ∧ admits s .eng 0x1000 6 5 = true ∧
     s.reqE.overflow = false ∧ s.reqE.staged = []) := by decide

theorem wit_ticks_rest : ∀ e ∈ [((0x04000000 : InstrWord), 0), (0x70841303, 0), (0x70841303, 2)],
    accessRests (running' e.1 e.2) ∧ lineRests (running' e.1 e.2) := by unfold accessRests lineRests; decide

theorem wit_no_other_event : canExecute eng ∧ quiet eng ∧ eng.now.hostPort = false ∧ eng.now.fired = false ∧
    ∃ t, exec .sigA eng = .next t :=
  ⟨canExecute_eng, ⟨rfl, rfl, rfl⟩, rfl, rfl, _, rfl⟩

/-! ## The store -/

/-- R59, R60: a first write, a second write of the field, and a write to a buffer of 128. -/
theorem wit_staged :
    canWrite svc .cana 0x1000 6 5 = true ∧ (fieldOf 0x1000 6).map (·.acc) = some .rws ∧
    (req (served svc .cana) .cana).staged.length < 128 ∧
    (let s := withReq .cana (fun q => { q with staged := [(1, 0), (0x100006, 4)] }) svc
     canWrite s .cana 0x1000 6 5 = true ∧
     (req (served s .cana) .cana).staged = [(1, 0)] ++ (0x1000 * 256 + 6, 4) :: []) := by decide

theorem wit_staged_full :
    let l : List (Nat × Nat) := List.replicate 128 (1, 0)
    let s := withReq .cana (fun q => { q with staged := l }) svc
    canWrite s .cana 0x1000 6 5 = true ∧ (req (served s .cana) .cana).staged = l ∧ 128 ≤ l.length ∧
    ∀ e ∈ l, e.1 ≠ 0x1000 * 256 + 6 :=
  ⟨by decide, rfl, by simp, fun e he => by simp [(List.mem_replicate.mp he).2]⟩

theorem wit_staged_publish :
    canWrite svc .cana 0x1C10 1 0x8301 = true ∧ (fieldOf 0x1C10 1).map (·.acc) = some .rws ∧
    objOf 0x1C10 = some (.publish 0) := by decide

theorem wit_commit :
    canWrite stby .cana 0x0200 4 1 = true ∧ canWrite stby .cana 0x0200 4 2 = true ∧
    (req (served stby .cana) .cana).overflow = false ∧
    (let s := withReq .cana (fun q => { q with overflow := true, staged := [(0x100006, 4)] }) stby
     let w := served s .cana
     (req w .cana).overflow = true ∧ (req w .cana).staged ≠ [] ∧ canWrite s .cana 0x0200 4 1 = true ∧
     canWrite s .cana 0x0200 4 2 = true) := by decide

theorem wit_refused :
    (let w := served stby .cana
     mayAccess stby .cana = true ∧ turn stby .cana = true ∧ widthNow stby 0x0100 1 = 1 ∧ admits w .cana 0x0100 1 0 = false) ∧
    (fieldOf 0x0100 1).map (·.acc) = some .ro ∧ mayAccess eng .eng = true ∧ admits engF .eng 0x1300 1 1 = false ∧
    admits (withCfg [(0x1800, 1, 0x0203)] engF) .eng 0x132F 1 1 = true ∧
    admits (withCfg [(0x1800, 1, 0x0403)] engF) .eng 0x1507 2 13 = true ∧
    admits (withCfg [(0x1800, 1, 0x0803)] engF) .eng 0x145F 10 31 = true ∧
    admits (withCfg [(0x1980, 2, 2)] engF) .eng 0x1929 3 2 = true := by decide

theorem wit_requests :
    canWrite stby .cana (0x1300 + 47) 1 1 = true ∧ canWrite stby .cana (0x1300 + 47) 1 2 = true ∧
    canWrite stby .eng (0x1300 + 0) 1 3 = false ∧ canWrite eng .eng (0x1300 + 0) 1 3 = true ∧
    canWrite stby .canb (0x1400 + 95) 8 9 = true ∧ canWrite stby .twi (0x1400 + 0) 9 1 = true ∧
    canWrite stby .cana (0x1400 + 95) 10 31 = true ∧ canWrite stby .cana 0x0200 2 1 = true ∧
    canWrite stby .cana 0x0200 2 2 = true ∧ canWrite (armedKey .cana stby) .cana 0x0200 2 3 = true ∧
    armed (served (armedKey .cana (at' 2097151 stby)) .cana) .cana = true ∧ canWrite svc .cana 0x0200 2 4 = true ∧
    canWrite stby .cana 0x0200 2 5 = true ∧ canWrite (armedKey .cana stby) .cana 0x0200 2 6 = true := by decide

theorem wit_keys :
    (canWrite stby .twi 0x0200 3 0xA5 = true ∧
     (let u := passTick (modReq (afterWrite (served stby .twi) .twi) .twi fun q => { q with key := .half })
      stby.clk.time % 512 ≠ 511 ∧ canWrite u .twi 0x0200 3 0x5A = true ∧ (req (served u .twi) .twi).key = .half) ∧
     canWrite (at' 511 stby) .twi 0x0200 3 0xA5 = true ∧ (at' 511 stby).clk.time % 512 = 511 ∧ isHost .twi = true) ∧
    (let s := armedKey .cana (at' 2097152 stby)
     running s = true ∧ (req s .cana).key = .armed 0 ∧ 0 / 512 + 4096 ≤ s.clk.time / 512 ∧ armed s .cana = false) ∧
    (let s := withReq .cana (fun q => { q with key := .armed 100 }) (at' 2097160 stby)
     let u := advance s (100 + 4096 * 512)
     100 / 512 + 4096 ≤ s.clk.time / 512 ∧ running u = true ∧ (req u .cana).key = .armed 100) ∧
    armed (served stby .cana) .cana = false ∧ canWrite stby .cana 0x0200 2 3 = true ∧
    canWrite stby .cana 0x0200 2 6 = true ∧ mayAccess stby .cana = true ∧
    turn stby .cana = true ∧ armed (served stby .cana) .cana = false := by decide

theorem wit_shadow :
    (let w := served stby .cana
     mayAccess stby .cana = true ∧ mayAccess w .cana = true ∧ objOf 0x0100 = some .identity ∧ 1 < widthOf 0x0100 4 ∧
     ∃ f, fieldOf 0x0100 4 = some f ∧ mayRead w .cana false .identity f = true) ∧
    (let w := served svc .cana
     mayAccess svc .cana = true ∧ mayAccess w .cana = true ∧ objOf 0x1801 = some .engProg ∧
     ∃ f, fieldOf 0x1801 2 = some f ∧ f.words = 2 ∧ mayRead w .cana false .engProg f = true) :=
  ⟨⟨by decide, by decide, by decide, by decide, _, rfl, by decide⟩, by decide, by decide, by decide, _, rfl, rfl, by decide⟩

theorem wit_clears :
    canWrite stby .twi 0x0303 1 (2 ^ 64 - 1) = true ∧ (served stby .twi).evq = [] ∧
    canWrite stby .cana (0x1900 + 41) 3 1 = true ∧ (served stby .twi).evq = [] ∧
    (served stby .cana).now.engWrites = [] ∧
    canWrite stby .cana (0x1900 + 29) 3 2 = true ∧ canWrite stby .cana (0x1A00 + 47) 3 1 = true ∧
    canWrite stby .cana 0x1A41 2 0x4C4B = true ∧
    (let u := passTick (modReq (afterWrite (served stby .cana) .cana) .cana fun q => { q with lockHalf := true })
     stby.clk.time % 512 ≠ 511 ∧ canWrite u .cana 0x1A41 2 0xB4B4 = true ∧ (req (served u .cana) .cana).lockHalf = true) ∧
    canWrite stby .cana 0x1E00 3 5 = true := by decide

theorem wit_engine_commands :
    (let w := served stby .cana
     canWrite stby .cana 0x1800 2 1 = true ∧ engTested w = false ∧ w.eng.st = .halted ∧ canWrite stby .cana 0x1800 2 2 = true ∧
     partDisabled w 2 = false ∧ w.sup.mode = .standby) ∧
    (let s := withEng (fun e => { e with st := .trapped }) stby
     let w := served s .cana
     canWrite s .cana 0x1800 2 1 = true ∧ engTested w = false ∧ w.eng.st = .trapped) ∧
    (let s := { stby with bist := { stby.bist with run := some (2, 0), halt := true } }
     let w := served s .cana
     canWrite s .cana 0x1800 2 1 = true ∧ engTested w = true ∧ w.bist.halt = true) ∧
    (let w := served eng .cana
     canWrite eng .cana 0x1800 2 2 = true ∧ w.eng.st = .running ∧ engTested w = false) ∧
    canWrite svc .cana 0x1800 2 2 = true ∧ (served svc .cana).sup.mode = .service ∧
    canWrite svc .cana 0x1801 5 0xA5 = true ∧ canWrite svc .twi 0x1801 2 (0xFFFFFFFF : InstrWord).toNat = true := by decide

/-- A descriptor at data words 0 to 3. -/
def descriptor (a b c d : Word) (s : State) : State := withEng (fun e => { e with data := [(0, a), (1, b), (2, c), (3, d)] }) s

theorem wit_tact :
    (∀ k, k < 4 → dataOk eng.eng (((reg eng.eng 0).toNat + k) % 65536) = true) ∧
    (let w (s : State) (k : Nat) := (dataWord s.eng (((reg s.eng 0).toNat + k) % 65536)).toNat
     let s := descriptor 0x1300 0x0100 1 1 eng
     let t := descriptor 0x1000 0x0100 1 1 eng
     w (descriptor 0x1300 0x0101 1 1 eng) 1 % 256 ≠ 0 ∧ w (descriptor 0x1300 0x0100 1 0 eng) 3 = 0 ∧
     w s 1 % 256 = 0 ∧ w s 3 ≠ 0 ∧ 0x1300 ≤ w s 0 ∧ w s 0 < 0x1330 ∧ w s 1 / 256 = 1 ∧ w t 0 = 0x1000 ∧
     s.eng.tacts.length < 32 ∧ s.eng.field = false ∧ aqReserved s < 96 - aqHeld s) := by decide

def fullTact : Tact := { idx := 0x1300, sub := 1, val := 1, fire := 0, field := false }

theorem wit_tact_full : 32 ≤ (withEng (fun e => { e with tacts := List.replicate 32 fullTact }) eng).eng.tacts.length ∧
    96 - aqHeld (withEng (fun e => { e with tacts := List.replicate 96 fullTact }) eng) ≤ 0 := by decide

theorem wit_fires :
    let s := withEng (fun e => { e with st := .waite, tacts := [fullTact] }) (at' 1 stby)
    let v := advance s (if s.now.fired then s.clk.time + 1 else s.clk.time / 512 * 512 + 1)
    let u := if tactHeld v = true ∧ v.clk.time % 512 ≠ 511 then passTick v else v
    running s = true ∧ tactDue s = true ∧ s.now.fired = false ∧ running v = true ∧ tactDue v = true ∧ running u = true ∧
    engTested u = false ∧ inHoldNow u = false ∧ u.now.fired = false ∧ tactHeld u = false ∧ u.eng.tacts = fullTact :: [] ∧
    fullTact.fire ≤ u.clk.time / 512 ∧ fullTact.idx = 0x1300 + 0 ∧ fullTact.sub = 1 ∧ fullTact.val = 1 ∧
    fullTact.field = false := by decide

/-- A second firing of a frame waits for the next tick. -/
theorem wit_fires_again :
    let s := { withEng (fun e => { e with st := .waite, tacts := [fullTact] }) (at' 4 stby) with
      now := { Now.reset with fired := true } }
    let u := advance s (s.clk.time + 1)
    s.now.fired = true ∧ s.clk.time % 512 ≠ 511 ∧ running u = true ∧ tactDue u = true ∧ tactHeld u = false ∧
    u.now.fired = false := by decide

/-- A firing that finds HOSTIF at the store port comes a tick later. -/
theorem wit_fires_later :
    let s := { withEng (fun e => { e with st := .waite, tacts := [fullTact] }) (at' 4 stby) with
      now := { Now.reset with hostPort := true } }
    let u := passTick s
    advance s 1 = s ∧ tactDue s = true ∧ tactHeld s = true ∧ running u = true ∧
    tactHeld u = false ∧ u.now.fired = false ∧ u.eng.tacts = fullTact :: [] :=
  ⟨rfl, by decide, by decide, by decide, by decide, by decide, by decide⟩

theorem wit_drd :
    (let s := withEng (fun e => { e with w := [(1, 0x0200)] }) eng
     let w := s
     portReady s = true ∧ objOf 0x0100 = some .identity ∧ (reg w.eng 1).toNat / 256 = 2 ∧ (reg w.eng 1).toNat % 256 = 0 ∧
     (fieldOf 0x0100 2).map (·.words) = some 1 ∧ readAllowed w .eng w.eng.field .identity = true) ∧
    (let s := { (withEng (fun e => { e with w := [(1, 0x0401)] }) eng) with
        reqE := { ReqState.reset with shadow := some { key := 0x0100 * 256 + 4, val := 7, words := 4 } } }
     let w := s
     0 < (reg w.eng 1).toNat % 256 ∧ (reg w.eng 1).toNat % 256 < widthOf 0x0100 ((reg w.eng 1).toNat / 256) ∧
     ∃ h, w.reqE.shadow = some h ∧ h.key = 0x0100 * 256 + (reg w.eng 1).toNat / 256) :=
  ⟨by decide, by decide, by decide, _, rfl, by decide⟩

/-- A write of two words, its second word in the next tick, and an access that waits for HOSTIF (R80). -/
theorem wit_waiting_words :
    (mayAccess svc .cana = true ∧ turn svc .cana = true ∧ widthNow svc 0x1801 2 = 2 ∧ mayAccess eng .eng = true ∧
     turn eng .eng = true ∧ widthNow eng 0x1000 24 = 4) ∧
    (∀ k ∈ [1, 2], let a : Access := { req := .cana, op := .write 0x1801 2 7, words := k }
      let s := { svc with hostQ := [a] }
      s.pending = [] ∧ running s = true ∧ s.clk.time % 512 ≠ 511 ∧ still { s with hostQ := [] } = true ∧
      servePort s = none ∧ s.clk.time % 512 ≠ 15 ∧ mayAccess s .cana = true) ∧
    (let s := { eng with now := { Now.reset with hostPort := true } }
     executing s = true ∧ portReady s = false) ∧
    executing (withEng (fun e => { e with rows := [.instr .ei] }) eng) = true := by decide

theorem wit_waiting_rest : let s := { svc with hostQ := [{ req := .cana, op := .write 0x1801 2 7, words := 1 }] }
    accessRests s ∧ lineRests s := by unfold accessRests lineRests; decide

theorem wit_dwr :
    mayAccess eng .eng = true ∧ portReady eng = true ∧
    (let e := setReg eng.eng 1 0x0100
     (reg e 1).toNat % 256 = 0 ∧ widthOf 0x1300 ((reg e 1).toNat / 256) = 1) ∧
    (let e := setReg eng.eng 1 0x1800
     (reg e 1).toNat % 256 = 0 ∧ 1 < widthOf 0x1000 ((reg e 1).toNat / 256)) := by decide

/-! ## Converters and judges -/

def powered (s : State) : State := modSupply s fun u => { u with banks := 0x3FF }
def urgent (e : Nat) : Urgent := { src := .port .cana, entry := e, time := 0 }

/-- Channels 0 and 95 are analog, with numerators of both signs. -/
def sampling (s : State) : State :=
  modChan (modChan (withCfg [(0x1000, 3, 7), (0x1000, 4, 3), (0x105F, 3, 0xFFFF), (0x105F, 4, 1)] s) 0 fun h =>
    { h with kindEff := 1 }) 95 fun h => { h with kindEff := 3 }

theorem wit_conversion :
    let s := sampling stby
    let p := { advance s (32 * 11 + 10) with pins := { (advance s (32 * 11 + 10)).pins with level := 5 } }
    let u := advance p (32 * 11 + 28)
    running s = true ∧ converting s = true ∧ converting p = true ∧ converting u = true ∧
    (List.replicate 8 65535).length = 8 ∧ (∀ v ∈ List.replicate 8 65535, v < 65536) ∧
    (∀ e ∈ (conv p 7).places, e.1 ≠ 11) ∧ (∀ e ∈ (conv u 7).places, e.1 ≠ 11) ∧
    (∀ s ∈ [p, u], (chan s (12 * 0 + 0)).kindEff = 1 ∧ (chan s (12 * 7 + 11)).kindEff = 3) ∧
    0 ≤ s16 (chanCfg u 0 3) ∧ s16 (chanCfg u 95 3) < 0 ∧ 0 < chanCfg u 0 4 ∧ 0 < chanCfg u 95 4 := by decide

theorem wit_urgent_conversion :
    (let s := modConv stby 7 fun v => { v with places := [(13, urgent 13)] }
     let p := advance s (32 * 13 + 10)
     let u := advance p (32 * 13 + 28)
     converting p = true ∧ converting u = true ∧ (conv u 7).urgentRun < 2 ∧ (conv u 7).disp14 = none ∧
     (13, { src := .port .cana, entry := 13, time := 0 }) ∈ (conv p 7).places ∧
     (conv u 7).places.find? (fun x => decide (x.1 = 13)) = some (13, { src := .port .cana, entry := 13, time := 0 })) ∧
    (let s := modConv stby 0 fun v => { v with places := [(0, urgent 0)], urgentRun := 1, disp14 := some 3 }
     let p := advance s 10
     let u := advance p 28
     (0, { src := .port .cana, entry := 0, time := 0 }) ∈ (conv p 0).places ∧
     (conv u 0).urgentRun < 2 ∧ (conv u 0).disp14.isSome = true ∧
     (conv u 0).places.find? (fun x => decide (x.1 = 0)) = some (0, { src := .port .cana, entry := 0, time := 0 })) := by decide

theorem wit_urgent :
    (let w := served stby .cana
     canWrite stby .cana 0x1507 2 13 = true ∧ aqReserved w < 96 - aqHeld w ∧ (conv w 7).places.length < 2 ∧
     (conv w 7).pend = none) ∧
    (let s := modConv stby 7 fun v => { v with places := [(3, urgent 0), (4, urgent 1)], pend := some (urgent 2) }
     let w := served s .twi
     ¬ ((conv w 7).places.length < 2) ∧ (conv w 7).pend.isSome = true ∧ canWrite s .twi 0x1507 2 0 = true) ∧
    (let s := modConv (at' 511 stby) 0 fun v => { v with places := [(15, urgent 0)] }
     let w := served s .canb
     ¬ (max (w.clk.time % 512 / 32 + 1) 16 ≤ 15) ∧ (conv w 0).pend = none ∧ canWrite s .canb 0x1500 2 0 = true) ∧
    (let s := withEng (fun e => { e with tacts := List.replicate 96 fullTact }) stby
     let w := served s .cana
     96 - aqHeld w ≤ aqReserved w ∧ canWrite s .cana 0x1500 2 13 = true) := by decide

/-- TRIG 0 and 1 on pins 16 and 17: a rising edge with TRIG_EN, a falling one, and TRIG_EN clear for TRIG 2. -/
def triggered : State :=
  withCfg [(0x1500, 1, 0x83), (0x1501, 1, 0xAD), (0x1A10, 1, 0x3000), (0x1A11, 1, 0x3000), (0x1A12, 1, 0x3000)] (powered stby)

theorem wit_trig :
    running triggered = true ∧ converting triggered = true ∧ trigSupplier triggered 0 = some 16 ∧ trigSupplier triggered 1 = some 17 ∧
    trigSupplier triggered 2 = some 18 ∧ bankGood triggered 16 = true ∧ edgeless triggered 16 = false ∧
    (convCfg triggered 0 1).testBit 7 = true ∧ convCfg triggered 0 1 / 32 % 4 = 0 ∧
    (convCfg triggered 1 1).testBit 7 = true ∧ convCfg triggered 1 1 / 32 % 4 = 1 ∧
    (convCfg triggered 2 1).testBit 7 = false ∧ (conv triggered 0).places = [] ∧ triggered.clk.time % 512 / 32 < 15 := by decide

/-- An edge in the tick of a host's request of place 1, and requests that are first in their tick. -/
theorem wit_first :
    (let u : Urgent := { src := .port .canb, entry := 1, time := 7 }
     let v := conv (modConv stby 0 fun v => { v with places := [(3, urgent 0)], pend := some (urgent 2) }) 0
     (∀ x ∈ v.places, urgentBefore u x.2 = false) ∧ ∀ x ∈ v.pend, urgentBefore u x = false) ∧
    (let s := modConv triggered 0 fun v => { v with places := [(1, urgent 5)] }
     (conv s 0).places = [(1, { src := .port .cana, entry := 5, time := s.clk.time })] ∧ (conv s 0).pend = none ∧
     max (s.clk.time % 512 / 32 + 1) 2 ≤ 15) := by decide

/-- Channel 95 with its thresholds, filters of 3 and 2 samples, a settle count of 2 and a chatter limit of 4. -/
def judged (f : Chan → Chan) (m : Mode) : State :=
  modChan (withCfg [(0x105F, 6, 500), (0x105F, 7, 100), (0x105F, 8, 400), (0x105F, 9, 200), (0x105F, 10, 350),
      (0x105F, 11, 250), (0x105F, 12, 20), (0x105F, 13, 50), (0x105F, 14, 3), (0x105F, 15, 2), (0x105F, 16, 2),
      (0x105F, 17, 4), (0x105F, 20, 6)] (inMode m)) 95 fun h => f { h with kindEff := 1 }

/-- The device at the decision of slot 11. -/
def atJudge (s : State) : State := advance s (32 * 11 + 30)

theorem wit_judge :
    (let s := judged (fun h => { h with raw := 501, ov := 2, st := .running }) .run
     let u := atJudge s
     running s = true ∧ converting s = true ∧ converting u = true ∧ u.sup.mode = .run ∧ ranIn (conv u 7) 11 = some 11 ∧
     (chan u 95).kindEff = 1 ∧ (chan u 95).ov ≤ 16 ∧ (chan u 95).uv ≤ 16 ∧ chanCfg u 95 6 < (chan u 95).raw ∧
     (chan u 95).ovf = false ∧ chanCfg u 95 14 ≤ min ((chan u 95).ov + 1) 16) ∧
    (let u := atJudge (judged (fun h => { h with raw := 99, uv := 16, st := .running }) .run)
     (chan u 95).st = .running ∧ (chan u 95).raw < chanCfg u 95 7 ∧ (chan u 95).uv ≤ 16 ∧ (chan u 95).uvf = false ∧
     fallingPod u 95 = none) ∧
    (let u := atJudge (judged (fun h => { h with raw := 49 }) .standby)
     (chan u 95).st = .off ∧ (chan u 95).raw < chanCfg u 95 13 ∧ ranIn (conv u 7) 11 = some 11) := by decide

/-- A warning and a power good that change at their second sample; a rail that settles, and one whose third and fifth
restart of the count comes. -/
theorem wit_judge_rails :
    (let u := atJudge (judged (fun h => { h with raw := 401, owc := 1, pg := true, pgc := 1, st := .running }) .run)
     (chan u 95).st = .running ∧ (chanCfg u 95 20).testBit 1 = true ∧ (chanCfg u 95 20).testBit 2 = true ∧
     chanCfg u 95 8 < (chan u 95).raw ∧ chanCfg u 95 15 ≤ (chan u 95).owc + 1 ∧ (chan u 95).pg = true ∧
     min (chanCfg u 95 10 + chanCfg u 95 12) 65535 < (chan u 95).raw) ∧
    (let u := atJudge (judged (fun h => { h with raw := 250, settle := 1, st := .rising }) .ascend)
     (chan u 95).st = .rising ∧ chanCfg u 95 11 ≤ (chan u 95).raw ∧ (chan u 95).raw ≤ chanCfg u 95 10 ∧
     (chan u 95).thrErr = false ∧ chanCfg u 95 16 ≤ (chan u 95).settle + 1) ∧
    (∀ n ∈ [2, 4],
      let u := atJudge (judged (fun h => { h with raw := 249, settle := 1, chatter := n, st := .rising }) .ascend)
      (chan u 95).st = .rising ∧ (chan u 95).raw < chanCfg u 95 11 ∧ 0 < (chan u 95).settle ∧ (chan u 95).chatter = n) ∧
    chanCfg (judged id .ascend) 95 17 = 4 := by decide

/-- Channels 11 and 95 are a pair, and converter 7 fails the check of entry 12, displaced to slot 14, for the second time. -/
theorem wit_judge_pairs :
    (let s := modChan (modChan (withCfg [(0x100B, 2, 95), (0x100B, 18, 3), (0x100B, 19, 2)] (inMode .run)) 11 fun h =>
       { h with kindEff := 3, st := .running, scaled := 4, pairCnt := 1 }) 95 fun h => { h with kindEff := 3, st := .running }
     let u := atJudge s
     converting u = true ∧ ranIn (conv u 0) 11 = some 11 ∧ ranIn (conv u 7) 11 = some 11 ∧ partner u 11 = some 95 ∧
     (chan u 11).st = .running ∧ (chan u 95).st = .running ∧ (chan u 11).pairErr = false ∧ (chan u 11).pairCnt ≤ 16 ∧
     chanCfg u 11 18 < ((chan u 11).scaled - (chan u 95).scaled).natAbs ∧
     chanCfg u 11 19 ≤ min ((chan u 11).pairCnt + 1) 16) ∧
    (∀ m ∈ [Mode.run, .boot],
      let s := modConv { inMode m with boot := { (inMode m).boot with refFrames := 16 } } 7 fun v =>
        { v with cntA := 1, disp14 := some 12, regs := [(12, 100)] }
      let u := advance s (32 * 14 + 30)
      running s = true ∧ converting s = true ∧ converting u = true ∧ u.sup.mode = m ∧ ranIn (conv u 7) 14 = some 12 ∧
      get (conv u 7).regs 0 12 % 65536 + convCfg u 7 7 < (conv u 7).expA ∧ (conv u 7).cntA = 1 ∧ u.boot.refFrames ≤ 16) := by
  decide

/-! ## Crash and the fault line -/

theorem wit_crash :
    canWrite (inMode .run) .cana 0x1600 7 0xC5 = true ∧ (served (inMode .run) .cana).sup.mode = .run ∧
    canWrite (withEng (fun e => { e with st := .running }) svc) .eng 0x1600 7 0xC5 = true ∧
    (∀ l ∈ [[SupPart.enable 95], [.flt], [.dis 15, .register .pod 47 13 2, .margin 0]],
      let s := at' 510 stby
      let e := endTick (upsetCopy s l)
      s.clk.time % 512 ≠ 511 ∧ running e = true ∧ e.sup.mode = .standby ∧ e.sup.crash.lockNext = true ∧ e.odp.job = none ∧ e.hostQ = []) ∧
    (let s := modChan (at' 511 stby) 95 fun h => { h with enable := true }
     let v := [SupPart.enable 95, .flt, .dis 15].foldl upset (secondCopy s)
     s.clk.time % 512 = 511 ∧ (get v.sup.chans Chan.reset 95).enable = false ∧ v.sup.line.holding = true ∧ disAsserted v.sup 15 = true) ∧
    (let s := at' 511 (powered stby)
     let v := [SupPart.safeN].foldl upset (secondCopy s)
     safeLevel s v.sup.mode = some false) := by decide

theorem wit_crash_rests : accessRests (endTick (upsetCopy (at' 510 stby) [.enable 95])) := by unfold accessRests; decide

/-- A crash in a device whose commit and arbitration have ended. -/
def crashed (k : Crash → Crash) (l : Line → Line) (s : State) : State :=
  modCrash (withLine (fun x => l { x with arb := .done }) (withRec (fun r => { r with commitEnded := true, commit := .ended }) s))
    fun x => k { x with latched := true, cause := 7 }

def inCrash : State := crashed id id (inMode .crash)

theorem wit_clear :
    (let w := served (armedKey .cana stby) .cana
     canWrite (armedKey .cana stby) .cana 0x0200 5 1 = true ∧ armed w .cana = true ∧ w.sup.mode ≠ .crash) ∧
    (let w := served (armedKey .cana (inMode .crash)) .cana
     canWrite (armedKey .cana (inMode .crash)) .cana 0x0200 5 1 = true ∧ armed w .cana = true ∧ w.sup.mode = .crash ∧
     w.recs.commitEnded = false ∧ w.sup.crash.clearing = false) ∧
    (let w := served (armedKey .cana inCrash) .cana
     canWrite (armedKey .cana inCrash) .cana 0x0200 5 1 = true ∧ armed w .cana = true ∧ w.sup.mode = .crash ∧
     w.sup.crash.clearing = false ∧ w.recs.commitEnded = true ∧ arbBusy w.sup.line = false ∧
     (∀ c, c < 96 → (chan w c).ovf = false) ∧ (∀ g, g < 8 → (conv w g).failA = false ∧ (conv w g).failB = false)) := by
  decide

/-- What keeps a crash from being cleared: an overvoltage flagged for crash, and a failing reference. -/
theorem wit_clear_persists :
    (let s := armedKey .cana (modChan (withCfg [(0x105F, 20, 8)] inCrash) 95 fun h => { h with ovf := true })
     let w := served s .cana
     canWrite s .cana 0x0200 5 1 = true ∧ (chan w 95).ovf = true ∧ offOvCrash w 95 = true) ∧
    (let s := armedKey .cana (modConv inCrash 7 fun v => { v with failB := true })
     let w := served s .cana
     canWrite s .cana 0x0200 5 1 = true ∧ (conv w 7).failB = true ∧ w.recs.commitEnded = true ∧ arbBusy w.sup.line = false) := by
  decide

/-- A clear that CLEAR_CRASH began, whose key is used up, and one that began by itself. -/
theorem wit_quiet_line :
    ∀ auto ∈ [true, false],
      let s := at' 3100 (crashed (fun k => { k with clearing := true, auto := auto }) id (inMode .crash))
      let u := advance s (s.sup.line.faultEnd + 3199)
      running s = true ∧ s.sup.crash.clearing = true ∧ faultShown s = false ∧ armed s .cana = false ∧
      (s.sup.line.faultEnd + 3199) / 512 ≤ s.clk.time / 512 ∧ running u = true ∧ u.sup.crash.clearing = true ∧
      faultShown u = false ∧ u.sup.line.faultEnd = s.sup.line.faultEnd := by decide

def line (f : Line → Line) (t : Nat) (m : Mode) : State :=
  withCfg [(0x1600, 1, 0x30), (0x1600, 2, 0x7FFF), (0x1600, 3, 3)] (at' t (withLine f (inMode m)))

/-- A line that is low or high with the ball, since tick t. -/
def lined (role : LineRole) (low : Bool) (t now : Nat) (m : Mode) (f : Line → Line) : State :=
  line (fun l => f { l with role := role, index := 3, low := low, others := low, fall := t }) now m

section
set_option maxRecDepth 20000

theorem wit_falls :
    (let s := lined .listening false 0 0 .standby id
     let u := advance s 511
     running s = true ∧ s.sup.line.others = false ∧ running u = true) ∧
    (lined .listening true 0 0 .standby id).sup.line.others = true := by decide

/-- Low periods of a listening and a stopped device, and one that the device holds itself. -/
theorem wit_sync :
    (∀ len ∈ [51, 52, 96, 97, 15, 16, 48], ∀ role ∈ [LineRole.listening, .stopped],
      let s := lined role true 512 512 .standby id
      let u := advance s (s.sup.line.fall + len)
      let l := u.sup.line
      running s = true ∧ s.sup.line.low = true ∧ len < 128 ∧ (s.sup.line.fall + len) / 512 ≤ s.clk.time / 512 ∧
      running u = true ∧ l.low = true ∧ fltLow u = false ∧ l.fault = false ∧ l.role = role) ∧
    (let s := lined .synced true 1100 1110 .crash fun l => { l with base := 1000, holding := true }
     let u := advance s (s.sup.line.fall + 30)
     s.sup.line.low = true ∧ (s.sup.line.fall + 30) / 512 ≤ s.clk.time / 512 ∧ running u = true ∧ fltLow u = true) := by decide

/-- Sync pulses of a synchronised device at both ends of the window and beside it, and a timekeeper's own and foreign one. -/
theorem wit_synced :
    (∀ e ∈ [19, 20, 70, 71],
      let s := lined .synced true (1024 + e) 1100 .run fun l => { l with base := 1024 }
      let u := advance s (s.sup.line.fall + 64)
      let l := u.sup.line
      running u = true ∧ l.low = true ∧ fltLow u = false ∧ l.fault = false ∧ l.role = .synced ∧ l.base = 1024 ∧
      l.fall = 1024 + e ∧ (s.sup.line.fall + 64) / 512 ≤ s.clk.time / 512) ∧
    (∀ x ∈ [(some 4, 40, true), (some 4, 52, true), (some 4, 53, false), (none, 44, false)],
      let s := lined .timekeeper true (1024 + x.2.1) 1110 .run fun l => { l with base := 1024, cycle := 4, syncDrive := x.1 }
      let u := advance s (s.sup.line.fall + 64)
      let l := u.sup.line
      running u = true ∧ l.low = true ∧ fltLow u = false ∧ l.fault = false ∧ l.role = .timekeeper ∧
      (x.2.2 = true ↔ l.syncDrive = some l.cycle ∧ l.base + 40 ≤ l.fall ∧ l.fall ≤ l.base + 52)) := by decide

theorem wit_heartbeat :
    (∀ x ∈ [(0, 100, true), (0, 99, false), (0, 160, true), (0, 161, false), (14, 2960, true)],
      let s := lined .synced true (1000 + x.2.1) (1000 + x.2.1) .run fun l => { l with base := 1000 }
      let u := advance s (s.sup.line.fall + 16)
      let l := u.sup.line
      running s = true ∧ s.sup.line.low = true ∧ (s.sup.line.fall + 16) / 512 ≤ s.clk.time / 512 ∧ running u = true ∧
      l.low = true ∧ fltLow u = false ∧ l.fault = false ∧ l.role = .synced ∧ isPartner u x.1 = true ∧
      (x.2.2 = true ↔ l.base + 200 * x.1 + 100 ≤ l.fall ∧ l.fall ≤ l.base + 200 * x.1 + 160)) ∧
    isPartner (lined .synced true 1100 1100 .run id) 3 = false := by decide

/-- START and STOP in slot 15, the first pulse and both ends of the second one's windows. -/
theorem wit_line_pulses :
    (∀ e ∈ [3019, 3020, 3070, 3071],
      let s := lined .synced true (1100 + e) (1100 + e) .run fun l => { l with base := 1100 }
      let l := (advance s (s.sup.line.fall + 20)).sup.line
      l.firstPulse = none ∧ l.role = .synced ∧ l.low = true ∧ l.base + 3000 ≤ l.fall ∧ l.fall < l.base + 3200) ∧
    (∀ x ∈ [(50, Mode.standby), (70, .run), (90, .descend), (110, .service), (70, .crash)],
      let s := lined .timekeeper true (4140 + x.1) (4140 + x.1) x.2 fun l => { l with base := 1100, firstPulse := some 4140 }
      let u := advance s (s.sup.line.fall + 20)
      let l := u.sup.line
      running s = true ∧ s.sup.line.low = true ∧ (s.sup.line.fall + 20) / 512 ≤ s.clk.time / 512 ∧ running u = true ∧
      l.low = true ∧ fltLow u = false ∧ l.fault = false ∧ l.role = .timekeeper ∧ l.firstPulse = some 4140 ∧
      l.fall = 4140 + x.1 ∧ l.base + 3000 ≤ l.fall ∧ l.fall < l.base + 3200 ∧ u.sup.mode = x.2) := by decide

/-- The 128th tick of a low period, in the present tick and in the next one, and its end, with and without an arbitration
that waits. -/
theorem wit_fault :
    (∀ now ∈ [226, 227],
      let s := lined .synced true 100 now .standby id
      let u := advance s (100 + 127)
      running s = true ∧ s.sup.line.low = true ∧ s.sup.line.fault = false ∧ (100 + 127) / 512 ≤ s.clk.time / 512 ∧
      u.clk.time = 227 ∧ running u = true ∧ u.sup.mode = .standby ∧ u.sup.line.low = true ∧ u.sup.line.fault = false ∧
      u.sup.line.fall = 100) ∧
    (let s := lined .synced true 100 300 .crash fun l => { l with fault := true, arb := .hold, faultAt := some 100 }
     let w := advance s (100 + 300)
     s.sup.line.low = true ∧ (100 + 300) / 512 ≤ s.clk.time / 512 ∧ running w = true ∧ w.sup.line.low = true ∧
     w.sup.line.fault = true ∧ fltLow w = false) ∧
    (let s := lined .synced true 100 300 .crash fun l => { l with fault := true, holding := true }
     fltLow s = true ∧ s.sup.line.fault = true) := by decide

theorem wit_fault_alone :
    let v := lined .synced true 100 227 .standby id
    v.pending = [] ∧ ballLow v = true ∧ still v = true ∧ accessRests v ∧ v.clk.time % 512 ≠ 511 := by
  unfold accessRests; decide

/-- The device crashes by itself in the 128th tick of the low period that the pulse ends. -/
theorem wit_fault_pulse :
    let s := lined .synced true 100 227 .standby id
    let v := advance s (100 + 127)
    let w := advance s (100 + 128)
    v.clk.time = 227 ∧ running v = true ∧ v.sup.mode = .standby ∧ v.sup.line.low = true ∧ v.sup.line.fault = false ∧
    v.sup.line.fall = 100 ∧ running w = true ∧ w.sup.line.low = true ∧ w.sup.line.fault = true ∧ fltLow w = false ∧
    w.sup.crash = (passTick v).sup.crash ∧ w.sup.mode = (passTick v).sup.mode := by decide

theorem wit_timekeeper :
    (∀ i ∈ [0, 15],
      let s := line (fun l => { l with role := .listening, index := i, base := 9600 + 3200 * i - 5 }) (9600 + 3200 * i) .run
      let due := s.sup.line.listenAt + 9600 + 3200 * s.sup.line.index
      let u := advance s due
      s.sup.line.role = .listening ∧ due / 512 ≤ s.clk.time / 512 ∧ running u = true ∧
      u.sup.line.role = .listening ∧ u.sup.line.listenAt + 9600 + 3200 * u.sup.line.index = due ∧ u.sup.line.index = i) ∧
    (let s := line (fun l => { l with role := .timekeeper, index := 0, base := 1000, sendFrom := 3, cycle := 3 }) 1030 .run
     let due := nextAt s 40
     let u := advance s due
     due = 1040 ∧ due / 512 ≤ (at' 1040 s).clk.time / 512 ∧ sending s = true ∧ s.sup.line.role = .timekeeper ∧
     running u = true ∧ sending u = true ∧ nextAt u 40 = due ∧ u.sup.line.role = .timekeeper) ∧
    (let s := line (fun l => { l with role := .synced, index := 14, base := 1000, sendFrom := 3, cycle := 3 }) 3900 .run
     let due := nextAt s (200 * s.sup.line.index + 120)
     let u := advance s due
     due = 3920 ∧ due / 512 ≤ s.clk.time / 512 ∧ sending s = true ∧ running u = true ∧ sending u = true ∧
     nextAt u (200 * s.sup.line.index + 120) = due ∧ u.sup.line.index = s.sup.line.index) := by decide

theorem wit_sync_loss :
    let s := line (fun l => { l with
      role := .synced, index := 2, base := 1000, hist := [(0, false, false), (4, false, true), (8, false, true)] }) 1030 .run
    let due := if syncLost s.sup.line then s.clk.time else s.sup.line.base + 3200
    let u := advance s due
    let l := u.sup.line
    running s = true ∧ due = 1030 ∧ s.sup.line.role = .synced ∧ running u = true ∧ u.clk.time = due ∧ l.role = .synced ∧
    l.index < 15 ∧ ∃ x y z p q r, l.hist = [(x, false, p), (y, false, q), (z, false, r)] ∧ (x ||| y ||| z) % 2 ^ l.index = 0 :=
  ⟨by decide, by decide, by decide, by decide, by decide, by decide, by decide, 0, 4, 8, false, true, true, by decide, by decide⟩

theorem wit_partners :
    let absent (i : Nat) : State := line (fun l => { l with
      role := .synced, index := 3, base := 4000, joined := 0x7FFF - 2 ^ i, joins := [(i, (1800, 1))] }) 5000 .run
    let lost (n judged i : Nat) : State := line (fun l => { l with
      role := .timekeeper, index := 3, base := 4000, joined := 2 ^ i, judged := judged, misses := [(i, n)] }) 4100 .run
    (∀ i ∈ [0, 14],
      let u := advance (absent i) (joinEnd (absent i) i)
      running (absent i) = true ∧ serviceable (absent i).sup.mode = true ∧ joinEnd (absent i) i / 512 ≤ 5000 / 512 ∧
      unjoined (absent i) i = true ∧ (∀ j, j < 15 → j ≠ i → unjoined (absent i) j = false) ∧ running u = true ∧
      u.sup.mode = .run ∧ u.causes = [] ∧ unjoined u i = true ∧ (∀ j, j < 15 → j ≠ i → unjoined u j = false) ∧
      joinEnd u i = joinEnd (absent i) i ∧ u.clk.time = max 5000 (joinEnd (absent i) i) ∧ (lineCfg u 1).testBit 5 = true) ∧
    (∀ i ∈ [0, 14],
      let c := lost 3 (2 ^ i) i
      c.sup.line.role = .timekeeper ∧ isPartner c i = true ∧ c.sup.line.joined.testBit i = true ∧
      c.sup.line.lost.testBit i = false ∧ missesSuspended c = false ∧ get c.sup.line.misses 0 i = 3 ∧
      c.sup.line.judged.testBit i = true ∧ c.causes = [] ∧ (lineCfg c 1).testBit 4 = true) ∧
    (let c := lost 2 0 0
     let due := windowAt c.sup.line 0
     let u := advance c due
     let d := u.sup.line
     get c.sup.line.misses 0 0 = 2 ∧ c.sup.line.judged.testBit 0 = false ∧ c.sup.line.seen.testBit 0 = false ∧
     due / 512 ≤ c.clk.time / 512 ∧ running u = true ∧ u.causes = [] ∧ get d.misses 0 0 = 2 ∧ d.judged.testBit 0 = false ∧
     d.seen.testBit 0 = false ∧ windowAt d 0 = due ∧ missesSuspended u = false ∧ isPartner u 0 = true) ∧
    (lineCfg stby 1).testBit 5 = false ∧ (lineCfg stby 1).testBit 4 = false := by decide

theorem wit_line_command :
    let tk (f : Line → Line) (t : Nat) (m : Mode) : State := line (fun l => f { l with role := .timekeeper, index := 3, base := 4000 }) t m
    (∀ v ∈ [1, 2],
      let s := tk id 7198 .run
      let w := served s .cana
      canWrite s .cana 0x1600 6 v = true ∧ w.sup.line.role = .timekeeper ∧ w.sup.line.pending = none ∧ w.sup.mode = .run) ∧
    (let s := tk id 5000 .crash
     canWrite s .canb 0x1600 6 2 = true ∧ (served s .canb).sup.mode = .crash) ∧
    (let s := line (fun l => { l with role := .synced, base := 4000 }) 5000 .run
     canWrite s .twi 0x1600 6 2 = true ∧ (served s .twi).sup.line.role ≠ .timekeeper) ∧
    (let s := tk (fun l => { l with pending := some true }) 5000 .descend
     canWrite s .twi 0x1600 6 1 = true ∧ (served s .twi).sup.line.pending.isSome = true) ∧
    (let s := tk (fun l => { l with pending := some true, cmdReq := some .canb, cmdCycle := 3, cycle := 4, sendFrom := 4, faultEnd := 6800 })
      7030 .ascend
     let due := nextAt s 3040
     let u := advance s due
     let d := u.sup.line
     running s = true ∧ sending s = true ∧ s.sup.line.role = .timekeeper ∧ s.sup.line.pending = some true ∧
     due / 512 ≤ s.clk.time / 512 ∧ running u = true ∧ sending u = true ∧ nextAt u 3040 = due ∧ d.role = .timekeeper ∧
     d.pending = some true ∧ d.cmdReq = some .canb ∧ d.cmdCycle < d.cycle ∧ faultShown u = false ∧
     d.faultEnd ≤ d.base + 2800) := by decide

theorem wit_arbitration :
    let at4 (f : Line → Line) (k : Crash → Crash) (t : Nat) : State := modCrash (line f t .crash) fun x => k { x with latched := true, time := 200 }
    (let s := at4 (fun l => { l with origHold := true }) id 4100
     let u := advance s (200 + 4000)
     s.sup.line.origHold = true ∧ (200 + 4000) / 512 ≤ s.clk.time / 512 ∧ running u = true ∧
     u.sup.line.origHold = true ∧ u.sup.crash.time = 200) ∧
    (let s := at4 (fun l => { l with arb := .gap 300 }) id 1050
     let u := advance s (300 + 800)
     s.sup.line.arb = .gap 300 ∧ (300 + 800) / 512 ≤ s.clk.time / 512 ∧ running u = true ∧ u.sup.line.arb = .gap 300) ∧
    (∀ role ∈ [LineRole.synced, .timekeeper, .stopped],
     let s := at4 (fun l => { l with arb := .running 2320, faultAt := some 900, index := 14, role := role })
       (fun k => { k with originator := true, ownTime := 65535 }) 3990
     let u := advance s (2320 + 1680)
     s.sup.line.arb = .running 2320 ∧ s.sup.line.faultAt = some 900 ∧ 2320 + 1680 ≤ 900 + 8000 ∧
     (2320 + 1680) / 512 ≤ s.clk.time / 512 ∧ running u = true ∧ u.sup.line.arb = .running 2320 ∧
     u.sup.line.faultAt = some 900 ∧ u.sup.crash.originator = true ∧ u.sup.line.rejoin = false ∧
     u.sup.crash.ownTime < 2 ^ 16 ∧ u.sup.line.index < 15 ∧ u.sup.line.arbLow = 0) ∧
    (let others : BitVec 21 := 2 ^ 20 - 1
     (∀ i, i < 20 → others.getLsbD i = true) ∧
     (65535 * 16 + 14).testBit (19 - 0) = true ∧ (0 : BitVec 21).getLsbD 0 = false) ∧
    (let s := at4 (fun l => { l with arb := .hold, faultAt := some 900 }) id 8900
     let u := advance s (900 + 8000)
     arbBusy s.sup.line = true ∧ (900 + 8000) / 512 ≤ s.clk.time / 512 ∧ running u = true ∧ arbBusy u.sup.line = true ∧
     u.sup.line.faultAt = some 900 ∧ u.sup.crash.originator = false) := by decide

end

/-! ## Records -/

/-- A complete capture; `smallest` has nothing in its lists. -/
def capture : Capture :=
  { cause := 3, source := 5, crashTime := 700, frame := 1, slot := 3, mode := 2, chatter := 4, podInfo := 7,
    originator := true, later := false, huskPlanned := true, huskSlot := 63, episode := 3, closed := true,
    fresh := false, raws := [], frames := [], pods := [], events := [], counters := [] }

def recording (f : Rec → Rec) : State := withRec (fun r => f { r with cap := some capture }) (inMode .crash)

theorem wit_kernel :
    (let s := recording fun r => { r with commit := .waiting }
     running s = true ∧ s.recs.cap = some capture ∧ s.recs.commit = .waiting ∧ capture.closed = true ∧
     arbBusy s.sup.line = false ∧ s.recs.sumBusy = none) ∧
    (let s := withLine (fun l => { l with arb := .hold }) (recording fun r => { r with commit := .waiting })
     s.recs.commit = .waiting ∧ arbBusy s.sup.line = true) ∧
    (let s := recording fun r => { r with
       commit := .busy true false, job := kernelRecord stby capture false, kernel := { r.kernel with next := 511 } }
     s.recs.commit = .busy true false) := by decide

theorem wit_kernel_job :
    let s := recording fun r => { r with commit := .busy false false, job := List.replicate 256 0 }
    running s = true ∧ s.recs.commit = .busy false false ∧ s.recs.job.length = 256 :=
  ⟨rfl, rfl, List.length_replicate⟩

def entry (kind cause source : Nat) : Coal :=
  { kind := kind, cause := cause, source := source, count := 1, first := 5, last := 9, ep := 3, d0 := 1, d1 := 2 }

theorem wit_husk_summary :
    (let s := recording fun r => { r with huskBusy := some 7 }
     running s = true ∧ s.recs.huskBusy = some 7 ∧ s.recs.cap = some capture) ∧
    (let s := at' (500 * 200000 + 5) (recording fun r => { r with coal := [entry 1 2 3], sumStart := some 5, commit := .ended })
     (firstPending s.recs).isSome = true ∧ s.recs.scanned = true ∧ s.recs.huskBusy = none ∧ s.recs.sumBusy = none ∧
     s.recs.sumStart = some 5 ∧ 5 + act s 0x1700 1 * 200000 ≤ s.clk.time) ∧
    (let s := recording fun r => { r with coal := [entry 1 2 3, entry 1 2 4], sumBusy := some (1, 2, 4) }
     s.recs.sumBusy = some (1, 2, 4) ∧ s.recs.coal.find? (fun e => sameKey e 1 2 4) = some (entry 1 2 4)) ∧
    (let s := recording fun r => { r with report := some (5, 3), mrg := 7, lost := 2, sumBusy := some (6, 0, 0) }
     s.recs.sumBusy = some (6, 0, 0) ∧ s.recs.report = some (5, 3)) := by decide

theorem wit_loads : ∀ q, loadWaits (req stby q) = false := by
  intro q; cases q <;> rfl

theorem wit_views :
    serviceable stby.sup.mode = true ∧ stby.clk.standbyAt + 20000000 ≤ (at' 20000000 stby).clk.time ∧
    (withRec (fun r => { r with reached := true }) State.reset).recs.reached = true ∧ running State.reset = true ∧
    stby.recs.holdLow = false ∧ canWrite stby .cana (viewIdx .kernel) 1 0x01FF = true ∧
    canWrite stby .twi (viewIdx .husk) 1 0xF83F = true ∧ canWrite stby .canb (viewIdx .summary) 1 0x07FF = true ∧
    (let s := withReq .cana (fun q => setView q .kernel { View.reset with select := 0x8000, loading := true }) stby
     (viewOf (req s .cana) .kernel).loading = true ∧ (s.recs.commit = .idle ∨ s.recs.commit = .ended) ∧
     s.recs.huskBusy = none ∧ s.recs.sumBusy = none ∧ (byAge s.recs.nvm .kernel).length ≤ 0x8000 % 2048) ∧
    (let s := withReq .cana (fun q => setView q .husk { View.reset with select := 0x783F, loading := true }) stby
     (viewOf (req s .cana) .husk).loading = true ∧ (viewOf (req s .cana) .husk).select = 0x783F) := by decide

/-! ## Image update -/

def updating (bankB : Nat) (len : Nat) (f : Image → Image) : State :=
  { withCfg [(0x1F00, 2, bankB), (0x1F00, 3, len)] svc with image := f svc.image }

theorem wit_image_update :
    (let s := updating 1 84 fun i => { i with active := some true }
     let w := served s .cana
     canWrite s .cana 0x1F00 1 1 = true ∧ canWrite s .cana 0x1F00 1 4 = true ∧
     w.image.active = some (decide (act w 0x1F00 2 = 1))) ∧
    (let s := updating 0 131072 fun i => { i with active := some true }
     let w := served s .canb
     canWrite s .canb 0x1F00 1 1 = true ∧ w.image.active ≠ some (decide (act w 0x1F00 2 = 1)) ∧
     act w 0x1F00 3 % 4 = 0 ∧ 84 ≤ act w 0x1F00 3 ∧ act w 0x1F00 3 ≤ 131072) ∧
    ¬ (act (updating 0 131073 id) 0x1F00 3 % 4 = 0) ∧ ¬ (84 ≤ act (updating 0 80 id) 0x1F00 3) ∧
    (let s := updating 0 84 fun i => { i with busy := true, chunk := some { addr := 0x20000, bytes := [1], own := true } }
     running s = true ∧ s.image.chunk.isSome = true ∧ (s.recs.commit = .idle ∨ s.recs.commit = .ended) ∧
     s.recs.huskBusy = none ∧ s.recs.sumBusy = none) := by decide

set_option maxRecDepth 20000 in
/-- Chunks at the update's start and past its end. -/
theorem wit_image_chunk :
    (∀ a ∈ [28, 112],
      let s := updating 0 84 fun i => { i with openUpd := true, updLen := 84, addr := a }
      turn s .twi = true ∧ admits s .twi 0x1F00 16 0 = true ∧ turn s .cana = true ∧ admits s .canb 0x1F00 16 0 = true ∧
      portReady { s with hostQ := [{ req := .canb, op := .chunk [], words := 1 }] } = true ∧ s.image.openUpd = true ∧
      s.image.busy = false ∧ s.image.addr = a ∧ s.image.updLen = 84) ∧
    (List.replicate 56 (0 : Byte)).length = 56 := by decide

theorem wit_image_check :
    (let s := updating 0 84 fun i => { i with openUpd := true, updLen := 84, addr := 112 }
     let i := (served s .cana).image
     canWrite s .cana 0x1F00 1 2 = true ∧ i.openUpd = true ∧ i.seqErr = false ∧ i.updLen ≤ i.addr ∧ i.wrFail = false) ∧
    (canWrite svc .cana 0x1F00 1 2 = true ∧ (served svc .cana).image.openUpd = false) ∧
    (let s := updating 0 84 fun i => { i with checking := true, busy := true }
     running s = true ∧ s.image.checking = true ∧ checkBank s.recs.nvm s.image s.image.updB = 11) ∧
    (let s := armedKey .cana (updating 0 84 fun i => { i with verified := true, keySet := true })
     let w := served s .cana
     canWrite s .cana 0x1F00 1 3 = true ∧ w.image.verified = true ∧ armed w .cana = true ∧ w.image.chunk = none ∧
     w.recs.commit = .idle ∧ canWrite s .twi 0x1F00 10 (2 ^ 128 - 1) = true ∧ armed (served (armedKey .twi s) .twi) .twi = true ∧
     canWrite s .cana 0x1F00 11 2 = true ∧ w.image.keySet = true) ∧
    (canWrite svc .canb 0x1F00 1 3 = true ∧ (served svc .canb).image.verified = false ∧
     canWrite svc .twi 0x1F00 10 0 = true ∧ armed (served svc .twi) .twi = false ∧
     canWrite (armedKey .canb svc) .canb 0x1F00 11 2 = true ∧ svc.image.keySet = false) := by decide

/-- ACTIVATE in BOOT-HOLD, where no key is asked for. -/
theorem wit_activate_hold :
    let s := { State.reset with
      boot := { (inMode .boot).boot with hold := true, cause := 4 }
      image := { State.reset.image with verified := true } }
    let w := served s .cana
    canWrite s .cana 0x1F00 1 3 = true ∧ armed w .cana = false ∧ inHoldNow w = true ∧ w.image.verified = true ∧
    w.image.chunk = none := by decide

/-! ## Power, reset, BOOT and SLEEP -/

def withPwr (f : Power → Power) (s : State) : State := { s with pwr := f s.pwr }
def held (srcs : Nat) : State := withPwr (fun p => { p with held := true, srcs := srcs, causes := srcs }) State.reset

theorem wit_at_rest : nvmAtRest State.reset ∧ nvmAtRest stby ∧ nvmAtRest (held 1) :=
  ⟨⟨.inl rfl, rfl, rfl, rfl⟩, ⟨.inl rfl, rfl, rfl, rfl⟩, ⟨.inl rfl, rfl, rfl, rfl⟩⟩

theorem wit_resets :
    (withPwr (fun p => { p with powered := false }) State.reset).pwr.powered = false ∧ stby.pwr.powered = true ∧
    stby.sup.mode ≠ .sleep ∧ retryingPod stby = none ∧ retryingPod (inMode .descend) = none ∧ (held 1).pwr.held = true ∧
    (held 33).pwr.srcs.testBit 4 = false ∧ (held 16).pwr.srcs = 2 ^ 4 ∧ (inMode .sleep).pwr.held = false ∧
    (inMode .sleep).sleep.wake = none ∧ (inMode .sleep).sleep.entered = false ∧
    (let s := { inMode .sleep with sleep := { Sleep.reset with entered := true } }
     s.sup.mode = .sleep ∧ s.sleep.entered = true ∧ s.sleep.wake = none) := by decide

theorem wit_collapse :
    (∀ m ∈ [Mode.boot, .ascend, .service, .crash],
      let s := inMode m
      s.pwr.powered = true ∧ s.pwr.held = false ∧ s.recs.scanned = true ∧ s.sup.mode = m) ∧
    (let q := pod (modPod (inMode .run) 47 fun q => { q with inUse := true, retryActive := true, st := .rising }) 47
     q.inUse = true ∧ q.retryActive = true ∧ q.st = .rising) := by decide

theorem wit_collapse_rest (m : Mode) : nvmAtRest (inMode m) ∧
    nvmAtRest (modPod (inMode m) 47 fun q => { q with inUse := true, retryActive := true, st := .rising }) :=
  ⟨⟨.inl rfl, rfl, rfl, rfl⟩, .inl rfl, rfl, rfl, rfl⟩

theorem wit_collapse_job :
    let s := withRec (fun r => { r with commit := .busy false true, job := List.replicate 256 0 }) (held 2)
    s.pwr.powered = true ∧ s.pwr.held = true ∧ s.recs.commit = .busy false true ∧ s.recs.job.length = 256 :=
  ⟨rfl, rfl, rfl, List.length_replicate⟩

theorem wit_boot :
    (let s := State.reset
     running s = true ∧ s.sup.mode = .boot ∧ s.boot.hold = false ∧ s.boot.crystalDone = false ∧ s.boot.memDone = false ∧
     s.boot.logicDone ≠ 63 ∧ s.boot.ringDone = false ∧ s.boot.imageDone = false) ∧
    (let s := { State.reset with boot := { State.reset.boot with memDone := true } }
     s.boot.memDone = true ∧ get s.bist.part 0 5 = 0 ∧ get s.bist.part 0 0 = 0) ∧
    (let s := { State.reset with boot := { State.reset.boot with memDone := true, hold := true, cause := 2 } }
     s.boot.hold = true ∧ s.boot.cause = 2) ∧
    131071 < ([1048576, 262144, 196608, 98304, 98304, 131072] : List Nat).getD 5 0 ∧
    (let s := { State.reset with boot := { State.reset.boot with imageDone := true } }
     s.boot.imageDone = true ∧ s.boot.refFrames ≠ 0) := by decide

/-- The expected signature is the model's free value: a run that ends with it passes, and one that ends a bit beside it
does not. -/
theorem wit_signature (p : Nat) :
    (Config.expectedSig p).toNat % 2 ^ 32 = (Config.expectedSig p).toNat ∧
    ((Config.expectedSig p).toNat ^^^ 1) % 2 ^ 32 ≠ (Config.expectedSig p).toNat := by
  have h := (Config.expectedSig p).isLt
  refine ⟨Nat.mod_eq_of_lt h, ?_⟩
  rw [Nat.mod_eq_of_lt (Nat.xor_lt_two_pow h (by decide))]
  intro e
  have := congrArg (· ^^^ (Config.expectedSig p).toNat) e
  simp [Nat.xor_comm] at this

/-- A blank image of a generation (R381). -/
def imageBytes (gen : Nat) : List Byte :=
  let h := bytes 2 0x4F49 ++ bytes 2 1 ++ bytes 4 84 ++ bytes 4 7 ++ bytes 4 gen ++ List.replicate 64 0
  h ++ bytes 4 (crc32 h)

def loading (a b : List Byte) : State :=
  { State.reset with
    boot := { (inMode .boot).boot with imageDone := false }
    recs := { State.reset.recs with nvm := nvmPut (nvmPut [] 0 a) 0x20000 b } }

theorem wit_image_load :
    (let s := loading [] []
     running s = true ∧ s.boot.hold = false ∧ s.boot.crystalDone = true ∧ s.boot.memDone = true ∧
     s.boot.logicDone = 63 ∧ s.boot.ringDone = true ∧ s.boot.imageDone = false ∧
     checkBank s.recs.nvm s.image false = 11 ∧ checkBank s.recs.nvm s.image true = 11) ∧
    (let s := loading [0x4F, 0x49, 0, 1] []
     checkBank s.recs.nvm s.image false = 2 ∧ checkBank s.recs.nvm s.image true = 11) := by decide

set_option maxRecDepth 20000 in
theorem wit_image_good :
    let s := loading (imageBytes 3) []
    checkBank s.recs.nvm s.image false = 1 ∧ checkBank s.recs.nvm s.image true ≠ 1 := by decide

set_option maxRecDepth 20000 in
theorem wit_image_newer :
    let s := loading [] (imageBytes 4)
    checkBank s.recs.nvm s.image true = 1 ∧ checkBank s.recs.nvm s.image false ≠ 1 := by decide

def asleep (retained : Bool) (f : Sleep → Sleep) : State :=
  { withPwr (fun p => { p with retained := retained })
      (withCfg [(0x0200, 9, 0xE0FF), (0x1A40, 8, 0xE500), (0x1A04, 1, 0x8000), (0x1A05, 1, 0x8000)] (powered (inMode .sleep))) with
    sleep := f State.reset.sleep
    twi := { State.reset.twi with set := { State.reset.twi.set with ctrl := 0x8000 } } }

theorem wit_sleep :
    (let s := asleep true id
     s.pwr.powered = true ∧ s.pwr.held = false ∧ s.sup.mode = .sleep ∧ s.sleep.entered = false ∧ s.sleep.wake = none ∧
     s.pwr.retained = true) ∧
    (let s := asleep false fun x => { x with wake := some .timer }
     s.pwr.retained = false ∧ s.sleep.entered = false ∧ s.sleep.wake = some .timer) ∧
    (let s := asleep true fun x => { x with entered := true }
     s.sleep.entered = true ∧ s.sleep.wake = none ∧ (act s 0x0200 9).testBit 13 = true ∧ pevLive s 7 = true ∧
     (act s 0x0200 9).testBit 7 = true ∧ pevWants s 7 true = true ∧ (act s 0x0200 9).testBit 14 = true ∧
     twiConnected s = true ∧ twiMatches s 0x50 = true ∧ s.twi.ready = false ∧
     s.twi.set.ctrl.testBit 15 = true) ∧
    (let s := asleep true fun x => { x with entered := true, wake := some (.pin 7) }
     s.sleep.entered = true ∧ s.sleep.wake = some (.pin 7) ∧ s.sup.line.low = false ∧ s.boot.imageDone = true ∧
     s.boot.hold = false) := by decide

theorem wit_monitors :
    stby.pwr.powered = true ∧ stby.pwr.held = false ∧ (held 1).pwr.powered = true ∧ (held 1).pwr.held = true ∧
    (inMode .sleep).sup.supply.banks.testBit 9 = false ∧ running stby = true ∧ serviceable stby.sup.mode = true ∧
    stby.sup.supply.warn.testBit 12 = false ∧ warnCondition stby 12 = true ∧ warnCondition stby 13 = false ∧
    stby.sup.supply.tempWarn = false ∧ stby.sup.supply.banks.testBit 8 = false ∧
    (powered stby).sup.supply.banks.testBit 9 = true ∧
    (let s := { stby with clk := { stby.clk with crystal := true, failGates := 1 } }
     s.clk.crystal = true ∧ 0 < s.clk.failGates ∧ 959 < 960 ∧ 1088 < 1089) := by decide

/-- R355: frames 255, 256 and 512 behind a measurement in frame 3, and a device that has made none. -/
theorem wit_measuring :
    let at' (f : Nat) : State := modSupply (at' ((3 + f) * 512) stby) fun u => { u with measured := some 3 }
    stby.sup.supply.measured = none ∧
    (∀ f ∈ [256, 512], 3 < frame (at' f) ∧ (frame (at' f) - 3) % 256 = 0) ∧ ¬ (frame (at' 255) - 3) % 256 = 0 ∧
    ¬ 3 < frame (at' 0) ∧ running (at' 0) = true := by decide

/-! ## CAN FD and the two-wire target -/

/-- Both ports are on and their buses connected, by pins 0 to 3; maps 0 and 15 publish the odd frames. -/
def ported (f : CanPort → CanPort) (t : Nat) : State :=
  let s := withCfg ([(0x1C00, 1, 0x80A3), (0x1C00, 6, 2), (0x1C01, 1, 0x80A3), (0x1C10, 1, 0x8101), (0x1C10, 2, 2),
    (0x1C10, 3, 1), (0x1C1F, 1, 0x8203), (0x1C1F, 2, 2), (0x1C1F, 3, 1)] ++
    (List.range 4).map fun n => (0x1A00 + n, 1, 0x8000)) (at' t (powered stby))
  { s with canA := f s.canA }

def waiting (id : Nat) (m : Option Nat) : Frame := { id := id, payload := [], lastSeg := true, pubMap := m }

/-- An announce that waits behind an EVENT frame. -/
def announceFrame : Frame := { id := 3 * 128, payload := [0, 1], lastSeg := false, pubMap := none }

theorem wit_can :
    portLive (ported id 5) .a = true ∧ portLive (ported id 5) .b = true ∧ (port (ported id 5) .a).err ≠ 2 ∧
    canHears (ported id 5) .a = true ∧ canHears (ported id 5) .b = true ∧ portSends (ported id 5) .a = true ∧
    portSends (ported id 5) .b = true ∧ reachable (ported id 5) = true ∧
    (ported id 5).canA.queue.length < 16 ∧ 7 ≠ nodeId (ported id 5) .a ∧
    16 ≤ (ported (fun c => { c with queue := List.replicate 16 [] }) 5).canA.queue.length ∧
    (ported (fun c => { c with out := [waiting 905 none] }) 5).canA.out = waiting 905 none :: [] ∧
    (let s := ported (fun c => { c with announce := true, out := [waiting 256 none] ++ announceFrame :: [] }) 5
     s.canA.announce = true ∧ s.canA.out = [waiting 256 none] ++ announceFrame :: [] ∧ announceFrame.id / 128 = 3 ∧
     (announceFrame.payload.getD 0 0).toNat = 0 ∧ announceFrame ∉ [waiting 256 none] ∧ announceFrame.payload ≠ []) ∧
    (∀ m ∈ [Mode.sleep, .run],
      let s := { inMode m with canA := { State.reset.canA with finishing := true, out := [waiting 905 none] } }
      s.pwr.powered = true ∧ s.pwr.held = false ∧ s.sleep.entered = false ∧ s.canA.finishing = true ∧ s.canA.err ≠ 2 ∧
      portSends s .a = false ∧ s.canA.out = waiting 905 none :: []) ∧
    (let s := withCfg [(0x1C00, 1, 0)] (ported (fun c => { c with inRecv := some 5 }) 5)
     canHears s .a = true ∧ portLive s .a = false ∧ testing s (portPart .a) = false ∧ s.canA.inRecv = some 5 ∧
     reachable s = true ∧ s.canA.queue.length < 16) ∧
    (let s := ported id 399900
     let due := s.canA.hbLast + act s (portIdx .a) 6 * 200000
     let u := advance s due
     serviceable s.sup.mode = true ∧ act s (portIdx .a) 6 ≠ 0 ∧ due / 512 ≤ (at' 400000 s).clk.time / 512 ∧
     portLive u .a = true ∧ serviceable u.sup.mode = true ∧ u.canA.hbLast = s.canA.hbLast) ∧
    (let s := ported (fun c => { c with err := 2, ctrlSet := true }) 5
     s.canA.err = 2 ∧ s.canA.ctrlSet = true ∧ 0 ≠ s.canA.err) := by decide

theorem wit_event_publish :
    (let s := ported (fun c => { c with pend := [(1, 3), (63, 4)], out := [waiting 905 none] }) 5
     portLive s .a = true ∧ serviceable s.sup.mode = true ∧ s.canA.pend ≠ [] ∧ (∀ f ∈ s.canA.out, f.id / 128 ≠ 2)) ∧
    (let s := ported (fun c => { c with out := [waiting 1157 (some 0)] }) 1024
     s.clk.time % 512 = 0 ∧ 512 ≤ s.clk.time ∧ (act s 0x1C10 1).testBit 15 = true ∧ act s 0x1C10 1 / 256 % 4 = 1 ∧
     (get s.publish Publish.reset 0).cfgErr = false ∧ (s.clk.time / 512 - 1) % act s 0x1C10 2 = act s 0x1C10 3 ∧
     (get s.publish Publish.reset 0).last ≠ some (s.clk.time / 512 - 1) ∧ (∃ g ∈ s.canA.out, g.pubMap = some 0) ∧
     act s (0x1C10 + 15) 1 / 256 % 4 = 2 ∧ (act s (0x1C10 + 15) 1).testBit 15 = true ∧ (∀ g ∈ s.canB.out, g.pubMap ≠ some 15)) := by
  decide

theorem wit_event_quiet : quiet (ported (fun c => { c with pend := [(1, 3), (63, 4)], out := [waiting 905 none] }) 5) :=
  ⟨rfl, rfl, rfl⟩

/-- Event 61 of BOOT-HOLD. -/
theorem wit_event_hold :
    let s := ported (fun c => { c with pend := [(61, 4)] }) 5
    let s := { s with sup := { s.sup with mode := .boot }, boot := { s.boot with hold := true, cause := 3 } }
    portLive s .a = true ∧ s.canA.pend ≠ [] ∧ s.canA.out = [] := by decide

/-- A malformed request, a READ of POD_CFG(47) and a WRITE of CHAN_CFG(3). -/
def oneRequest (bs : List Byte) : State := ported (fun c => { c with queue := [bs] }) 4128

theorem wit_odp :
    let s := oneRequest [1]
    let u := advance s (s.clk.time / 512 * 512 + 32)
    reachable s = true ∧ testing s 1 = false ∧ s.clk.time / 512 % 8 = 0 ∧ s.clk.time % 512 ≤ 32 ∧
    s.odp.frame ≠ s.clk.time / 512 + 1 ∧ reachable u = true ∧ testing u 1 = false ∧ u.odp.frame = s.odp.frame ∧
    u.clk.time = s.clk.time / 512 * 512 + 32 ∧ u.odp.job = none ∧ inHoldNow u = false ∧
    u.canA.dropTag = none ∧ u.canB.dropTag = none ∧ u.canA.queue = [1] :: [] ∧ u.canA.bufs < 2 ∧ u.canB.queue = [] ∧ portFree u = true ∧
    parseRequest u [1] = none := by decide

set_option maxRecDepth 20000 in
theorem wit_odp_items (s : State) (h : s = advance (oneRequest []) 4128) :
    (parseRequest s [0x11, 9, 1, 0x10, 0x5F, 6, 1] = some (false, [(0x1000 + 95, 6, [0])]) ∧
     (fieldOf (0x1000 + 95) 6).map (fun f => (f.acc, f.words)) = some (.rws, 1)) ∧
    (parseRequest s [0x11, 9, 1, 0x10, 0x00, 24, 1] = some (false, [(0x1000 + 0, 24, [0])]) ∧
     (fieldOf (0x1000 + 0) 24).map (fun f => (f.acc, f.words)) = some (.rws, 4)) ∧
    (parseRequest s [0x12, 8, 1, 0x10, 3, 6, 1, 0, 9] = some (true, [(0x1003, 6, [9])]) ∧
     (fieldOf 0x1003 6).map (fun f => (f.acc, f.words)) = some (.rws, 1) ∧
     admits s (portReq .a) 0x1003 6 9 = true ∧ (req s .cana).staged.length < 128) := by
  subst h
  exact ⟨⟨rfl, by decide⟩, ⟨rfl, by decide⟩, rfl, by decide, by decide, by decide⟩

/-- A READ of CHAN_CFG(0) subindexes 24 to 32, eighteen words and more, in each of 15 items of 18. -/
def largeItems : List (Nat × Nat × List Nat) := List.replicate 15 (0x1000, 24, List.replicate 18 0)

set_option maxRecDepth 20000 in
theorem wit_odp_large : parseRequest (oneRequest []) ([0x11, 9, 15] ++ (List.replicate 15 [0x10, 0x00, 24, 18]).flatten) =
    some (false, largeItems) := rfl

theorem wit_odp_words : itemWords (oneRequest []) (List.replicate 2 (0x1000, 24, List.replicate 18 0)) = 58 := by decide

/-- The second word of an identity READ, and the last one. -/
def inService (word : Nat) : State := { ported id 4130 with
  odp := { job := some { port := .a, vo := 0x11, tag := 7, work := [.read 0x0100 4], word := word, data := [1, 2] }, frame := 9 } }

theorem wit_odp_ticks :
    (∀ k ∈ [1, 3], running (inService k) = true ∧ (inService k).pending = [] ∧ (inService k).clk.time % 512 ≠ 511 ∧
      (inService k).sup.crash.lockNext = false ∧ (inService k).twin = none ∧ (inService k).eng.st = .halted ∧
      (inService k).eng.tacts = [] ∧ (inService k).eng.stall = 0 ∧ (inService k).eng.rows = []) ∧
    1 + 1 < widthNow (inService 1) 0x0100 4 ∧ widthNow (inService 3) 0x0100 4 ≤ 3 + 1 := by decide

theorem wit_odp_rests : ∀ k ∈ [1, 3], lineRests (inService k) ∧ accessRests (inService k) := by
  unfold accessRests lineRests; decide

theorem wit_odp_object : ∀ m, objOf 0x1003 ≠ some (.publish m) := nofun

def target (f : Twi → Twi) (t : Nat) : State :=
  let s := withCfg [(0x1D00, 1, 0x8000), (0x1A04, 1, 0x8000), (0x1A05, 1, 0x8000)] (at' t (powered svc))
  { s with twi := f { s.twi with ready := true, set := { s.twi.set with ctrl := 0x8000 } } }

theorem wit_twi :
    (let s := target id 5
     running s = true ∧ s.twi.ready = true ∧ s.boot.addrSel < 0x28 ∧ twiConnected s = true ∧
     s.twi.set.ctrl.testBit 15 = true ∧ testing s 1 = false) ∧
    (let s := { target id 5 with bist := { State.reset.bist with run := some (1, 0) } }
     testing s 1 = true ∧ s.twi.set.ctrl.testBit 15 = true) ∧
    (let s := target (fun w => { w with set := { w.set with ctrl := 0x8004, extra2 := 0x77 } }) 5
     0x07 < 0x77 ∧ 0x77 < 0x78 ∧ s.twi.set.ctrl.testBit 4 = false ∧ s.twi.set.ctrl.testBit 2 = true ∧ s.twi.set.extra2 = 0x77 ∧
     s.twi.set.ctrl.testBit 15 = true ∧ twiConnected s = true) ∧
    (let s := target (fun w => { w with set := { w.set with ctrl := 0x8011, extra0 := 0x30, extra1 := 3 } }) 5
     s.twi.set.ctrl.testBit 4 = true ∧ s.twi.set.ctrl.testBit 0 = true ∧
     ∀ k, k < 7 → s.twi.set.extra1.testBit k = true ∨ (0x33).testBit k = s.twi.set.extra0.testBit k) ∧
    (let s := { target (fun w => { w with phase := .write 0 }) 5 with image := { Image.reset 0 false false with busy := true } }
     s.twi.phase = .write 0 ∧ 0x1F * 256 + 0 = 0x1F00 ∧ s.image.busy = true) ∧
    (target (fun w => { w with set := { w.set with ctrl := 0 } }) 5).twi.set.ctrl.testBit 15 = false ∧
    (let s := { target id 5 with sup := { stby.sup with supply := { stby.sup.supply with banks := 0xFF } } }
     twiConnected s = false) := by decide

theorem wit_twi_words :
    (let s := target (fun w => { w with phase := .write 3, index := 0x0302, sub := 1, word := 3 }) 5
     s.twi.phase = .write 3 ∧ s.twi.chunkTx = false ∧ twiConnected s = true) ∧
    (let w : TwiFetch := { time := 3, val := 65535, cand := none }
     let s := target (fun x => { x with phase := .read, index := 0x122F, sub := 3, loaded := some w }) 50
     s.twi.phase = .read ∧ s.twi.word = 0 ∧ s.twi.loaded = some w ∧ widthNow s s.twi.index s.twi.sub = 1 ∧ w.cand = none) ∧
    (let w : TwiFetch := { time := 3, val := 5, cand := some { key := 0x105F * 256 + 18, val := 6, words := 2 } }
     let s := target (fun x => { x with phase := .read, index := 0x105F, sub := 18, loaded := some w }) 50
     s.twi.index = 0x1000 + 95 ∧ (fieldOf s.twi.index s.twi.sub).map (fun f => (f.acc, f.words)) = some (.rws, 2) ∧
     inHoldNow s = false ∧ w.cand.isSome = true) ∧
    (let s := target (fun w => { w with waiting := [{ key := 0x1003 * 256 + 6, wordNo := 0, val := 9 }] }) 12
     let u := advance s 16
     mayAccess s .twi = true ∧ s.clk.time % 512 ≤ 16 ∧ s.twi.accessed ≠ s.clk.time / 512 + 1 ∧ mayAccess u .twi = true ∧
     u.twi.accessed = s.clk.time / 512 + 1) ∧
    (∀ t ∈ [15, 16],
      let s := target (fun w => { w with waiting := [{ key := 0x1003 * 256 + 6, wordNo := 0, val := 9 }] }) t
      let u := if s.clk.time % 512 = 16 then s else passCycles (newTick (endTick s) (s.clk.time / 512 * 512 + 16))
      mayAccess s .twi = true ∧ s.twi.accessed ≠ s.clk.time / 512 + 1 ∧ mayAccess u .twi = true ∧
      u.twi.accessed = s.twi.accessed ∧ u.sup.crash.lockNext = false ∧ u.odp.job = none ∧
      u.twi.waiting = { key := 0x1003 * 256 + 6, wordNo := 0, val := 9 } :: [] ∧
      admits u .twi 0x1003 6 9 = true ∧ u.reqT.staged.length < 128) ∧
    (let s := target (fun w => { w with index := 0x122F, sub := 3 }) 15
     let u := passCycles (newTick (endTick s) 16)
     twiOn u = true ∧ u.twi.waiting = [] ∧ u.twi.loaded = none ∧ u.twi.index = 0x1200 + 47 ∧ u.twi.word = 0 ∧
     (fieldOf u.twi.index u.twi.sub).isSome = true ∧ widthOf u.twi.index u.twi.sub = 1 ∧ inHoldNow u = false) ∧
    (let s := { target (fun w => { w with phase := .write 3, chunkTx := true }) 5 with
       image := { Image.reset 0 false false with openUpd := true, updLen := 84 } }
     s.twi.chunkTx = true ∧ s.twi.phase = .write 3 ∧ s.twi.chunk = [] ∧ admits s .twi 0x1F00 16 0 = true ∧
     s.image.openUpd = true ∧ s.image.busy = false ∧ s.image.addr < s.image.updLen) ∧
    56 ≤ (target (fun w => { w with chunkTx := true, chunk := List.replicate 56 1 }) 5).twi.chunk.length := by decide

/-! ## Pins, counters, the gallery and self-test -/

/-- PODREQ 14 and 5 on pins 14 and 5; event line 0 without and line 7 with debouncing. -/
def pinned (m : Mode) (t : Nat) : State :=
  withCfg [(0x1200, 3, 14), (0x1200, 4, 2), (0x1A05, 1, 0x2000), (0x1A0E, 1, 0x2000), (0x1A40, 1, 0x8000), (0x1A40, 8, 0xC205)]
    (at' t (powered (inMode m)))

theorem wit_pins :
    (let s := pinned .run 5
     running s = true ∧ podSupplier s 14 = some 14 ∧ podSupplier s 5 = some 5 ∧ bankGood s 14 = true ∧
     edgeless s 14 = false ∧ serviceable s.sup.mode = true ∧ (podCfg s 0 4).testBit 1 = true ∧ podCfg s 0 3 = 14 ∧
     pevLive s 0 = true ∧ pevDeb s 0 = 0 ∧ pevWants s 0 true = true ∧ pevLive s 7 = true ∧ pevDeb s 7 ≠ 0) ∧
    (pinned .service 5).sup.mode = .service ∧
    (let s := { pinned .run 16 with pins := { (pinned .run 16).pins with evoPulse := [(7, 1)] } }
     let u := advance s (0 + 16)
     get s.pins.evoPulse 0 7 = 0 + 1 ∧ (0 + 16) / 512 ≤ s.clk.time / 512 ∧ running u = true ∧ u.evq = [] ∧
     get u.pins.evoPulse 0 7 = 0 + 1) := by decide

theorem wit_counters :
    (let s := { stby with ctrs := [(41, { count := 0xFFFFFFFF, ovf := false })] }
     running s = true ∧ selOf s 41 ≠ 0 ∧ (get s.ctrs Ctr.reset 41).count = 0xFFFFFFFF ∧ s.pending = [] ∧
     s.clk.time % 512 ≠ 511) ∧
    (let s := { at' 60 stby with gal := { Gallery.reset with dump := some (3, List.replicate 42 Ctr.reset) } }
     let u := advance s 64
     s.gal.dump.isSome = true ∧ s.clk.time % 512 ≤ 64 ∧ running u = true ∧ u.clk.time = 64 ∧
     u.gal.dump = some (3, List.replicate 42 Ctr.reset) ∧ (List.replicate 42 Ctr.reset).length = 42 ∧
     testing u 5 = false) ∧
    (let s := { withCfg ((0x1980, 1, 0xF003) :: [19, 20, 21, 22, 23].map fun n => (0x1A00 + n, 1, 0x8000)) (powered stby) with
       gal := { Gallery.reset with fifo := [[5, 6], [7]] } }
     s.gal.fifo = [5, 6] :: [[7]] ∧ traceActive s = true ∧ testing s 5 = false ∧ s.evq = [] ∧ s.gal.drops = 0) := by decide

theorem wit_counters_rest : tickRests { stby with ctrs := [(41, { count := 0xFFFFFFFF, ovf := false })] } := by
  unfold tickRests accessRests lineRests; decide

/-- The grid of scheduling points has its next one at 200000, with the shortest interval. -/
def selfTest (ctl t : Nat) (f : Bist → Bist) : State :=
  let s := withCfg [(0x1E00, 1, ctl), (0x1E00, 2, 1)] (at' t stby)
  { s with bist := f s.bist }

theorem wit_bist :
    (∀ e ∈ [(0x1F, id), (0x8010, fun b : Bist => { b with testNow := some 1 }), (0x8010, id),
        (0x8010, fun b => { b with first := some 4 })],
      let s := selfTest e.1 200100 e.2
      let u := advance s 200000
      running s = true ∧ serviceable s.sup.mode = true ∧ nextPoint s = 200000 ∧ nextPoint s / 512 ≤ s.clk.time / 512 ∧
      running u = true ∧ serviceable u.sup.mode = true ∧ nextPoint u = 200000 ∧ u.bist.run = none) ∧
    (testCtrl (selfTest 0x1F 0 id)).testBit 15 = false ∧ (testCtrl (selfTest 0x8010 0 id)).testBit 15 = true ∧
    nextPart (selfTest 0x8010 200100 id) = some 5 ∧
    (∀ p ∈ [1, 2, 3, 4, 5],
      let s := selfTest 0x801F (512 * 801) fun b => { b with sched := some (p, 200000) }
      serviceable s.sup.mode = true ∧ s.clk.time % 512 = 0 ∧ 200000 ≤ s.clk.time ∧ s.clk.time ≤ 200000 + 4096 * 512 ∧
      s.clk.time / 512 % 8 = 1 ∧ s.twi.engaged = false ∧ s.image.busy = false ∧ s.eng.st = .halted) ∧
    200000 + 4096 * 512 < (selfTest 0x801F 2297153 id).clk.time ∧
    (∀ e ∈ [(1, 625), (2, 500), (3, 300), (4, 300), (5, 400)],
      let s := selfTest 0x9F1F (512 * (1 + e.2)) fun b => { b with run := some (e.1, 1) }
      s.clk.time = (1 + ([0, 625, 500, 300, 300, 400] : List Nat).getD e.1 0) * 512 ∧
      s.bist.halt = false ∧ s.eng.startReq = false ∧ (e.1 = 1 ∨ (testCtrl s).testBit (7 + e.1) = true) ∧
      (testCtrl (selfTest 0x1F 0 id)).testBit (7 + e.1) = false) ∧
    (let s := withEng (fun e => { e with st := .trapped }) (selfTest 0x1F (512 * 501) fun b => { b with run := some (2, 1), halt := true })
     s.clk.time = (1 + 500) * 512 ∧ s.bist.run = some (2, 1) ∧ s.bist.halt = true ∧ s.eng.startReq = false ∧
     s.eng.st = .trapped) := by decide

/-! ## Boundaries -/

theorem awaits_none (m : Mode) (t : Nat) : nothingAwaits (at' t (inMode m)) :=
  ⟨rfl, rfl, rfl, rfl, fun r => by cases r <;> rfl, rfl, rfl, rfl, fun _ => rfl⟩

theorem calm_inMode (m : Mode) (t : Nat) : calm (at' t (inMode m)) := by
  refine ⟨awaits_none m t, rfl, fun _ => ⟨rfl, rfl⟩, fun p hp => ?_⟩
  by_cases h : p = 0
  · subst h; exact ⟨nofun, nofun, rfl, rfl, rfl, fun _ => rfl⟩
  · have : pod (at' t (inMode m)) p = Pod.reset := by
      simp [pod, at', inMode, Sup.reset, Machine.get, Ne.symm h]
    rw [this] at hp; cases hp

/-- Tick 511 of a device with which nothing happens by itself is the state at its end. -/
theorem lastTick_rests (s : State) (h : s.clk.time % 512 = 511) (hs : tickRests s) : lastTick s s.pins.level = s := by
  have ht : s.clk.time - inFrame s 511 = 0 ∧ inFrame s 511 - s.clk.time = 0 := by
    simp only [inFrame, frame, frameOf]; omega
  simp [lastTick, advance, passUntil, ht.2, endTick_rests hs]

theorem wit_boundary :
    (let s := at' 511 stby
     calm s ∧ lastTick s s.pins.level = s) ∧ serviceable (at' 511 stby).sup.mode = true ∧ running (at' 511 stby) = true :=
  ⟨⟨calm_inMode _ _, lastTick_rests _ (by decide) (by unfold tickRests accessRests lineRests; decide)⟩, rfl, rfl⟩

theorem wit_set :
    let s := withReq .canb (fun q => { q with sets := [[(0x1003 * 256 + 255, 2)]] }) (at' 511 stby)
    0x1003 < 0x1A00 ∧ s.accepted = [] ∧ s.odp.job = none ∧ s.hostQ = [] ∧ s.sup.crash.lockNext = false ∧ s.sup.crash.clearing = false ∧
    (req s .canb).sets = [[(0x1003 * 256 + 255, 2)]] ∧ (∀ q, q ≠ .canb → (req s q).sets = []) ∧ lastTick s s.pins.level = s :=
  ⟨by decide, rfl, rfl, rfl, rfl, rfl, rfl, fun q h => by cases q <;> first | rfl | exact absurd rfl h,
    lastTick_rests _ (by decide) (by unfold tickRests accessRests lineRests; decide)⟩

def starting : State :=
  withEng (fun e => { e with startReq := true, intLen := 1 }) (withCfg [(0x1800, 1, 1)] (at' 511 stby))

/-- An engine in WAITF in tick 511, with a NOP behind it. -/
def paused : State := withEng (fun e => { e with st := .waitf, prog := [(1, 0x04000000)] }) (at' 511 stby)

def debounced : State :=
  { pinned .run 511 with pins := { (pinned .run 511).pins with pev := [(7, { level := true, cnt := 4 })] } }

def lastCheck : State := at' 511 { State.reset with boot := { (inMode .boot).boot with refFrames := 1 } }

set_option maxRecDepth 4000 in
theorem wit_paused :
    let u := lastTick paused paused.pins.level
    paused.eng.st = .waitf ∧ engTested paused = false ∧ running u = true ∧ u.eng.st = .waitf ∧ engTested u = false ∧
    u.eng.ie = false ∧ u.eng.skid = none ∧ u.eng.tacts = [] ∧ u.eng.busy = 0 ∧ u.eng.rows = [] ∧ u.now.samples = [] ∧
    inRegion u.eng (u.eng.pc + 1) = true ∧
    get u.eng.prog 0 (u.eng.pc + 1).toNat = 0x04000000 ∧ u.clk.time = 511 := by decide

set_option maxRecDepth 20000 in
theorem wit_paused_calm : calm (lastTick paused paused.pins.level) := by
  have h : lastTick paused paused.pins.level = paused := rfl
  rw [h]
  exact ⟨⟨rfl, rfl, rfl, rfl, fun r => by cases r <;> rfl, rfl, rfl, rfl, fun _ => rfl⟩, rfl, fun _ => ⟨rfl, rfl⟩,
    (calm_inMode .standby 511).2.2.2⟩

theorem wit_boundary_effects :
    (startDue starting = true ∧ (act starting 0x1800 1).testBit 0 = true ∧ partDisabled starting 2 = false ∧
     0 < starting.eng.intLen ∧ startDue stby = false) ∧
    stby.eng.st ≠ .waitf ∧ pevDue debounced 7 = true ∧ pevDue debounced 0 = false ∧
    (let s := lastCheck
     s.sup.mode = .boot ∧ s.boot.hold = false ∧ s.boot.imageDone = true ∧ s.boot.refFrames = 1 ∧ s.sup.line.low = false) ∧
    (inMode .boot).boot.refFrames ≠ 1 := by decide

theorem wit_boundary_effects_await : ∀ s ∈ [starting, debounced, lastCheck],
    nothingAwaits s ∧ running s = true ∧ lastTick s s.pins.level = s := by
  intro s h
  simp only [List.mem_cons, List.not_mem_nil, or_false] at h
  obtain rfl | rfl | rfl := h <;>
    exact ⟨⟨rfl, rfl, rfl, rfl, fun r => by cases r <;> rfl, rfl, rfl, rfl, fun _ => rfl⟩, rfl,
      lastTick_rests _ (by decide) (by unfold tickRests accessRests lineRests; decide)⟩

def autoClearing : State :=
  withCfg [(0x1600, 4, 0x101), (0x1600, 5, 1)] (crashed id id (at' (512 * 4096 + 511) (inMode .crash)))

theorem wit_auto_clear :
    let s := autoClearing
    s.sup.mode = .crash ∧ s.recs.commitEnded = true ∧ s.sup.line.arb = .done ∧ s.sup.crash.clearing = false ∧
    (lineCfg s 4).testBit 0 = true ∧ s.sup.crash.autoUsed < lineCfg s 4 / 256 % 16 ∧
    s.sup.crash.time / 512 + 1 + lineCfg s 5 * 4096 ≤ s.clk.time / 512 + 1 ∧ s.sup.crash.cause = 7 := by decide

theorem wit_auto_clear_calm : calm autoClearing ∧ lastTick autoClearing autoClearing.pins.level = autoClearing :=
  ⟨⟨⟨rfl, rfl, rfl, rfl, fun r => by cases r <;> rfl, rfl, rfl, rfl, fun _ => rfl⟩, rfl, fun _ => ⟨rfl, rfl⟩, (calm_inMode .crash 0).2.2.2⟩,
    lastTick_rests _ (by decide) (by unfold tickRests accessRests lineRests; decide)⟩

/-- A MODE_REQ value that waits for the boundary, with the timer as the one wake source. -/
def wanting (m : Mode) (v : Nat) (f : Line → Line) : State := { withCfg [(0x0200, 9, 0x2000)] (at' 511 (withLine f (inMode m))) with
  accepted := [{ ask := .mode v, src := .port .canb, time := 300 }] }

theorem wit_mode_calm (m : Mode) (v : Nat) : calm { wanting m v id with accepted := [] } :=
  ⟨⟨rfl, rfl, rfl, rfl, fun r => by cases r <;> rfl, rfl, rfl, rfl, fun _ => rfl⟩, rfl, fun _ => ⟨rfl, rfl⟩, (calm_inMode m 511).2.2.2⟩

/-- A FAULT stands on the line as SERVICE is left. -/
def faulty (l : Line) : Line := { l with others := true, low := true, fault := true }

theorem wit_modes :
    (∀ m ∈ [Mode.standby, .run, .service, .crash], ∀ v ∈ [3, 4, 5, 6],
      let s := wanting m v id
      running s = true ∧ serviceable s.sup.mode = true ∧ s.sup.mode = m ∧ s.sup.line.low = false ∧
      (req s .canb).modeStat ≠ 4 ∧ s.accepted = [{ ask := .mode v, src := .port .canb, time := 300 }] ∧
        (act s 0x0200 9).testBit 13 = true) ∧
    (∀ k ∈ [0, 1, 2, 3, 4, 5, 6, 7, 13, 14], (act (withCfg [(0x0200, 9, 0x8000)] stby) 0x0200 9).testBit k = false) ∧
    (let s := wanting .service 4 faulty
     s.sup.line.low = true ∧ s.sup.line.fault = true ∧ s.recs.huskBusy = none) ∧
    (wanting .crash 6 id).recs.commitEnded = false ∧
    (withRec (fun r => { r with commitEnded := true }) (wanting .crash 6 id)).recs.commitEnded = true := by decide

/-- Tick 511 changes none of these devices. -/
theorem wit_mode_rests : ∀ s ∈ [wanting .standby 3 id, wanting .service 4 faulty, wanting .standby 5 id, wanting .crash 6 id],
    lastTick s s.pins.level = s := by
  intro s h
  simp only [List.mem_cons, List.not_mem_nil, or_false] at h
  obtain rfl | rfl | rfl | rfl := h <;>
    exact lastTick_rests _ (by decide) (by unfold tickRests accessRests lineRests; decide)

/-- Pod 0 with a flight of one entry. -/
def lone (m : Mode) (t e : Nat) (f : Pod → Pod) : State :=
  withCfg [(0x1200, 2, 3), (0x1200, 8, 5), (0x1240, 1, 1), (0x1240, 32, e)] (modPod (at' t (inMode m)) 0 f)

/-- A rail of channel 95 with a deadline of 5 and an on-delay of 1, and a landing with a timeout of 5. -/
def railEntry : Nat := 2 ^ 62 + 95 * 2 ^ 48 + 2 ^ 32 + 5
def landing : Nat := 3 * 2 ^ 62 + 5

/-- The rail of channel 95 with a deadline of 5 and no delay, and with an off-delay of 9. -/
def quickEntry : Nat := 2 ^ 62 + 95 * 2 ^ 48 + 5
def slowEntry : Nat := quickEntry + 9 * 2 ^ 16

def waitingEntry : EntrySt := { EntrySt.reset with reached := true, waiting := true, start := 3 }

theorem wit_deadlines :
    (let s := lone .ascend 4095 railEntry fun q => { q with st := .rising, k := 1, ents := [(0, waitingEntry)] }
     running s = true ∧ retryEn s 0 = false ∧ failCrash s 0 = false ∧ (pod s 0).st = .rising ∧ (pod s 0).cooldown = none ∧
     (pod s 0).k = 1 ∧ (pod s 0).startFrame ≠ s.clk.time / 512 + 1 ∧ entType railEntry = 1 ∧ entArg railEntry < 96 ∧
     entOff railEntry = 0 ∧ entDl railEntry ≠ 0 ∧ (ent s 0 0).reached = true ∧ (ent s 0 0).waiting = true ∧
     (ent s 0 0).good = false ∧ (ent s 0 0).start + entDl railEntry * podUnit s 0 ≤ s.clk.time / 512 + 1) ∧
    (let s := lone .ascend 4095 landing fun q => { q with st := .rising, held := true, hf := 4 }
     (pod s 0).held = true ∧ (pod s 0).k = 0 ∧ entType landing = 3 ∧ entRel landing = 0 ∧ entDl landing ≠ 0 ∧
     entDl landing * podUnit s 0 ≤ (pod s 0).hf + 1 ∧ retryEn s 0 = false) ∧
    (let s := lone .ascend 4095 railEntry fun q => { q with st := .rising, cooldown := some 5 }
     (pod s 0).cooldown = some 5 ∧ 5 + podCfg s 0 2 * podUnit s 0 ≤ s.clk.time / 512 + 1 ∧ 0 < entOn railEntry) ∧
    (let s := lone .descend 4095 railEntry fun q => { q with st := .falling, dc := 4 }
     (pod s 0).st = .falling ∧ (pod s 0).descFrame ≠ s.clk.time / 512 + 1 ∧ (ent s 0 0).disd = false ∧
     (chan s (entArg railEntry)).disch = false ∧ podCfg s 0 8 * podUnit s 0 ≤ (pod s 0).dc + 1 ∧
     (pod s 0).retryActive = false ∧ timeoutCrash s 0 = false) := by decide

/-- What pod 0 of `lone` needs for lonePod. -/
def aloneAs (q : Pod) : Prop :=
  q.inUse = true ∧ q.parent = none ∧ q.failPend = false ∧ q.frozen = false ∧ q.latched = false ∧
  ∀ k, (get q.ents EntrySt.reset k).wantsQ = false

/-- What a device whose pod 0 is on its way needs for singlePod, whatever requests have been accepted. -/
theorem lone_singlePod (m : Mode) (e : Nat) (f : Pod → Pod) (l : List Request) (g : Map Chan)
    (h : aloneAs (f { Pod.reset with inUse := true }))
    (hd : ∀ c, c < 96 → disEn (disCfg (lone m 4095 e id) c) = false)
    (hc : flightCount (lone m 4095 e id) 0 = 1) (he : entryOf (lone m 4095 e id) 0 0 = e)
    (hg : ∀ c, (get g Chan.reset c).chatFail = none ∧ (get g Chan.reset c).descFault = false) :
    singlePod { lone m 4095 e f with accepted := l, sup := { (lone m 4095 e f).sup with chans := g } } e := by
  have h0 : pod (lone m 4095 e f) 0 = f { Pod.reset with inUse := true } := by
    show get (put Sup.reset.pods Pod.reset 0 _) Pod.reset 0 = _
    exact get_put_same ..
  have h1 : ∀ p, p ≠ 0 → pod (lone m 4095 e f) p = Pod.reset := fun p h => by
    show get (put Sup.reset.pods Pod.reset 0 _) Pod.reset p = _
    rw [get_put_other _ _ _ h]
    simp [Sup.reset, Machine.get, Ne.symm h]
  obtain ⟨a, b, c, d, i, k⟩ := h
  have hp : ∀ p, pod { lone m 4095 e f with accepted := l, sup := { (lone m 4095 e f).sup with chans := g } } p =
      pod (lone m 4095 e f) p := fun _ => rfl
  refine ⟨⟨rfl, rfl, rfl, rfl, fun r => by cases r <;> rfl, rfl, rfl, rfl, fun _ => rfl⟩, rfl, rfl, rfl, hg, hd,
    fun p => ?_, by rw [hp, h0]; exact b, by rw [hp, h0]; exact c, by rw [hp, h0]; exact d, by rw [hp, h0]; exact i,
    fun j => by unfold ent; rw [hp, h0]; exact k j, hc, he, rfl⟩
  by_cases h : p = 0
  · subst h; rw [hp, h0, a]; rfl
  · rw [hp, h1 p h]; simp [Pod.reset, h]

theorem lone_lonePod (m : Mode) (e : Nat) (f : Pod → Pod) (h : aloneAs (f { Pod.reset with inUse := true }))
    (hd : ∀ c, c < 96 → disEn (disCfg (lone m 4095 e id) c) = false)
    (hc : flightCount (lone m 4095 e id) 0 = 1) (he : entryOf (lone m 4095 e id) 0 0 = e) :
    lonePod (lone m 4095 e f) e :=
  ⟨lone_singlePod m e f [] [] h hd hc he fun _ => ⟨rfl, rfl⟩, rfl, fun _ => rfl⟩

theorem wit_lone_rising : lonePod (lone .ascend 4095 railEntry fun q =>
    { q with st := .rising, k := 1, ents := [(0, waitingEntry)] }) railEntry :=
  lone_lonePod _ _ _ ⟨rfl, rfl, rfl, rfl, rfl, fun k => by
    by_cases h : k = 0
    · subst h; rfl
    · simp [Machine.get, Ne.symm h, EntrySt.reset]⟩ (by decide) (by decide) (by decide)

theorem wit_lone_landing : lonePod (lone .ascend 4095 landing fun q => { q with st := .rising, held := true, hf := 4 }) landing :=
  lone_lonePod _ _ _ ⟨rfl, rfl, rfl, rfl, rfl, fun _ => rfl⟩ (by decide) (by decide) (by decide)

theorem wit_lone_cooldown :
    lonePod (lone .ascend 4095 railEntry fun q => { q with st := .rising, cooldown := some 5 }) railEntry :=
  lone_lonePod _ _ _ ⟨rfl, rfl, rfl, rfl, rfl, fun _ => rfl⟩ (by decide) (by decide) (by decide)

theorem wit_lone_falling : lonePod (lone .descend 4095 railEntry fun q => { q with st := .falling, dc := 4 }) railEntry :=
  lone_lonePod _ _ _ ⟨rfl, rfl, rfl, rfl, rfl, fun _ => rfl⟩ (by decide) (by decide) (by decide)

/-- Pod 0 of `lone`, admitted to hosts, with requests and one channel. -/
def asked (m : Mode) (l : List Ask) (g : Map Chan) (f : Pod → Pod) : State :=
  let s := lone m 4095 quickEntry f
  withCfg [(0x1200, 2, 3), (0x1200, 4, 8), (0x1200, 8, 5), (0x1240, 1, 1), (0x1240, 32, quickEntry)] { s with
    accepted := l.map fun a => { ask := a, src := .port .canb, time := 4000 }, sup := { s.sup with chans := g } }

theorem wit_pod_requests :
    (∀ e ∈ [(Ask.rise 0, Mode.standby, PodSt.off), (.rise 0, .run, .on), (.fall 0, .run, .on), (.fall 0, .standby, .off),
        (.fall 0, .standby, .failed)],
      let s := asked e.2.1 [e.1] [] fun q => { q with st := e.2.2 }
      running s = true ∧ s.clk.time % 512 = 511 ∧ serviceable s.sup.mode = true ∧ s.sup.mode ≠ .crash ∧
      s.sup.line.low = false ∧
      s.accepted = [{ ask := e.1, src := .port .canb, time := 4000 }] ∧ (podCfg s 0 4).testBit 3 = true ∧
      (pod s 0).treeErr = false ∧ (pod s 0).st = e.2.2 ∧ aqHeld s < 96 ∧ (ent s 0 0).wantsQ = false) ∧
    entType quickEntry = 1 ∧ entArg quickEntry = 95 ∧ entOn quickEntry = 0 ∧ entOff quickEntry = 0 ∧ 0 < entOff slowEntry ∧
    (podCfg (withCfg [(0x1200, 4, 4)] stby) 0 4).testBit 3 = false ∧
    (let s := asked .descend [.rise 0] [] fun q => { q with st := .falling, dc := 3 }
     (pod s 0).descFrame ≠ s.clk.time / 512 + 1 ∧ (ent s 0 0).disd = false ∧ (chan s 95).disch = false ∧
     (pod s 0).dc + 1 < podCfg s 0 8 * podUnit s 0) ∧
    (let s := asked .ascend [] [(95, { Chan.reset with good := some 3, st := .running })] fun q =>
       { q with st := .rising, k := 1, ents := [(0, waitingEntry)] }
     (pod s 0).st = .rising ∧ (pod s 0).startFrame ≠ s.clk.time / 512 + 1 ∧ (ent s 0 0).waiting = true ∧
     (chan s 95).good.isSome = true) ∧
    (let s := asked .descend [] [(95, { Chan.reset with disch := true })] fun q =>
       { q with st := .falling, ents := [(0, { EntrySt.reset with swOff := true, offFrame := 3 })] }
     (ent s 0 0).swOff = true ∧ (ent s 0 0).offFrame < s.clk.time / 512 + 1 ∧ (chan s 95).disch = true ∧
     (pod s 0).retryActive = false ∧ (pod s 0).exhausted = false) := by decide

theorem wit_single_pod : singlePod { lone .standby 4095 quickEntry id with
    accepted := [{ ask := .rise 0, src := .port .cana, time := 5 }]
    sup := { (lone .standby 4095 quickEntry id).sup with chans := [(95, { Chan.reset with disch := true })] } } quickEntry :=
  lone_singlePod _ _ _ _ _ ⟨rfl, rfl, rfl, rfl, rfl, fun _ => rfl⟩ (by decide) (by decide) (by decide) fun c => by
    by_cases h : c = 95
    · subst h; exact ⟨rfl, rfl⟩
    · simp [Machine.get, Ne.symm h, Chan.reset]

/-- A watch whose limit of 6 frames passes at the next boundary. -/
def watched : State :=
  modDis (withCfg [(0x105F, 24, 3 + 6 * 2 ^ 48)] (at' 3583 (inMode .run))) 95 fun d =>
    { d with watch := some { first := 1, ec := 0, sup := true, reached := false } }

theorem wit_limit :
    (dis watched 95).watch = some { first := 1, ec := 0, sup := true, reached := false } ∧
    disSupervised (disCfg watched 95) = true ∧
    1 + disLimit (disCfg watched 95) * disUnitOf (disCfg watched 95) ≤ watched.clk.time / 512 + 1 ∧
    running watched = true ∧ serviceable watched.sup.mode = true := by decide

theorem wit_limit_calm : calm watched := by
  refine ⟨⟨rfl, rfl, rfl, rfl, fun r => by cases r <;> rfl, rfl, rfl, rfl, fun c => ?_⟩, rfl, fun _ => ⟨rfl, rfl⟩,
    (calm_inMode .run 3583).2.2.2⟩
  by_cases h : c = 95
  · subst h; decide
  · simp only [watched, modDis, setDis, dis]
    rw [get_put_other _ _ _ h]
    rfl

/-- A still device whose line unit stands, as after a reset, has nothing to do in tick 511. -/
theorem rests_of {s : State} (h : still s = true) (hs : s.now.samples = []) (hb : ballLow s = s.sup.line.low)
    (hw : s.sup.line.wait = 0) (ha : arbRuns s.sup.line = false) (hl : s.sup.line.low = false) (hr : isSynced s.sup.line = false) (h0 : s.sup.line.role = .stopped)
    (ht : s.clk.time % 512 = 511) : tickRests s :=
  ⟨h, ⟨hs, fun k => by omega⟩, hb, hw, ha, fun k => by simp [hl] at k, fun k => by simp [hr] at k, fun k => absurd h0 k⟩

/-- Tick 511 changes none of the devices of pods, discharge watches and margins. -/
theorem wit_rests_boundary (m : Mode) (e : Nat) (l : List Ask) (g : Map Chan) (f : Pod → Pod) :
    tickRests (lone m 4095 e f) ∧ tickRests (asked m l g f) ∧ tickRests watched := by
  have h : 4095 % 512 = 511 := rfl
  cases m <;> exact ⟨rests_of rfl rfl rfl rfl rfl rfl rfl rfl h, rests_of rfl rfl rfl rfl rfl rfl rfl rfl h,
    rests_of rfl rfl rfl rfl rfl rfl rfl rfl rfl⟩

/-- A pip on the rail of channel 95 of pod 0, which is ON. -/
def pipping (m : Margin) : State :=
  { withCfg [(0x105F, 8, 600), (0x105F, 9, 400), (0x1240, 1, 1), (0x1240, 32, railEntry)] (at' 6143 (inMode .run)) with
    sup := { (inMode .run).sup with
      pods := [(0, { Pod.reset with inUse := true, st := .on })]
      chans := [(95, { Chan.reset with enable := true, st := .running, raw := 500 })]
      margins := [(95, m)] } }

theorem wit_pip :
    (let s := pipping { Margin.reset with st := .pipBaseline, outEn := true, pipP := 4, pipStep := -3, pipCode0 := 5 }
     s.sup.margins = [(95, margin s 95)] ∧ s.sup.mode = .run ∧ railPodOn s 95 = true ∧ (chan s 95).st = .running ∧
     (chan s 95).enable = true ∧ (margin s 95).pipOut = false ∧ chanCfg s 95 9 ≤ (chan s 95).raw ∧
     (chan s 95).raw ≤ chanCfg s 95 8 ∧ (margin s 95).st = .pipBaseline ∧ (margin s 95).pipP + 8 ≤ s.clk.time / 512 + 1) ∧
    (let s := pipping { Margin.reset with
       st := .pipCapture, outEn := true, pipP := 0, pipH := 4, pipStep := 3, base := List.replicate 8 500, caps := [505] }
     (margin s 95).st = .pipCapture ∧ (margin s 95).pipP + 8 + (margin s 95).pipH ≤ s.clk.time / 512 + 1 ∧
     (margin s 95).fromReached = false) := by decide

theorem wit_pip_calm (m : Margin) : calm { pipping m with sup := { (pipping m).sup with margins := [] } } := by
  refine ⟨⟨rfl, rfl, rfl, rfl, fun r => by cases r <;> rfl, rfl, rfl, rfl, fun _ => rfl⟩, rfl, fun c => ?_, fun p hp => ?_⟩
  · by_cases h : c = 95
    · subst h; exact ⟨rfl, rfl⟩
    · simp [chan, pipping, Machine.get, Ne.symm h, Chan.reset]
  · by_cases h : p = 0
    · subst h; exact ⟨nofun, nofun, rfl, rfl, rfl, fun _ => rfl⟩
    · simp [pod, pipping, Machine.get, Ne.symm h, Pod.reset] at hp

/-- A margin of the rail of channel 95 with a rate of 1, a band of 2, a guard of 10 and a limit of 5. -/
def margining (l : List Ask) (m : Margin) : State :=
  let s := pipping m
  { withCfg [(0x105F, 8, 600), (0x105F, 9, 400), (0x1240, 1, 1), (0x1240, 32, railEntry), (0x145F, 1, 0x20),
      (0x145F, 2, 5), (0x145F, 3, 1), (0x145F, 4, 2), (0x145F, 5, 10)] s with
    accepted := l.map fun a => { ask := a, src := .port .canb, time := 4000 }
    sup := { s.sup with chans := [(95, { Chan.reset with enable := true, st := .running, raw := 500, kindEff := 3 })] } }

theorem wit_margins :
    (∀ e ∈ [(Servo.servoing, 490), (.atLimit, 510), (.reached, 502), (.returning, 0)],
      let s := margining [] { Margin.reset with st := e.1, outEn := true, target := e.2, code := -5 }
      running s = true ∧ s.clk.time % 512 = 511 ∧ s.sup.line.low = false ∧ s.sup.margins = [(95, margin s 95)] ∧
      s.sup.mode = .run ∧ railPodOn s 95 = true ∧ (chan s 95).st = .running ∧ (chan s 95).enable = true ∧
      marginCfg s 95 3 ≤ (margin s 95).rc + 1 ∧ marginCfg s 95 4 = 2 ∧ marginCfg s 95 2 = 5) ∧
    ((-5 : Int) + 1).natAbs ≤ 5 ∧ 5 < ((-5 : Int) - 1).natAbs ∧
    (let s := margining [.margin 95 501] Margin.reset
     (marginCfg s 95 1).testBit 5 = true ∧ (chan s 95).kindEff = 3 ∧ (chan s 95).thrErr = false ∧ aqAdmits s = true ∧
     chanCfg s 95 9 + marginCfg s 95 5 ≤ 501 ∧ 501 + marginCfg s 95 5 ≤ chanCfg s 95 8 ∧
     ¬ (chanCfg s 95 9 + marginCfg s 95 5 ≤ 409)) ∧
    (marginCfg (withCfg [(0x145F, 1, 0x10)] stby) 95 1).testBit 5 = false := by decide

theorem wit_margins_calm (l : List Ask) (m : Margin) :
    calm { margining l m with accepted := [], sup := { (margining l m).sup with margins := [] } } := by
  refine ⟨⟨rfl, rfl, rfl, rfl, fun r => by cases r <;> rfl, rfl, rfl, rfl, fun _ => rfl⟩, rfl, fun c => ?_, fun p hp => ?_⟩
  · by_cases h : c = 95
    · subst h; exact ⟨rfl, rfl⟩
    · simp [chan, margining, Machine.get, Ne.symm h, Chan.reset]
  · by_cases h : p = 0
    · subst h; exact ⟨nofun, nofun, rfl, rfl, rfl, fun _ => rfl⟩
    · simp [pod, margining, pipping, Machine.get, Ne.symm h, Pod.reset] at hp

theorem wit_rests_margins (l : List Ask) (m : Margin) : tickRests (pipping m) ∧ tickRests (margining l m) := by
  have h : 6143 % 512 = 511 := rfl
  exact ⟨rests_of rfl rfl rfl rfl rfl rfl rfl rfl h, rests_of rfl rfl rfl rfl rfl rfl rfl rfl h⟩

/-! ## The manual's worked examples -/

/-- A step with no command (log 2). -/
def tickOf (s : State) : State :=
  match step s with
  | .next t => t
  | _ => s

/-- The state after a command. -/
def after (c : Instr) (s : State) : State :=
  match exec c s with
  | .next t => t
  | _ => s

/-- The worked example of 00_scope.md: a device time by frame, slot and tick. -/
theorem test_time : frameOf 0x123456 = 0x91A ∧ slotOf 0x123456 = 2 ∧ 0x123456 % 512 % 32 = 22 := by decide

/-- The two scales worked out beside R94. -/
theorem test_scaled :
    scaled (withCfg [(0x1000, 3, 1875), (0x1000, 4, 4096)] stby) 0 52429 = 24000 ∧
    scaled (withCfg [(0x1000, 3, 375), (0x1000, 4, 4096)] stby) 0 54613 = 5000 := by decide

/-- The worked example of 10_sequence_engine.md: each word of its program decodes to the instruction beside it. -/
theorem test_example_program :
    instrOf 0xA0000000#32 = .waitf ∧ instrOf 0x40400300#32 = .ldi 1 0x0300 ∧ instrOf 0x70841303#32 = .drd 2 1 0x1303 ∧
    instrOf 0x48C80007#32 = .andi 3 2 7 ∧ instrOf 0x540C0002#32 = .cmpi 3 2 ∧ instrOf 0x80800010#32 = .b .ne 0x10 ∧
    instrOf 0x41400010#32 = .ldi 5 0x10 ∧ instrOf 0x79140000#32 = .tact 4 5 ∧ instrOf 0xA4000000#32 = .waite := by decide

/-- The ODP request of 12_dictionary_and_can_fd.md: CHAN_LIVE(14) subindexes 01 to 03 and POD_LIVE(5) subindex 03. -/
theorem test_example_request :
    parseRequest stby [0x11, 0x2C, 0x02, 0x11, 0x0E, 0x01, 0x03, 0x13, 0x05, 0x03, 0x01, 0x00] =
      some (false, [(0x110E, 1, [0, 0, 0]), (0x1305, 3, [0])]) := rfl

theorem test_example_address :
    let s := { State.reset with pwr := { State.reset.pwr with held := true, srcs := 32 } }
    let low : AddrSense := { sourceLow := true, sourceHigh := false, sinkLow := true, sinkHigh := false }
    let afloat : AddrSense := { sourceLow := false, sourceHigh := true, sinkLow := true, sinkHigh := false }
    (after (.resetRelease low afloat) s).boot.addrSel = 3 ∧ twiMatches (after (.resetRelease low afloat) s) 0x53 = true ∧
    nodeId (after (.resetRelease low afloat) s) .a = 0x73 := by decide

/-- The urgent traffic of 03_channels_and_converters.md: after TRIG3 has place 1 in slot 5, a host write in slot 5 takes
place 2 in slot 6. -/
theorem test_example_urgent :
    (conv (after (.urgentReq .cana 3 0) (modConv (at' (5 * 32 + 3) stby) 3 fun v =>
      { v with places := [(5, { src := .trig, entry := 9, time := 160 })] })) 3).places =
      [(5, { src := .trig, entry := 9, time := 160 }), (6, { src := .port .cana, entry := 0, time := 163 })] := by decide

theorem test_example_hostif :
    startCondition (at' (512 * 40000) stby) 1 false = false ∧ startCondition (at' (512 * 40001) stby) 1 false = true := by decide

/-- The counter of 15_counters_and_gallery.md, with one count to its top. -/
theorem test_counter_wraps :
    get (bump { stby with ctrs := [(24, { count := 0xFFFFFFFF, ovf := false })] } 24 (selOf stby 24) 1).ctrs Ctr.reset 24 =
      { count := 0, ovf := true } := by decide

/-- R246: in the first bit period from S on, an originator of time 0 drives the line low and one of time 65535 does not. -/
theorem test_arbitration_bits :
    let s (time : Nat) : State := modCrash (withLine (fun l => { l with arb := .running 2000, index := 3 }) (at' 2010 (inMode .crash)))
      fun k => { k with latched := true, originator := true, ownTime := time }
    fltLow (s 0) = true ∧ fltLow (s 65535) = false := by decide

/-- R345: a word of IMAGE.KEY between the two writes of KEY ends the sequence. -/
theorem test_key_broken :
    (req (gatherWord (withReq .twi (fun q => { q with key := .half }) svc) .twi (0x1F00 * 256 + 10) [7]) .twi).key = .idle := by
  decide

/-- R205, R207: a discharge fault is of the pod that owned the output which opened the watch, here output 9 and not 2. -/
theorem test_fault_pod :
    faultPod (setDisOut (setDisOut (modDis stby 7 fun d => { d with out := some 9 }) 2 { chan := 7, owner := some 4 }) 9
      { chan := 7, owner := some 6 }) 7 = 6 := by decide

/-- R449, R522: SDA on pin 11 sinks 20 mA, and CAN TX on pin 8 has its own strength, whatever DRIVE holds. -/
theorem test_pads :
    let s := withCfg [(0x1A41, 4, 0x80C0), (0x1A0B, 1, 0x400), (0x1A08, 1, 0x400), (0x1A09, 1, 0x400)] stby
    (pinPads s 11).1 = 20 ∧ (pinPads s 8).1 = 4 ∧ (pinPads s 9).1 = 12 := by decide

/-- R80, R321: a DRD that finds the port free reads in the last tick but one, and rd follows in the last one. -/
theorem test_drd_ticks :
    let s := withEng (fun e => { e with prog := [(0, 0x70840210)], w := [(1, 0x0300)] }) (at' 100 eng)
    let t := tickOf s
    let u := tickOf t
    t.eng.read.isSome = true ∧ t.eng.pc = 0 ∧ u.eng.pc = 1 ∧ u.eng.read = none := by decide

set_option maxRecDepth 4000 in
/-- R437: SLEEP that breaks a chunk transaction off before its 56th byte sets SEQ_ERR. -/
theorem test_short_chunk :
    (enterSleep { stby with twi := { stby.twi with chunkTx := true, chunk := [1, 2] } }).image.seqErr = true := rfl

set_option maxRecDepth 20000 in
/-- The check value of CRC-32. -/
theorem test_crc : crc32 [0x31, 0x32, 0x33, 0x34, 0x35, 0x36, 0x37, 0x38, 0x39] = 0xCBF43926 := by decide

set_option maxRecDepth 20000 in
/-- The AES-CMAC of the empty message in RFC 4493. -/
theorem test_cmac : cmac 0x2B7E151628AED2A6ABF7158809CF4F3C [] =
    [0xBB, 0x1D, 0x69, 0x29, 0xE9, 0x59, 0x37, 0x28, 0x7F, 0xA3, 0x7D, 0x12, 0x9B, 0x75, 0x67, 0x46] := by decide

end Sys2Proof.Tests
end

section
/-!
SUPPORT. Refused writes, and the rights that refuse them (R14, R15, R77, R87, R314, R315, R337, R345, R478).
-/
namespace Sys2Proof.Machine

/-! ## What the service of a word leaves of the checks -/

@[simp] theorem mayAccess_served (s : State) (r x : Requester) : mayAccess (served s r) x = mayAccess s x := by
  obtain ⟨c, w, h⟩ := served_eq s r
  rw [h]; rfl

@[simp] theorem widthNow_served (s : State) (r : Requester) (idx sub : Nat) :
    widthNow (served s r) idx sub = widthNow s idx sub := by
  obtain ⟨c, w, h⟩ := served_eq s r
  rw [h]; rfl

/-- The rights of a write do not look at the key, the lock sequence and the gather that it ends. -/
@[simp] theorem writeAllowed_afterWrite (s : State) (x r : Requester) (fp : Bool) (o : Obj) (f : Field) (sub : Nat) :
    writeAllowed (afterWrite s x) r fp o f sub = writeAllowed s r fp o f sub := by
  cases x <;> rfl

/-! ## A refused write -/

/-- A write ends the key sequence, the lock sequence and the gather before it is checked, and one that fails its check
only counts. -/
theorem writeField_checked (s : State) (r : Requester) (fp : Bool) (idx sub v : Nat) (o : Obj) (f : Field)
    (ho : objOf idx = some o) (hf : fieldOf idx sub = some f) :
    writeField s r fp idx sub v =
      if writeAllowed s r fp o f sub && inRange false o sub v
      then writeEffect (afterWrite s r) r (heldKey s r) o f idx sub v else violation (afterWrite s r) := by
  rw [← writeAllowed_afterWrite s r]
  simp only [writeField, ho, hf]
  cases r <;> rfl

/-- A write of a field that does not exist only counts. -/
theorem writeField_absent (s : State) (r : Requester) (fp : Bool) (idx sub v : Nat)
    (h : ∀ o f, objOf idx = some o → fieldOf idx sub = some f → False) :
    writeField s r fp idx sub v = violation (afterWrite s r) := by
  unfold writeField
  split
  · next o f ho hf => exact (h o f ho hf).elim
  · cases r <;> rfl

/-- A write that arrives, with a value as wide as the words that the field counts, and is not admitted fails its check: a
value too wide for the field does not get so far where the write is allowed. -/
theorem writeField_refused {s : State} {r : Requester} {idx sub v : Nat} (hm : mayAccess s r = true)
    (hv : v < 65536 ^ widthNow s idx sub) (h : admits s r idx sub v = false) :
    writeField s r (!isHost r && s.eng.field) idx sub v = violation (afterWrite s r) := by
  by_cases hx : ∃ o f, objOf idx = some o ∧ fieldOf idx sub = some f
  · obtain ⟨o, f, ho, hf⟩ := hx
    rw [writeField_checked s r _ idx sub v o f ho hf]
    refine if_neg fun hc => ?_
    obtain ⟨hw, hr⟩ := Bool.and_eq_true_iff.mp hc
    rw [widthNow_allowed ho hf hw] at hv
    simp [admits, hm, ho, hf, hw, hr, hv] at h
  · exact writeField_absent s r _ idx sub v fun o f ho hf => hx ⟨o, f, ho, hf⟩

/-- A write as a command of its own, where the store refuses it in its turn. -/
theorem present_refused {s : State} {r : Requester} {idx sub v : Nat} (hm : mayAccess s r = true) (ht : turn s r = true)
    (hw : r = .twi ∨ widthNow s idx sub = 1) (hv : v < 65536 ^ widthNow s idx sub)
    (h : admits (served s r) r idx sub v = false) :
    present s r idx sub v = violation (afterWrite (served s r) r) := by
  simp only [present, Nat.mod_eq_of_lt hv]
  rw [access_turn hm ht (hw.imp id Nat.le_of_eq)]
  exact writeField_refused (by simpa using hm) (by simpa using hv) h

/-! ## Rights (R14, R314, R315, R337, R478) -/

/-- What a requester needs for a write. -/
theorem writeAllowed_iff (s : State) (r : Requester) (fp : Bool) (o : Obj) (f : Field) (sub : Nat) :
    writeAllowed s r fp o f sub = true ↔
      f.acc ≠ .ro ∧ (inHoldNow s = false ∨ holdReaches s.boot.cause o = true) ∧
      modeAccepts s.sup.mode s.boot.hold s.boot.cause o sub = true ∧ pinWritable s r o sub = true ∧
      (isHost r = true ∨
        (if fp then fieldMayWrite (engCtrl s) (counterAccess s true) o sub
         else engineMayWrite (counterAccess s false) o sub) = true) := by
  simp [writeAllowed, and_assoc]

/-- No write of a read-only field is admitted (R14). -/
theorem admits_readOnly {s : State} {r : Requester} {idx sub v : Nat} {f : Field} (hf : fieldOf idx sub = some f)
    (ha : f.acc = .ro) : admits s r idx sub v = false := by
  refine Bool.eq_false_iff.mpr fun h => ?_
  obtain ⟨o, f', -, hf', hw, -, -⟩ := admits_field h
  obtain rfl : f = f' := Option.some.inj (hf.symm.trans hf')
  exact ((writeAllowed_iff ..).mp hw).1 ha

/-- A write is admitted only in a mode in which the field accepts writes. -/
theorem admits_mode {s : State} {r : Requester} {idx sub v : Nat} {o : Obj} (h : admits s r idx sub v = true)
    (ho : objOf idx = some o) : modeAccepts s.sup.mode s.boot.hold s.boot.cause o sub = true := by
  obtain ⟨o', f, ho', -, hw, -, -⟩ := admits_field h
  obtain rfl : o = o' := Option.some.inj (ho.symm.trans ho')
  obtain ⟨-, -, hmode, -, -⟩ := (writeAllowed_iff ..).mp hw
  exact hmode

/-- The engine's write is admitted only within the rights of its privilege. -/
theorem admits_engine {s : State} {idx sub v : Nat} (h : admits s .eng idx sub v = true) : ∃ o, objOf idx = some o ∧
    (if s.eng.field then fieldMayWrite (engCtrl s) (counterAccess s true) o sub
     else engineMayWrite (counterAccess s false) o sub) = true := by
  obtain ⟨o, f, ho, -, hw, -, -⟩ := admits_field h
  obtain ⟨-, -, -, -, hr⟩ := (writeAllowed_iff ..).mp hw
  exact ⟨o, ho, hr.resolve_left (by decide)⟩

/-- Where neither privilege of the engine has the right, its write is not admitted. -/
theorem admits_engine_false {s : State} {idx sub v : Nat} {o : Obj} (ho : objOf idx = some o)
    (hf : ∀ ctrl code, fieldMayWrite ctrl code o sub = false) (he : ∀ code, engineMayWrite code o sub = false) :
    admits s .eng idx sub v = false := by
  refine Bool.eq_false_iff.mpr fun h => ?_
  obtain ⟨o', ho', hr⟩ := admits_engine h
  obtain rfl : o = o' := Option.some.inj (ho.symm.trans ho')
  simp [hf, he] at hr

/-- KEY, CLEAR_CRASH, ENGINE_CTRL, ENGINE_PROG and IMAGE are no fields that the engine may write (R315). -/
theorem admits_engine_forbidden {s : State} {idx sub v : Nat}
    (h : idx = 0x0200 ∧ (sub = 3 ∨ sub = 5) ∨ idx = 0x1800 ∨ idx = 0x1801 ∨ idx = 0x1F00) :
    admits s .eng idx sub v = false := by
  obtain ⟨rfl, hsub⟩ | rfl | rfl | rfl := h
  · exact admits_engine_false (o := .modeCtrl) rfl (fun _ _ => rfl) fun _ => by simp [engineMayWrite, hsub]
  · exact admits_engine_false (o := .engCtrl) rfl (fun _ _ => rfl) fun _ => rfl
  · exact admits_engine_false (o := .engProg) rfl (fun _ _ => rfl) fun _ => rfl
  · exact admits_engine_false (o := .image) rfl (fun _ _ => rfl) fun _ => rfl

/-! ## The targets of field code (R314, R478) -/

/-- The index range of R379 of each family in which field code has targets. -/
def targetFamily : Obj → Nat → Prop
  | .podLive _, idx => 0x1300 ≤ idx ∧ idx ≤ 0x132F
  | .margin _, idx => 0x1400 ≤ idx ∧ idx ≤ 0x145F
  | .conv _, idx => 0x1500 ≤ idx ∧ idx ≤ 0x1507
  | .counter _, idx => 0x1900 ≤ idx ∧ idx ≤ 0x1929
  | _, _ => True

/-- In a table that is a chain of conditions, what holds of its first entry and of those behind it holds of its answer. -/
theorem of_ite_some {α : Type} {p : α → Prop} {c : Prop} [Decidable c] {a o : α} {x : Option α} (ha : c → p a)
    (hx : x = some o → p o) (h : (if c then some a else x) = some o) : p o := by
  split at h
  · next hc => exact Option.some.inj h ▸ ha hc
  · exact hx h

theorem targetFamily_of_objOf {idx : Nat} {o : Obj} : objOf idx = some o → targetFamily o idx := by
  unfold objOf
  repeat refine of_ite_some (p := (targetFamily · idx)) (by simp [targetFamily]) ?_
  exact nofun

/-- The fields that field code may write, each under its bit or code. -/
theorem fieldMayWrite_target {ctrl code idx sub : Nat} {o : Obj} (ho : objOf idx = some o)
    (h : fieldMayWrite ctrl code o sub = true) :
    (0x1300 ≤ idx ∧ idx < 0x1330 ∧ sub = 1 ∧ ctrl.testBit 9 = true) ∨
    (0x1500 ≤ idx ∧ idx < 0x1508 ∧ sub = 2 ∧ ctrl.testBit 10 = true) ∨
    (0x1400 ≤ idx ∧ idx < 0x1460 ∧ 8 ≤ sub ∧ sub ≤ 10 ∧ ctrl.testBit 11 = true) ∨
    (0x1900 ≤ idx ∧ idx < 0x192A ∧ (sub = 1 ∨ sub = 3) ∧ code = 2) := by
  have hi := targetFamily_of_objOf ho
  cases o with
  | podLive p =>
    simp only [fieldMayWrite, Bool.and_eq_true, decide_eq_true_eq] at h
    exact .inl ⟨hi.1, Nat.lt_succ_of_le hi.2, h⟩
  | conv g =>
    simp only [fieldMayWrite, Bool.and_eq_true, decide_eq_true_eq] at h
    exact .inr (.inl ⟨hi.1, Nat.lt_succ_of_le hi.2, h⟩)
  | margin c =>
    simp only [fieldMayWrite, Bool.and_eq_true, decide_eq_true_eq] at h
    exact .inr (.inr (.inl ⟨hi.1, Nat.lt_succ_of_le hi.2, h.1.1, h.1.2, h.2⟩))
  | counter k =>
    simp only [fieldMayWrite, Bool.and_eq_true, decide_eq_true_eq] at h
    exact .inr (.inr (.inr ⟨hi.1, Nat.lt_succ_of_le hi.2, h⟩))
  | _ => cases h

/-- The code of COUNTER_ACCESS for field code (R478). -/
theorem counterAccess_field (s : State) : counterAccess s true = act s 0x1980 2 % 4 := rfl

/-! ## The modes of the engine's objects (R337) -/

theorem standbyOrService_iff (m : Mode) : standbyOrService m = true ↔ m = .standby ∨ m = .service := by
  simp [standbyOrService]

/-! ## The obligation -/

/-- Settles O18: a write that is not admitted ends as a violation behind `afterWrite`, which only counts; and what an
admitted write needs of access code, mode and privilege refuses each of the fields listed. -/
theorem refusedWritesOnlyCount : Obligations.RefusedWritesOnlyCount := by
  unfold Obligations.RefusedWritesOnlyCount
  refine ⟨fun s r idx sub v hm ht hw hv h => ⟨_, rfl, ?_⟩, fun s r idx sub v =>
    ⟨fun f hf ha => admits_readOnly hf ha, admits_engine_forbidden, ?fieldCode, ?engineCtrl, ?engineProg⟩⟩
  · rw [unrouted_done rfl, present_refused hm ht hw hv h, unrouted_violation]
    rfl
  case fieldCode =>
    intro hfield h
    obtain ⟨o, ho, hr⟩ := admits_engine h
    rw [if_pos hfield, counterAccess_field] at hr
    exact fieldMayWrite_target ho hr
  case engineCtrl =>
    intro h1 h2
    refine Bool.eq_false_iff.mpr fun h => ?_
    exact ((standbyOrService_iff _).mp (admits_mode (o := .engCtrl) h rfl)).elim h1 h2
  case engineProg =>
    intro h1
    exact Bool.eq_false_iff.mpr fun h => h1 (of_decide_eq_true (admits_mode (o := .engProg) h rfl))

end Sys2Proof.Machine
end

section
/-!
SUPPORT. The crash tick, said once (R176, R198, R214, R217, R245, R303, R326): what each of its stages can change, what each
stage leaves of the element it is about, and what the whole of it leaves (`CrashEntry`).
-/
namespace Sys2Proof.Machine

/-! ## Stages that go through a list -/

/-- What every step keeps of a state, the whole stage keeps. -/
theorem each_holds {α : Type} {f : State → α → State} {P : State → Prop} (keep : ∀ s x, P s → P (f s x)) (l : List α)
    (s : State) (h : P s) : P (each l s f) :=
  each_rel (fun _ t => P t) f (fun _ t x ht => keep t x ht) l s s h

/-- Where a stage makes a property of the element it is about, and spoils it of no other, every element of the list has
it. -/
theorem each_all {α : Type} {f : State → α → State} {P : α → State → Prop} (make : ∀ s x, P x (f s x))
    (keep : ∀ s x y, P y s → P y (f s x)) : ∀ (l : List α) (s : State), ∀ x ∈ l, P x (each l s f) := by
  intro l
  induction l with
  | nil => exact fun _ _ h => absurd h List.not_mem_nil
  | cons x r ih =>
    intro s y hy
    obtain rfl | hy := List.mem_cons.mp hy
    · exact each_holds (fun s x => keep s x _) r _ (make s _)
    · exact ih (f s x) y hy

/-! ## Rails (R126, R135, R176) -/

theorem chan_modChan (s : State) (c j : Nat) (f : Chan → Chan) :
    chan (modChan s c f) j = if j = c then f (chan s c) else chan s j := get_put _ _ _ _ _

/-- A rail that the crash tick has dealt with: its enable is released and it is OFF. -/
def railOff (c : Nat) (s : State) : Prop := (chan s c).enable = false ∧ (chan s c).st = .off

/-- An update of a channel that releases no rail's OFF state. -/
theorem railOff_modChan {s : State} {j : Nat} (c : Nat) {f : Chan → Chan}
    (hf : ∀ ch : Chan, ch.enable = false ∧ ch.st = .off → (f ch).enable = false ∧ (f ch).st = .off) (h : railOff j s) :
    railOff j (modChan s c f) := by
  unfold railOff
  rw [chan_modChan]
  split
  · next hj => exact hf _ (hj ▸ h)
  · exact h

theorem railOff_modChan_same {s : State} (c : Nat) {f : Chan → Chan}
    (hf : ∀ ch : Chan, (f ch).enable = false ∧ (f ch).st = .off) : railOff c (modChan s c f) := by
  unfold railOff
  rw [chan_modChan, if_pos rfl]
  exact hf _

/-- Releasing a rail turns it off and turns no other rail on. -/
theorem railOff_releaseRail {s : State} {c j : Nat} (h : j = c ∨ railOff j s) : railOff j (releaseRail s c) := by
  have hpair : ∀ t : State, railOff j t →
      railOff j (match partner t c with | some b => modChan t b clearPair | none => t) := by
    intro t ht
    split
    · exact railOff_modChan _ (fun _ hc => hc) ht
    · exact ht
  unfold releaseRail
  dsimp only
  split
  · refine hpair _ ?_
    obtain rfl | h := h
    · exact railOff_modChan_same _ fun _ => ⟨rfl, rfl⟩
    · exact railOff_modChan _ (fun _ _ => ⟨rfl, rfl⟩) h
  · next hoff =>
    obtain rfl | h := h
    · simpa [railOff] using hoff
    · exact h

theorem railOff_dropRail {s : State} {c j : Nat} (h : j = c ∨ railOff j s) : railOff j (dropRail s c) := by
  unfold dropRail
  dsimp only
  split
  · exact railOff_modChan _ (fun _ hc => hc) (railOff_releaseRail h)
  · exact railOff_releaseRail h

/-- Dropping a rail changes channels alone. -/
theorem dropRail_eq (s : State) (c : Nat) : ∃ m, dropRail s c = { s with sup := { s.sup with chans := m } } := by
  have hr : ∃ m, releaseRail s c = { s with sup := { s.sup with chans := m } } := by
    unfold releaseRail
    dsimp only
    split
    · split <;> exact ⟨_, rfl⟩
    · exact ⟨s.sup.chans, rfl⟩
  obtain ⟨m, hm⟩ := hr
  unfold dropRail
  dsimp only
  rw [hm]
  split <;> exact ⟨_, rfl⟩

/-! ## Margins (R217, R298, R303) -/

theorem margin_cutMargin (s : State) (c j : Nat) :
    margin (cutMargin s c) j = if j = c then crashMargin (margin s c) else margin s j := by
  have h : ∀ t : State, margin (modMargin t c crashMargin) j = if j = c then crashMargin (margin t c) else margin t j :=
    fun t => get_put _ _ _ _ _
  have ho : ∀ k, margin (if (margin s c).code = 0 then s else occPod s 9) k = margin s k := by
    intro k
    split
    · rfl
    · simp [margin]
  simp only [cutMargin, h, ho]

/-- A margin that the crash tick has cut short: it is idle, at code 0 and high impedance. -/
def marginCut (c : Nat) (s : State) : Prop :=
  (margin s c).st = .idle ∧ (margin s c).outEn = false ∧ (margin s c).code = 0

theorem marginCut_cutMargin {s : State} {c j : Nat} (h : j = c ∨ marginCut j s) : marginCut j (cutMargin s c) := by
  unfold marginCut
  rw [margin_cutMargin]
  split
  · exact ⟨rfl, rfl, rfl⟩
  · next hj => exact h.resolve_left hj

/-- Cutting a margin changes margins alone, but for counts. -/
theorem cutMargin_eq (s : State) (c : Nat) : ∃ m k w,
    cutMargin s c = { s with sup := { s.sup with margins := m }, ctrs := k, now := w } := by
  unfold cutMargin
  dsimp only
  split
  · exact ⟨_, s.ctrs, s.now, rfl⟩
  · obtain ⟨k, w, h⟩ := occ_eq s 20 4 9 1
    rw [occPod, h]
    exact ⟨_, k, w, rfl⟩

/-- A margin that is not idle is active. -/
theorem mem_activeMargins {s : State} {c : Nat} (h : (margin s c).st ≠ .idle) : c ∈ activeMargins s := by
  have key : ∀ m : Map Margin, (get m Margin.reset c).st ≠ .idle →
      c ∈ (m.filter fun e => !decide (e.2.st = .idle)).map (·.1) := by
    intro m
    induction m with
    | nil => exact fun h => absurd rfl h
    | cons e r ih =>
      intro h
      unfold get at h
      split at h
      · next hc => exact List.mem_map.mpr ⟨e, by simp [h], hc⟩
      · obtain ⟨x, hx, hxc⟩ := List.mem_map.mp (ih h)
        exact List.mem_map.mpr ⟨x, List.mem_filter.mpr ⟨List.mem_cons_of_mem _ (List.mem_filter.mp hx).1,
          (List.mem_filter.mp hx).2⟩, hxc⟩
  exact key _ h

/-! ## Pods (R176) -/

/-- A pod in use stops where it stands and is CRASHED. -/
def crashPod (s : State) (p : Nat) : State := setPodSt (modPod s p stopPod) p .crashed

theorem st_setPodSt (s : State) (p q : Nat) (x : PodSt) :
    (pod (setPodSt s p x) q).st = if q = p then x else (pod s q).st := by
  unfold setPodSt
  split
  · next h => split <;> simp_all
  · have : pod (occPod (raise (modPod s p fun q => { q with st := x }) 24) 1) q = pod (modPod s p fun q => { q with st := x }) q := by
      simp [pod]
    rw [this, pod_modPod]
    split <;> rfl

theorem st_crashPod (s : State) (p q : Nat) : (pod (crashPod s p) q).st = if q = p then .crashed else (pod s q).st := by
  unfold crashPod
  rw [st_setPodSt, pod_modPod]
  split <;> rfl

/-- What a pod's new state changes: pods, the event that it raises behind those that wait, and counts. -/
theorem setPodSt_eq (s : State) (p : Nat) (x : PodSt) : ∃ m l k w,
    setPodSt s p x = { s with sup := { s.sup with pods := m }, evq := s.evq ++ l, ctrs := k, now := w } := by
  unfold setPodSt
  split
  · exact ⟨s.sup.pods, [], s.ctrs, s.now, by rw [List.append_nil]⟩
  · obtain ⟨k, w, h⟩ := occ_eq (raise (modPod s p fun q => { q with st := x }) 24) 20 4 1 1
    rw [occPod, h]
    exact ⟨_, [24], k, w, rfl⟩

theorem crashPod_eq (s : State) (p : Nat) : ∃ m l k w,
    crashPod s p = { s with sup := { s.sup with pods := m }, evq := s.evq ++ l, ctrs := k, now := w } := by
  obtain ⟨m, l, k, w, h⟩ := setPodSt_eq (modPod s p stopPod) p .crashed
  exact ⟨m, l, k, w, h⟩

theorem mem_podsInUse_iff {s : State} {p : Nat} : p ∈ podsInUse s ↔ p < 48 ∧ (pod s p).inUse = true := by
  simp [podsInUse, podNums]

/-! ## Discharge outputs (R198, R202) -/

/-- Asserting an output changes outputs and watches alone. -/
theorem assertOut_eq (s : State) (c : Nat) : ∃ d o, assertOut s c = { s with sup := { s.sup with dis := d, disOut := o } } := by
  have hclose : ∀ (p : Prop) [Decidable p] (n : Nat),
      ∃ d, (if p then s else closeWatch s n) = { s with sup := { s.sup with dis := d } } := by
    intro p _ n
    split
    · exact ⟨s.sup.dis, rfl⟩
    · exact ⟨_, rfl⟩
  obtain ⟨d, h⟩ := hclose (disOut s (disOutOf (disCfg s c)) = noOut ∨ (disOut s (disOutOf (disCfg s c))).chan = c)
    (disOut s (disOutOf (disCfg s c))).chan
  unfold assertOut
  dsimp only
  rw [h]
  exact ⟨_, _, rfl⟩

theorem assertAtCrash_eq (s : State) (c : Nat) : ∃ d o,
    assertAtCrash s c = { s with sup := { s.sup with dis := d, disOut := o } } := by
  unfold assertAtCrash
  dsimp only
  split
  · obtain ⟨d, o, h⟩ := assertOut_eq s c
    rw [h]
    exact ⟨_, o, rfl⟩
  · exact ⟨s.sup.dis, s.sup.disOut, rfl⟩

theorem disOut_assertOut (s : State) (c n : Nat) : ∃ p, disOut (assertOut s c) n =
    if n = disOutOf (disCfg s c) then { chan := c, owner := some p } else disOut s n := by
  have h : ∀ (t : State) (v : DisOut), t.sup.disOut = s.sup.disOut →
      disOut (setDisOut t (disOutOf (disCfg s c)) v) n = if n = disOutOf (disCfg s c) then v else disOut s n := by
    intro t v ht
    unfold disOut setDisOut
    rw [ht]
    exact get_put _ _ _ _ _
  unfold assertOut
  dsimp only
  refine ⟨_, h _ _ ?_⟩
  split <;> rfl

/-- Asserting an output leaves it asserted, and every other as it was. -/
theorem asserted_assertOut (s : State) (c n : Nat) :
    asserted (assertOut s c) n = (decide (n = disOutOf (disCfg s c)) || asserted s n) := by
  obtain ⟨p, h⟩ := disOut_assertOut s c n
  unfold asserted
  rw [h]
  split <;> simp [*, noOut]

/-- An output that is asserted stays asserted (R198, R202). -/
theorem asserted_assertAtCrash {s : State} {n : Nat} (c : Nat) (h : asserted s n = true) :
    asserted (assertAtCrash s c) n = true := by
  unfold assertAtCrash
  dsimp only
  split
  · show asserted (assertOut s c) n = true
    simp [asserted_assertOut, h]
  · exact h

/-- The output of a channel that is flagged for crash is asserted (R198, R217). -/
theorem asserted_assertAtCrash_flagged {s : State} {c : Nat} (he : disEn (disCfg s c) = true)
    (hc : disOnCrash (disCfg s c) = true) : asserted (assertAtCrash s c) (disOutOf (disCfg s c)) = true := by
  unfold assertAtCrash
  dsimp only
  split
  · show asserted (assertOut s c) _ = true
    simp [asserted_assertOut]
  · next h => simpa [he, hc] using h

/-! ## The mode change and the record in progress (R265, R268, R340) -/

theorem record_eq (s : State) (r : List Byte) : ∃ g w, record s r = { s with gal := g, now := w } := by
  unfold record
  split
  · exact ⟨_, s.now, rfl⟩
  · split
    · exact ⟨s.gal, s.now, rfl⟩
    · exact ⟨s.gal, _, rfl⟩

/-- Discarding a requester's buffer changes what the store keeps for requesters, but for counts. -/
theorem discardReq_eq (s : State) (r : Requester) : ∃ a b t e k w,
    discardReq s r = { s with reqA := a, reqB := b, reqT := t, reqE := e, ctrs := k, now := w } := by
  have hset : ∀ q : ReqState, ∃ a b t e, setReq s r q = { s with reqA := a, reqB := b, reqT := t, reqE := e } := by
    intro q
    cases r <;> exact ⟨_, _, _, _, rfl⟩
  unfold discardReq
  dsimp only
  split
  · exact ⟨s.reqA, s.reqB, s.reqT, s.reqE, s.ctrs, s.now, rfl⟩
  · obtain ⟨a, b, t, e, h⟩ := hset { req s r with staged := [], sets := [], discarded := true }
    rw [h]
    split
    · exact ⟨a, b, t, e, s.ctrs, s.now, rfl⟩
    · obtain ⟨k, w, hc⟩ := occ_eq { s with reqA := a, reqB := b, reqT := t, reqE := e } 29 1 6 (req s r).sets.length
      rw [occDict, hc]
      exact ⟨a, b, t, e, k, w, rfl⟩

theorem discardReqs_eq (s : State) (l : List Requester) : ∃ a b t e k w,
    each l s discardReq = { s with reqA := a, reqB := b, reqT := t, reqE := e, ctrs := k, now := w } := by
  refine each_rel (fun s u => ∃ a b t e k w, u = { s with reqA := a, reqB := b, reqT := t, reqE := e, ctrs := k, now := w })
    discardReq ?_ l s s ⟨_, _, _, _, _, _, rfl⟩
  intro s u r ⟨a, b, t, e, k, w, hu⟩
  obtain ⟨a', b', t', e', k', w', h⟩ := discardReq_eq u r
  exact ⟨a', b', t', e', k', w', by rw [h, hu]⟩

/-- A change of mode: the mode and event 25, and outside SUPERVISE the episode, an open image update, the requesters'
buffers, the stream and counts. -/
theorem setMode_eq {s : State} {m : Mode} (h : s.sup.mode ≠ m) : ∃ r i a b t e g k w,
    setMode s m = { s with
      sup := { s.sup with mode := m }, evq := s.evq ++ [25], recs := r, image := i
      reqA := a, reqB := b, reqT := t, reqE := e, gal := g, ctrs := k, now := w } := by
  have hreqs : ∀ u : State, (∃ r i g w, u = { s with
        sup := { s.sup with mode := m }, evq := s.evq ++ [25], recs := r, image := i, gal := g, now := w }) →
      ∃ r i a b t e g k w, each requesters u discardReq = { s with
        sup := { s.sup with mode := m }, evq := s.evq ++ [25], recs := r, image := i
        reqA := a, reqB := b, reqT := t, reqE := e, gal := g, ctrs := k, now := w } := by
    intro u ⟨r, i, g, w, hu⟩
    obtain ⟨a, b, t, e, k, w', h⟩ := discardReqs_eq u requesters
    exact ⟨r, i, a, b, t, e, g, k, w', by rw [h, hu]⟩
  have hrecord : ∀ (v : State) (c : Prop) [Decidable c] (bs : List Byte), (∃ r i, v = { s with
        sup := { s.sup with mode := m }, evq := s.evq ++ [25], recs := r, image := i }) →
      ∃ r i g w, (if c then record v bs else v) = { s with
        sup := { s.sup with mode := m }, evq := s.evq ++ [25], recs := r, image := i, gal := g, now := w } := by
    intro v c _ bs ⟨r, i, hv⟩
    obtain ⟨g, w, h⟩ := record_eq v bs
    rw [h, hv]
    split
    · exact ⟨r, i, g, w, rfl⟩
    · exact ⟨r, i, s.gal, s.now, rfl⟩
  unfold setMode
  rw [if_neg h]
  refine hreqs _ (hrecord _ _ _ ?_)
  split <;> split <;> exact ⟨_, _, rfl⟩

theorem storeTorn_eq (s : State) (a : Nat) (bs : List Byte) (keep off : Nat) :
    ∃ r n, storeTorn s a bs keep off = { s with recs := r, fresh := n } := ⟨_, _, rfl⟩

theorem abandonHusk_eq (s : State) : ∃ r n, abandonHusk s = { s with recs := r, fresh := n } := by
  unfold abandonHusk
  split
  · exact ⟨s.recs, s.fresh, rfl⟩
  · obtain ⟨r, n, h⟩ := storeTorn_eq s (huskAddr s.recs.husk.next) (bytes 2 0x4801 ++ zeros 4094) 2 0xFFC
    rw [h]
    exact ⟨_, n, rfl⟩

/-! ## The four stages of a crash tick that go through lists -/

/-- The rails of a crash tick (R126, R176). -/
def dropRails (s : State) : State := each channels s dropRail

/-- The margins of a crash tick (R217, R303). -/
def cutMargins (s : State) : State := each (activeMargins s) s cutMargin

/-- The pods of a crash tick (R176). -/
def crashPods (s : State) : State := each (podsInUse s) s crashPod

/-- The discharge outputs of a crash tick (R198, R217). -/
def assertFlagged (s : State) : State := each channels s assertAtCrash

theorem dropRails_eq (s : State) : ∃ m, dropRails s = { s with sup := { s.sup with chans := m } } := by
  refine each_rel (fun s t => ∃ m, t = { s with sup := { s.sup with chans := m } }) dropRail ?_ _ s s ⟨s.sup.chans, rfl⟩
  intro s t c ⟨m, ht⟩
  obtain ⟨m', h⟩ := dropRail_eq t c
  exact ⟨m', by rw [h, ht]⟩

theorem cutMargins_eq (s : State) : ∃ m k w,
    cutMargins s = { s with sup := { s.sup with margins := m }, ctrs := k, now := w } := by
  refine each_rel (fun s t => ∃ m k w, t = { s with sup := { s.sup with margins := m }, ctrs := k, now := w }) cutMargin ?_
    _ s s ⟨s.sup.margins, s.ctrs, s.now, rfl⟩
  intro s t c ⟨m, k, w, ht⟩
  obtain ⟨m', k', w', h⟩ := cutMargin_eq t c
  exact ⟨m', k', w', by rw [h, ht]⟩

theorem crashPods_eq (s : State) : ∃ m q k w,
    crashPods s = { s with sup := { s.sup with pods := m }, evq := s.evq ++ q, ctrs := k, now := w } := by
  refine each_rel (fun s t => ∃ m q k w,
      t = { s with sup := { s.sup with pods := m }, evq := s.evq ++ q, ctrs := k, now := w }) crashPod ?_
    _ s s ⟨s.sup.pods, [], s.ctrs, s.now, by rw [List.append_nil]⟩
  intro s t p ⟨m, q, k, w, ht⟩
  obtain ⟨m', q', k', w', h⟩ := crashPod_eq t p
  exact ⟨m', q ++ q', k', w', by rw [h, ht, ← List.append_assoc]⟩

theorem assertFlagged_eq (s : State) : ∃ d o, assertFlagged s = { s with sup := { s.sup with dis := d, disOut := o } } := by
  refine each_rel (fun s t => ∃ d o, t = { s with sup := { s.sup with dis := d, disOut := o } }) assertAtCrash ?_
    _ s s ⟨s.sup.dis, s.sup.disOut, rfl⟩
  intro s t c ⟨d, o, ht⟩
  obtain ⟨d', o', h⟩ := assertAtCrash_eq t c
  exact ⟨d', o', by rw [h, ht]⟩

@[simp] theorem dropRails_frame (s : State) :
    (dropRails s).sup.margins = s.sup.margins ∧ (dropRails s).sup.pods = s.sup.pods ∧
    (dropRails s).sup.disOut = s.sup.disOut ∧ (dropRails s).latched = s.latched := by
  obtain ⟨_, h⟩ := dropRails_eq s
  simp [h]

@[simp] theorem cutMargins_frame (s : State) :
    (cutMargins s).sup.chans = s.sup.chans ∧ (cutMargins s).sup.pods = s.sup.pods ∧
    (cutMargins s).sup.disOut = s.sup.disOut ∧ (cutMargins s).latched = s.latched := by
  obtain ⟨_, _, _, h⟩ := cutMargins_eq s
  simp [h]

@[simp] theorem crashPods_frame (s : State) :
    (crashPods s).sup.chans = s.sup.chans ∧ (crashPods s).sup.margins = s.sup.margins ∧
    (crashPods s).sup.disOut = s.sup.disOut ∧ (crashPods s).latched = s.latched := by
  obtain ⟨_, _, _, _, h⟩ := crashPods_eq s
  simp [h]

@[simp] theorem assertFlagged_frame (s : State) :
    (assertFlagged s).sup.chans = s.sup.chans ∧ (assertFlagged s).sup.margins = s.sup.margins ∧
    (assertFlagged s).sup.pods = s.sup.pods ∧ (assertFlagged s).latched = s.latched := by
  obtain ⟨_, _, h⟩ := assertFlagged_eq s
  simp [h]

theorem dropRails_off (s : State) {c : Nat} (h : c < 96) : railOff c (dropRails s) :=
  each_all (P := railOff) (fun _ _ => railOff_dropRail (.inl rfl)) (fun _ _ _ hy => railOff_dropRail (.inr hy)) channels s c
    (List.mem_range.mpr h)

/-- The margin stage cuts every active margin short, and leaves the idle ones idle. -/
theorem cutMargins_cut (s : State) (c : Nat) :
    (margin (cutMargins s) c).st = .idle ∧ ((margin s c).st ≠ .idle → marginCut c (cutMargins s)) := by
  have hcut : (margin s c).st ≠ .idle → marginCut c (cutMargins s) := fun h =>
    each_all (P := marginCut) (fun _ _ => marginCut_cutMargin (.inl rfl)) (fun _ _ _ hy => marginCut_cutMargin (.inr hy)) _ s c
      (mem_activeMargins h)
  refine ⟨?_, hcut⟩
  by_cases h : (margin s c).st = .idle
  · refine each_holds (P := fun t => (margin t c).st = .idle) (fun t x ht => ?_) _ s h
    rw [margin_cutMargin]
    split
    · rfl
    · exact ht
  · exact (hcut h).1

theorem crashPods_crashed (s : State) {p : Nat} (hp : p < 48) (hu : (pod s p).inUse = true) :
    (pod (crashPods s) p).st = .crashed :=
  each_all (P := fun p t => (pod t p).st = .crashed) (fun t x => by rw [st_crashPod, if_pos rfl])
    (fun t x y hy => by rw [st_crashPod, hy, ite_self]) _ s p (mem_podsInUse_iff.mpr ⟨hp, hu⟩)

/-- The output of the channel is asserted, where it is flagged for crash. -/
def flagAsserted (c : Nat) (s : State) : Prop :=
  disEn (disCfg s c) = true → disOnCrash (disCfg s c) = true → asserted s (disOutOf (disCfg s c)) = true

@[simp] theorem disCfg_assertAtCrash (s : State) (x c : Nat) : disCfg (assertAtCrash s x) c = disCfg s c := by
  obtain ⟨_, _, h⟩ := assertAtCrash_eq s x
  rw [h]
  rfl

theorem assertFlagged_flagged (s : State) {c : Nat} (h : c < 96) : flagAsserted c (assertFlagged s) := by
  refine each_all (P := flagAsserted) (fun s x => ?_) (fun s x y hy => ?_) channels s c (List.mem_range.mpr h)
  · unfold flagAsserted
    rw [disCfg_assertAtCrash]
    exact asserted_assertAtCrash_flagged
  · unfold flagAsserted
    rw [disCfg_assertAtCrash]
    exact fun he hc => asserted_assertAtCrash x (hy he hc)

theorem assertFlagged_keeps {s : State} {n : Nat} (h : asserted s n = true) : asserted (assertFlagged s) n = true :=
  each_holds (P := fun t => asserted t n = true) (fun _ c ht => asserted_assertAtCrash c ht) channels s h

/-! ## The crash tick as a whole (R214, R217) -/

/-- What the crash tick latches, before it goes through rails, margins, pods and outputs. -/
def latchCrash (s : State) (code src : Nat) (later entry : Bool) : State :=
  let u := abandonHusk (setMode s .crash)
  let u := modRec u fun r => { r with
    cap := some (capture u (prior s) code src later), commit := .waiting, commitEnded := false }
  modCrash u fun k => { k with
    latched := true, originator := !decide (code = 8), clearing := false, auto := false, cause := code, source := src
    time := u.clk.time, frame := frame u, slot := slotOf u.clk.time, noArb := decide (s.sup.line.index = 15) || entry
    arbResult := if decide (s.sup.line.index = 15) && !entry then 0x100F else 0x000F, arbTime := 0, ownTime := 0 }

theorem enterCrash_stages (s : State) (code src : Nat) (later entry : Bool) : enterCrash s code src later entry =
    raise (crashLine (discardTacts (assertFlagged (crashPods (cutMargins (dropRails (latchCrash s code src later entry))))))
      (!decide (code = 8)) (decide (s.sup.line.index = 15) || entry)) 0 := rfl

/-- The crash register of the crash tick. -/
def crashReport (s : State) (code src : Nat) (entry : Bool) : Crash := { s.sup.crash with
  latched := true, originator := !decide (code = 8), clearing := false, auto := false, cause := code, source := src
  time := s.clk.time, frame := frame s, slot := slotOf s.clk.time, noArb := decide (s.sup.line.index = 15) || entry
  arbResult := if decide (s.sup.line.index = 15) && !entry then 0x100F else 0x000F, arbTime := 0, ownTime := 0 }

theorem latchCrash_eq {s : State} (h : s.sup.mode ≠ .crash) (code src : Nat) (later entry : Bool) :
    ∃ r n i a b t e g k w, r.commit = .waiting ∧ r.cap.isSome = true ∧ latchCrash s code src later entry = { s with
      sup := { s.sup with mode := .crash, crash := crashReport s code src entry }, recs := r, fresh := n
      evq := s.evq ++ [25], image := i, reqA := a, reqB := b, reqT := t, reqE := e, gal := g, ctrs := k, now := w } := by
  obtain ⟨r, i, a, b, t, e, g, k, w, h1⟩ := setMode_eq h
  obtain ⟨r', n, h2⟩ := abandonHusk_eq (setMode s .crash)
  unfold latchCrash
  rw [h2, h1]
  exact ⟨_, n, i, a, b, t, e, g, k, w, rfl, rfl, rfl⟩

/-- What the four stages leave alone of what the crash has latched. -/
theorem stages_keep (s : State) :
    let t := assertFlagged (crashPods (cutMargins (dropRails s)))
    t.sup.mode = s.sup.mode ∧ t.sup.crash = s.sup.crash ∧ t.recs = s.recs ∧ ∃ q, t.evq = s.evq ++ q := by
  obtain ⟨_, h1⟩ := dropRails_eq s
  obtain ⟨_, _, _, h2⟩ := cutMargins_eq (dropRails s)
  obtain ⟨_, q, _, _, h3⟩ := crashPods_eq (cutMargins (dropRails s))
  obtain ⟨_, _, h4⟩ := assertFlagged_eq (crashPods (cutMargins (dropRails s)))
  dsimp only
  rw [h4, h3, h2, h1]
  exact ⟨rfl, rfl, rfl, q, rfl⟩

/-- What the crash tick leaves of SUPERVISE, the record writer and the engine (R176, R198, R214, R217, R245, R326), told
against the state `s` in which the crash finds the device. -/
structure CrashEntry (s t : State) (code src tick : Nat) : Prop where
  mode : t.sup.mode = .crash
  latched : t.sup.crash.latched = true
  cause : t.sup.crash.cause = code
  source : t.sup.crash.source = src
  time : t.sup.crash.time = tick
  clearing : t.sup.crash.clearing = false
  commit : t.recs.commit = .waiting
  cap : t.recs.cap.isSome = true
  rails : ∀ c, c < 96 → railOff c t
  margins : ∀ c, (margin t c).st = .idle ∧ ((margin s c).st ≠ .idle → marginCut c t)
  pods : ∀ p, p < 48 → (pod s p).inUse = true → (pod t p).st = .crashed
  tacts : t.eng.tacts = []
  flagged : ∀ c, c < 96 → disEn (disCfg s c) = true → disOnCrash (disCfg s c) = true →
    asserted t (disOutOf (disCfg s c)) = true
  outputs : ∀ n, asserted s n = true → asserted t n = true
  holds : t.sup.line.holding = true ∨ t.sup.line.origHold = true

theorem asserted_of_disOut {s t : State} (h : t.sup.disOut = s.sup.disOut) (n : Nat) : asserted t n = asserted s n := by
  unfold asserted disOut
  rw [h]

/-- Where a device originates its crash, the line unit drives FLT low from the crash tick on (R245). -/
theorem crashLine_holds (s : State) (noArb : Bool) :
    (crashLine s true noArb).sup.line.holding = true ∨ (crashLine s true noArb).sup.line.origHold = true := by
  cases noArb
  · exact .inr rfl
  · exact .inl rfl

/-- A crash of a device that originates it: what the crash tick leaves. -/
theorem crashEntry_enterCrash {s : State} (h : s.sup.mode ≠ .crash) {code : Nat} (hc : code ≠ 8) (src : Nat)
    (later entry : Bool) : CrashEntry s (enterCrash s code src later entry) code src s.clk.time := by
  obtain ⟨r, n, i, a, b, t, e, g, k, w, hcommit, hcap, hu⟩ := latchCrash_eq h code src later entry
  rw [enterCrash_stages]
  generalize latchCrash s code src later entry = u at hu
  obtain ⟨hmode, hcrash, hrecs, -⟩ := stages_keep u
  have hrails : ∀ c, c < 96 → railOff c (assertFlagged (crashPods (cutMargins (dropRails u)))) := fun c h96 => by
    simpa [railOff, chan] using dropRails_off u h96
  have hmargins : ∀ c, (margin (assertFlagged (crashPods (cutMargins (dropRails u)))) c).st = .idle ∧
      ((margin s c).st ≠ .idle → marginCut c (assertFlagged (crashPods (cutMargins (dropRails u))))) := fun c => by
    simpa [marginCut, margin, hu] using cutMargins_cut (dropRails u) c
  have hpods : ∀ p, p < 48 → (pod s p).inUse = true →
      (pod (assertFlagged (crashPods (cutMargins (dropRails u)))) p).st = .crashed := fun p hp hin => by
    simpa [pod] using crashPods_crashed (cutMargins (dropRails u)) hp (by simpa [pod, hu] using hin)
  have hflagged := fun c h96 => assertFlagged_flagged (crashPods (cutMargins (dropRails u))) (c := c) h96
  have houtputs := fun n (hn : asserted s n = true) =>
    assertFlagged_keeps (s := crashPods (cutMargins (dropRails u))) (n := n)
      ((asserted_of_disOut (by simp [hu]) n).trans hn)
  have hcfg : ∀ c, disCfg (assertFlagged (crashPods (cutMargins (dropRails u)))) c = disCfg s c := fun c => by
    simp [disCfg, chanCfg, cfg, hu]
  generalize assertFlagged (crashPods (cutMargins (dropRails u))) = v at *
  rw [hu] at hmode hcrash hrecs
  rw [decide_eq_false hc]
  exact {
    mode := hmode
    latched := congrArg Crash.latched hcrash
    cause := congrArg Crash.cause hcrash
    source := congrArg Crash.source hcrash
    time := congrArg Crash.time hcrash
    clearing := congrArg Crash.clearing hcrash
    commit := (congrArg Rec.commit hrecs).trans hcommit
    cap := (congrArg (fun r => r.cap.isSome) hrecs).trans hcap
    rails := hrails
    margins := hmargins
    pods := hpods
    tacts := rfl
    flagged := fun c h96 => hcfg c ▸ hflagged c h96
    outputs := houtputs
    holds := crashLine_holds _ _ }

/-- The events of the crash tick: 0 and 25, behind those that wait (R217, R340). -/
theorem evq_enterCrash {s : State} (h : s.sup.mode ≠ .crash) (code src : Nat) (later entry : Bool) :
    ∃ q, (enterCrash s code src later entry).evq = s.evq ++ [25] ++ q ++ [0] := by
  obtain ⟨r, n, i, a, b, t, e, g, k, w, -, -, hu⟩ := latchCrash_eq h code src later entry
  obtain ⟨-, -, -, q, hq⟩ := stages_keep (latchCrash s code src later entry)
  rw [enterCrash_stages]
  generalize assertFlagged (crashPods (cutMargins (dropRails (latchCrash s code src later entry)))) = v at hq
  rw [hu] at hq
  exact ⟨q, congrArg (· ++ [0]) hq⟩

end Sys2Proof.Machine
end

section
/-!
SUPPORT. What the end of a tick leaves alone: the line unit's receiver, a firing timed action and the engine's share of the
tick change nothing that lies around them, the time least of all, unless an image's activation puts the device into reset.
-/
namespace Sys2Proof.Machine

/-! ## The surroundings -/

/-- What lies around SUPERVISE, the store's fields and the engine: power, clock, BOOT, the settings latched for the frame,
the two-wire target, the self-test in progress, the request in service and the accesses that wait for the port. -/
def around (s : State) : Power × Clock × Boot × Map Nat × Twi × Option (Nat × Nat) × Odp × List Access :=
  (s.pwr, s.clk, s.boot, s.latched, s.twi, s.bist.run, s.odp, s.hostQ)

theorem around_of_unrouted {s t : State} (h : unrouted s = unrouted t) : around s = around t :=
  of_unrouted around (fun _ => rfl) h

/-- The plain updates that leave the surroundings. -/
@[simp] theorem around_updates (s : State) :
    (∀ f, around (modEng s f) = around s) ∧ (∀ f, around (modRec s f) = around s) ∧
    (∀ f, around (modImage s f) = around s) ∧ (∀ f, around (modLine s f) = around s) ∧
    (∀ f, around (modCrash s f) = around s) ∧ (∀ c v, around (setConv s c v) = around s) ∧
    (∀ c f, around (modConv s c f) = around s) ∧ (∀ p f, around (modPod s p f) = around s) ∧
    (∀ k v, around (setField s k v) = around s) ∧ (∀ n b, around (setBall s n b) = around s) ∧
    (∀ e, around (raise s e) = around s) ∧ ∀ a x, around (accept s a x) = around s :=
  ⟨fun _ => rfl, fun _ => rfl, fun _ => rfl, fun _ => rfl, fun _ => rfl, fun _ _ => rfl, fun _ _ => rfl, fun _ _ => rfl,
    fun _ _ => rfl, fun _ _ => rfl, fun _ => rfl, fun _ _ => rfl⟩

@[simp] theorem around_setReq (s : State) (r : Requester) (q : ReqState) : around (setReq s r q) = around s := by
  cases r <;> rfl

@[simp] theorem around_modReq (s : State) (r : Requester) (f : ReqState → ReqState) : around (modReq s r f) = around s :=
  around_setReq s r _

@[simp] theorem around_occ (s : State) (lo n code times : Nat) : around (occ s lo n code times) = around s :=
  around_of_unrouted (unrouted_occ s lo n code times)

@[simp] theorem around_flush (s : State) : around (flush s) = around s := around_of_unrouted (unrouted_flush s)

@[simp] theorem around_bothCopies (s : State) (f : State → State) : around (bothCopies s f) = around (f s) :=
  around_of_unrouted (unrouted_bothCopies s f)

@[simp] theorem around_served (s : State) (r : Requester) : around (served s r) = around s :=
  around_of_unrouted (unrouted_served s r)

theorem around_ite (c : Prop) [Decidable c] (a b : State) :
    around (if c then a else b) = if c then around a else around b := apply_ite around c a b

@[simp] theorem around_candidate (s : State) (kind cause source f d0 d1 : Nat) :
    around (candidate s kind cause source f d0 d1) = around s := by
  obtain ⟨_, _, _, _, h⟩ := candidate_eq s kind cause source f d0 d1
  rw [h]
  rfl

/-! ## A crash, by a command or by a FAULT (R214 to R218) -/

@[simp] theorem around_enterCrash {s : State} (h : s.sup.mode ≠ .crash) (code src : Nat) (later entry : Bool) :
    around (enterCrash s code src later entry) = around s := by
  obtain ⟨_, _, _, _, _, _, _, _, _, _, -, -, hu⟩ := latchCrash_eq h code src later entry
  obtain ⟨_, h1⟩ := dropRails_eq (latchCrash s code src later entry)
  obtain ⟨_, _, _, h2⟩ := cutMargins_eq (dropRails (latchCrash s code src later entry))
  obtain ⟨_, _, _, _, h3⟩ := crashPods_eq (cutMargins (dropRails (latchCrash s code src later entry)))
  obtain ⟨_, _, h4⟩ := assertFlagged_eq (crashPods (cutMargins (dropRails (latchCrash s code src later entry))))
  rw [enterCrash_stages, h4, h3, h2, h1, hu]
  rfl

@[simp] theorem around_addLater (s : State) (k : Nat × Nat) : around (addLater s k) = around s := by
  have h : around (laterFault s k.1 k.2) = around s := around_candidate ..
  unfold addLater
  dsimp only
  split
  · split
    · exact h
    · exact h
  · exact h

@[simp] theorem around_takeFirst (s : State) (code src : Nat) : around (takeFirst s code src) = around s := by
  unfold takeFirst
  dsimp only
  split
  · simp
  · split <;> simp [crashLine]

@[simp] theorem around_causeInCrash (s : State) (k : Nat × Nat) : around (causeInCrash s k) = around s := by
  simp [causeInCrash, around_ite]

@[simp] theorem around_crash (s : State) (l : List (Nat × Nat)) : around (crash s l) = around s := by
  unfold crash
  split
  · rfl
  · split
    · exact each_keep around causeInCrash around_causeInCrash _ _
    · rfl
    · rfl
    · next hc _ _ => exact (each_keep around addLater around_addLater _ _).trans (around_enterCrash hc _ _ _ _)

@[simp] theorem around_crashCmd (s : State) (r : Requester) : around (crashCmd s r) = around s := by
  unfold crashCmd
  split
  · rfl
  · rfl
  · simp [around_ite]
  · simp

/-! ## The receiver (R229, R230, R239, R244) -/

@[simp] theorem around_discardCommand (s : State) (code : Nat) : around (discardCommand s code) = around s := by
  unfold discardCommand
  split
  · rfl
  · dsimp only
    split <;> simp

@[simp] theorem around_cancelClearing (s : State) : around (cancelClearing s) = around s := by
  simp [cancelClearing, laterFault]

@[simp] theorem around_recogniseFault (s : State) : around (recogniseFault s) = around s := by
  unfold recogniseFault
  dsimp only
  split
  · simp
  · simp
  · repeat' split
    all_goals simp
  · simp [faultCrash]

@[simp] theorem around_relisten (s : State) : around (relisten s) = around s := by simp [relisten]

@[simp] theorem around_align (s : State) (e : Nat) : around (align s e) = around s := by
  unfold align
  dsimp only
  split <;> simp

@[simp] theorem around_syncPulse (s : State) (e : Nat) : around (syncPulse s e) = around s := by
  unfold syncPulse
  dsimp only
  split
  · rfl
  · simp
  · split <;> simp
  · split
    · simp
    · split <;> simp

@[simp] theorem around_lineCommand (s : State) (up : Bool) : around (lineCommand s up) = around s := by
  have hpod : ∀ (u : State) (a : List Request) (c : Bool) (p : Nat) (f : Pod → Pod),
      around (if c then modPod { u with accepted := a } p f else { u with accepted := a }) = around u := by
    intro u a c p f
    cases c <;> rfl
  unfold lineCommand
  split
  case h_5 => rfl
  all_goals exact each_keep around _ (fun u p => hpod u _ _ p _) _ _

@[simp] theorem around_heartbeat (s : State) (i : Nat) : around (heartbeat s i) = around s := by
  unfold heartbeat
  dsimp only
  split <;> simp

@[simp] theorem around_shortPulse (s : State) (e : Nat) : around (shortPulse s e) = around s := by
  unfold shortPulse
  dsimp only
  repeat' split
  all_goals simp

@[simp] theorem around_faultEnds (s : State) (h : Nat) : around (faultEnds s h) = around s := by
  unfold faultEnds
  dsimp only
  split <;> simp

@[simp] theorem around_lowEnds (s : State) (n : Nat) : around (lowEnds s n) = around s := by
  unfold lowEnds
  dsimp only
  repeat' split
  all_goals simp

theorem around_sampleFlt (s : State) : around (sampleFlt s) = around s := by
  unfold sampleFlt
  dsimp only
  repeat' split
  all_goals simp [falls]

theorem around_sampleArb (s : State) : around (sampleArb s) = around s := by
  unfold sampleArb
  repeat' split
  all_goals simp

/-- The receiver's share of a tick leaves the surroundings. -/
theorem around_receive (s : State) : around (receive s) = around s := by
  have h : around (sampleArb (sampleFlt s)) = around s := (around_sampleArb _).trans (around_sampleFlt s)
  unfold receive
  dsimp only
  split
  · exact (around_recogniseFault _).trans h
  · exact h

theorem around_passWindows (s : State) : around (passWindows s) = around s := by
  have hj : ∀ (u : State) (i : Nat), around (judgeWindow u i) = around u := by
    intro u i
    unfold judgeWindow
    dsimp only
    repeat' split
    all_goals simp
  unfold passWindows
  split
  · refine each_keep around _ (fun u i => ?_) _ _
    split
    · exact hj u i
    · rfl
  · rfl

end Sys2Proof.Machine
end

section
/-!
SUPPORT. The writes of the store and the instructions of the engine leave the surroundings, but for an image's activation, which
puts the device into reset (R391).
-/
namespace Sys2Proof.Machine

/-! ## Into reset, or nothing around has changed -/

/-- The device has come into reset, or its surroundings are as they were. -/
def steady (s t : State) : Prop := t.pwr.held = true ∨ around t = around s

theorem steady_of_around {s t : State} (h : around t = around s) : steady s t := .inr h

/-- Surroundings that stand alike hold the reset alike. -/
theorem held_of_around {s t : State} (h : around t = around s) : t.pwr.held = s.pwr.held :=
  congrArg (fun a => a.1.held) h

theorem steady_comp {s t u : State} (h1 : steady s t) (h2 : steady t u) : steady s u :=
  h2.elim .inl fun h => h1.imp (fun ht => (held_of_around h).trans ht) fun ht => h.trans ht

theorem steady_trans {s t u : State} (h1 : steady s t) (h2 : around u = around t) : steady s u :=
  steady_comp h1 (steady_of_around h2)

theorem steady_of_eq {s t u : State} (h1 : around t = around s) (h2 : steady t u) : steady s u :=
  steady_comp (steady_of_around h1) h2

theorem steady_ite {s a b : State} {c : Prop} [Decidable c] (ha : steady s a) (hb : steady s b) :
    steady s (if c then a else b) := by
  split
  · exact ha
  · exact hb

/-- An image's activation holds the reset (R391). -/
theorem held_imageActivate (s : State) : (imageActivate s).pwr.held = true := by
  have hwrite : ∀ (t : State) (a n : Nat), (cutWrite t a n).pwr = t.pwr := fun _ _ _ => rfl
  have hcut : ∀ t : State, (cutWrites t).pwr = t.pwr := by
    intro t
    unfold cutWrites
    dsimp only
    repeat' split
    all_goals simp only [hwrite]
  have htorn : ∀ t : State, (tornChunk t).pwr = t.pwr := by
    intro t
    unfold tornChunk
    split <;> rfl
  simp [imageActivate, enterReset, resetState, hcut, htorn]

/-! ## What a write starts -/

@[simp] theorem around_stage (s : State) (r : Requester) (key v : Nat) : around (stage s r key v) = around s := by
  unfold stage
  dsimp only
  split <;> simp

@[simp] theorem around_rwWrite (s : State) (r : Requester) (key v : Nat) : around (rwWrite s r key v) = around s := by
  unfold rwWrite
  repeat' split
  all_goals rfl

@[simp] theorem around_holdMask (s : State) (key : Nat) : around (holdMask s key) = around s := by
  unfold holdMask
  repeat' split
  all_goals rfl

@[simp] theorem around_commitWrite (s : State) (r : Requester) (v : Nat) : around (commitWrite s r v) = around s := by
  unfold commitWrite
  dsimp only
  repeat' split
  all_goals simp

@[simp] theorem around_modeAsk (s : State) (r : Requester) (keyed : Bool) (v : Nat) :
    around (modeAsk s r keyed v) = around s := by
  unfold modeAsk
  split <;> simp

@[simp] theorem around_urgentStat (s : State) (g : Nat) (src : UrgentSrc) (code : Nat) :
    around (urgentStat s g src code) = around s := by
  unfold urgentStat
  split <;> simp

theorem around_reorder (s : State) (g : Nat) (u : Urgent) : around (reorder s g u).1 = around s := by
  unfold reorder
  dsimp only
  repeat' split
  all_goals simp

theorem around_assign (s : State) (g k : Nat) (u : Urgent) : around (assign s g k u) = around s := by
  unfold assign
  dsimp only
  repeat' split
  all_goals simp

@[simp] theorem around_urgentWrite (s : State) (r : Requester) (g entry : Nat) : around (urgentWrite s r g entry) = around s := by
  unfold urgentWrite
  split
  · exact (around_assign _ _ _ _).trans (around_reorder _ _ _)
  · simp

@[simp] theorem around_lineCmd (s : State) (r : Requester) (up : Bool) : around (lineCmd s r up) = around s := by
  unfold lineCmd
  dsimp only
  repeat' split
  all_goals simp [refuseCommand, around_ite]

@[simp] theorem around_clearCrash (s : State) : around (clearCrash s) = around s := by
  unfold clearCrash
  split <;> simp [beginClearing]

@[simp] theorem around_stopEngine (s : State) (st : EngSt) : around (stopEngine s st) = around s := rfl

@[simp] theorem around_engineCommand (s : State) (v : Nat) : around (engineCommand s v) = around s := by
  unfold engineCommand
  repeat' split
  all_goals rfl

@[simp] theorem around_counterClear (s : State) (k v : Nat) : around (counterClear s k v) = around s := by
  unfold counterClear
  dsimp only
  repeat' split
  all_goals rfl

@[simp] theorem around_outWrite (s : State) (r : Requester) (n key v : Nat) : around (outWrite s r n key v) = around s := by
  unfold outWrite untilEdge
  dsimp only
  repeat' split
  all_goals simp

@[simp] theorem around_lockWrite (s : State) (r : Requester) (half : Bool) (v : Nat) :
    around (lockWrite s r half v) = around s := by
  unfold lockWrite
  split
  · simp
  · split <;> rfl

@[simp] theorem around_progWrite (s : State) (r : Requester) (v : Nat) : around (progWrite s r v) = around s := by
  simp [progWrite, progStep]

@[simp] theorem around_progClear (s : State) (v : Nat) : around (progClear s v) = around s := by
  unfold progClear
  split <;> simp

@[simp] theorem around_testNow (s : State) (v : Nat) : around (testNow s v) = around s := by
  unfold testNow
  split <;> rfl

@[simp] theorem around_imageChunk (s : State) (bs : List Byte) : around (imageChunk s bs) = around s := by
  unfold imageChunk
  dsimp only
  split <;> simp

@[simp] theorem around_imageKeyed (s : State) (keyed : Bool) (sub v : Nat) : around (imageKeyed s keyed sub v) = around s := by
  unfold imageKeyed
  repeat' split
  all_goals simp

theorem steady_imageCommand (s : State) (keyed : Bool) (v : Nat) : steady s (imageCommand s keyed v) := by
  unfold imageCommand
  split
  · refine steady_of_around ?_
    unfold imageBegin
    dsimp only
    repeat' split
    all_goals simp
  · refine steady_of_around ?_
    unfold imageVerify
    dsimp only
    split <;> simp
  · split
    · exact .inl (held_imageActivate s)
    · exact steady_of_around (by simp)
  · exact steady_of_around rfl
  · exact steady_of_around rfl

/-- The effect of a write (R14, R58): only a command to an image can end in a reset. -/
theorem steady_writeEffect (s : State) (r : Requester) (h : KeyState × Bool × Bool) (o : Obj) (f : Field) (idx sub v : Nat) :
    steady s (writeEffect s r h o f idx sub v) := by
  unfold writeEffect
  dsimp only
  split
  case h_2 => exact steady_of_around rfl
  case h_16 =>
    split
    · exact steady_imageCommand s _ v
    · refine steady_of_around ?_
      repeat' split
      all_goals simp
  all_goals refine steady_of_around ?_
  all_goals
    repeat' split
  all_goals simp [podAsk, marginAsk, marginStat, keyWrite, selectView]

/-! ## Writes and accesses at the store port (R77, R80) -/

@[simp] theorem around_disarm (s : State) (r : Requester) : around (disarm s r) = around s := by simp [disarm]

theorem steady_writeField (s : State) (r : Requester) (fp : Bool) (idx sub v : Nat) :
    steady s (writeField s r fp idx sub v) := by
  have h : around (modReq (disarm s r) r fun q => { q with gather := none }) = around s := by simp
  unfold writeField
  dsimp only
  split
  · split
    · exact steady_of_eq h (steady_writeEffect _ _ _ _ _ _ _ _)
    · exact steady_of_around (by simp)
  · exact steady_of_around (by simp)

@[simp] theorem around_gatherWord (s : State) (r : Requester) (key : Nat) (ws : List Nat) :
    around (gatherWord s r key ws) = around s := by
  unfold gatherWord
  dsimp only
  split <;> simp

theorem steady_writeCore (s : State) (r : Requester) (fp : Bool) (idx sub k v : Nat) :
    steady s (writeCore s r fp idx sub k v) := by
  unfold writeCore
  dsimp only
  split
  · exact steady_writeField ..
  · split
    · exact steady_of_around (by simp)
    · split
      · split
        · split
          · exact steady_writeField ..
          · exact steady_of_around (by simp)
        · refine steady_of_around ?_
          split <;> simp
      · exact steady_of_around (by simp)

theorem around_noteSample (s : State) (idx sub : Nat) (place : SamplePlace) :
    around (noteSample s idx sub place) = around s := by
  unfold noteSample
  repeat' split
  all_goals rfl

theorem around_noteRead (s : State) (r : Requester) (fp : Bool) (idx sub : Nat) (place : SamplePlace) :
    around (noteRead s r fp idx sub place) = around s := by
  unfold noteRead
  split
  · split
    · exact around_noteSample ..
    · rfl
  · rfl

theorem around_readField (s : State) (r : Requester) (fp : Bool) (idx sub : Nat) :
    around (readField s r fp idx sub).1 = around s := by
  unfold readField
  split
  · split
    · simp
    · dsimp only
      repeat' split
      all_goals simp [progStep, around_noteSample]
  · simp

theorem around_readCore (s : State) (r : Requester) (fp : Bool) (idx sub k : Nat) :
    around (readCore s r fp idx sub k).1 = around s := by
  unfold readCore
  split
  · split
    · simp
    · split
      · exact around_readField ..
      · split
        · split <;> simp
        · rfl
  · simp

theorem steady_accessEffect (s : State) (a : Access) : steady s (accessEffect s a) := by
  unfold accessEffect
  dsimp only
  split
  · exact steady_of_around (around_readCore ..)
  · exact steady_writeField ..
  · refine steady_of_around ?_
    unfold chunkWrite
    dsimp only
    split <;> simp

theorem steady_portWord (s : State) (a : Access) : steady s (portWord s a).1 := by
  unfold portWord
  split
  · exact steady_of_around rfl
  · split
    · exact steady_of_around (around_served ..)
    · exact steady_of_eq (around_served s a.req) (steady_accessEffect _ a)

/-! ## Instructions (R318) -/

@[simp] theorem around_goto (s : State) (a : PAddr) (f : Eng → Eng) : around (goto s a f) = around s := by simp [goto]

@[simp] theorem around_next (s : State) (f : Eng → Eng) : around (next s f) = around s := around_goto ..

@[simp] theorem around_trap (s : State) (cause : Nat) : around (trap s cause) = around s := by
  unfold trap
  dsimp only
  split <;> simp [discardFieldTacts]

@[simp] theorem around_jump (s : State) (a : PAddr) (f : Eng → Eng) : around (jump s a f) = around s := by
  unfold jump
  split <;> simp

@[simp] theorem around_haltEngine (s : State) : around (haltEngine s) = around s := rfl

/-- An instruction reserved to integrator privilege does what it does, or traps (R314). -/
theorem around_intOnly {s : State} {op : State → State} (h : around (op s) = around s) :
    around (intOnly s op) = around s := by
  unfold intOnly
  split
  · simp
  · exact h

@[simp] theorem around_takeIrq (s : State) : around (takeIrq s) = around s := by
  unfold takeIrq
  dsimp only
  split <;> simp

@[simp] theorem around_recogniseDue (s : State) : around (recogniseDue s) = around s := by
  unfold recogniseDue
  split <;> rfl

@[simp] theorem around_skidStep (b s : State) : around (skidStep b s) = around s := by
  unfold skidStep
  split
  · split <;> simp
  · rfl

/-- An instruction is as steady as its operation: the skid, the interrupt and a trap leave the surroundings. -/
theorem steady_instrEffect {op : State → State} (h : ∀ s, steady s (op s)) (s : State) : steady s (instrEffect s op) := by
  have hidle : ∀ t : State, around ({ modEng t (fun e => { e with busy := 0, read := none }) with
      now := { t.now with ran := true } }) = around t := fun _ => rfl
  unfold instrEffect
  split
  · dsimp only
    refine steady_trans ?_ (around_skidStep ..)
    refine steady_of_eq ((hidle _).trans (around_recogniseDue s)) ?_
    split
    · exact h _
    · exact steady_of_around (around_trap ..)
  · exact steady_of_around rfl

/-- What the command of an instruction answers is as steady as its operation. -/
theorem steady_instr {op : State → State} (h : ∀ s, steady s (op s)) (s : State) (i : Instr) :
    ∃ t, instr s i op = .next t ∧ steady s t := by
  have hi : steady s (if s.eng.rows = [] then instrEffect s op else if executing s then queueRow s (.instr i) else s) := by
    split
    · exact steady_instrEffect h s
    · refine steady_of_around ?_
      split <;> rfl
  exact ⟨_, rfl, steady_trans hi ((around_flush _).trans (around_bothCopies _ _))⟩

theorem around_drdRead (s : State) (ra : Fin 16) (imm : Word) : around (drdRead s ra imm).1 = around s :=
  (around_readCore _ _ _ _ _ _).trans (around_served _ _)

theorem around_drdNote (s : State) (ra : Fin 16) (imm : Word) (place : SamplePlace) :
    around (drdNote s ra imm place) = around s := by
  unfold drdNote
  dsimp only
  split
  · exact around_noteRead ..
  · rfl

theorem around_drdEnd (s : State) (rd : Fin 16) (v : Nat) : around (drdEnd rd v s) = around s := by simp [drdEnd]

theorem around_drd (s : State) (rd ra : Fin 16) (imm : Word) : around (drd rd ra imm s) = around s :=
  (around_drdEnd _ _ _).trans ((around_drdNote _ _ _ _).trans (around_drdRead s ra imm))

theorem steady_dwrEnd (s : State) (rd ra : Fin 16) (imm : Word) : steady s (dwrEnd rd ra imm s) :=
  steady_trans (steady_writeCore s .eng s.eng.field imm.toNat (dictSub (reg s.eng ra)) (dictWordNo (reg s.eng ra))
    (reg s.eng rd).toNat) ((around_occ ..).trans (around_next ..))

theorem steady_dwr (s : State) (rd ra : Fin 16) (imm : Word) : steady s (dwr rd ra imm s) :=
  steady_of_eq (around_served s .eng) (steady_dwrEnd _ rd ra imm)

/-- An instruction's meaning is steady: only a DWR could end in a reset. -/
theorem steady_runInstr (s : State) (i : Instr) : steady s (runInstr s i) := by
  have answers : ∀ {o : Host.Outcome State Fault Refusal}, (∃ t, o = .next t ∧ steady s t) →
      steady s (match o with | .next t => t | _ => s) := by
    rintro _ ⟨t, rfl, ht⟩
    exact ht
  have illegal : steady s (match execIllegal s with | .next t => t | _ => s) :=
    answers (steady_instr (fun u => steady_of_around (around_trap u 1)) s _)
  cases i
  case drd => exact steady_instrEffect (fun u => steady_of_around (around_drd u _ _ _)) s
  case dwr => exact steady_instrEffect (fun u => steady_dwr u _ _ _) s
  case nop | add | sub | and | or | xor | shl | shr | asr | mul | mulh | cmp | ldi | addi | andi | ori | xori | cmpi | shli
      | shri | timeFrameLow | timeFrameHigh | timeTick =>
    exact answers (steady_instr (fun u => steady_of_around (around_next u _)) s _)
  case halt | sigA | sigB | waitf | waite => exact answers (steady_instr (fun u => steady_of_around (by simp)) s _)
  case ei | di | fcall | reti | getev | ld | st | b | call | jr | fret =>
    exact answers (steady_instr (fun u => steady_of_around (by simp [around_intOnly, around_ite])) s _)
  case ret =>
    refine answers (steady_instr (fun u => steady_of_around ?_) s _)
    split
    · simp
    · split <;> simp
  case tact =>
    refine answers (steady_instr (fun u => steady_of_around ?_) s _)
    dsimp only
    repeat' split
    all_goals simp
  all_goals exact illegal

/-! ## The engine's share of a tick (R321, R325, R327) -/

theorem around_portAccess (s : State) (i : Instr) : around (portAccess s i) = around s := by
  unfold portAccess
  split
  · split
    · exact (around_drdNote _ _ _ _).trans (around_drdRead ..)
    · exact around_served ..
    · rfl
  · rfl

@[simp] theorem around_contend (s : State) : around (contend s) = around s := by
  unfold contend
  split
  · rfl
  · exact around_occ ..

@[simp] theorem around_contendHost (s : State) : around (contendHost s) = around s := by
  unfold contendHost
  split <;> simp

theorem steady_endInstr (s : State) (i : Instr) : steady s (endInstr s i) := by
  unfold endInstr
  split
  · exact steady_instrEffect (fun u => steady_of_around (around_drdEnd u _ _)) s
  · exact steady_instrEffect (fun u => steady_dwrEnd u _ _ _) s
  · exact steady_runInstr s _

theorem steady_runTick (s : State) : steady s (runTick s) := by
  have hfirst : ∀ i, around (if storeAccess i then (if portDelay s = 0 then portAccess s i else contendHost s) else s) =
      around s := by
    intro i
    repeat' split
    all_goals simp [around_portAccess]
  have hlater : ∀ (i : Instr) (n : Nat),
      around (if storeAccess i then occEng (if n = 0 then portAccess s i else s) 4 1 else s) = around s := by
    intro i n
    repeat' split
    all_goals simp [around_portAccess]
  unfold runTick
  dsimp only
  split
  · exact steady_ite (steady_endInstr ..) (steady_of_around (hfirst _))
  · exact steady_endInstr ..
  · exact steady_of_around (hlater _ _)

theorem steady_runRow (s : State) (x : EngRow) : steady s (runRow s x).1 := by
  unfold runRow
  split
  · exact steady_runInstr ..
  · exact steady_portWord ..

theorem steady_headRow (s : State) (x : EngRow) (rest : List EngRow) : steady s (headRow s x rest) := by
  have h : steady s (runRow (modEng s fun e => { e with rows := [], rowWait := 0 }) x).1 :=
    steady_of_eq rfl (steady_runRow _ x)
  unfold headRow
  dsimp only
  split
  · exact h
  · exact steady_trans h rfl

theorem steady_rowTick (s : State) (x : EngRow) (rest : List EngRow) : steady s (rowTick s x rest) := by
  unfold rowTick
  split
  · split
    · exact steady_of_around rfl
    · split
      · exact steady_of_around (by simp)
      · exact steady_headRow ..
  · dsimp only
    split
    · exact steady_of_eq (around_occ ..) (steady_headRow ..)
    · exact steady_of_around (by simp)

theorem steady_engineShare (s : State) : steady s (engineShare s) := by
  unfold engineShare
  split
  · exact steady_of_around rfl
  · split
    · exact steady_rowTick ..
    · split
      · exact steady_of_around rfl
      · split
        · split
          · exact steady_of_around rfl
          · exact steady_of_eq (around_recogniseDue s) (steady_runTick _)
        · refine steady_of_around ?_
          split <;> simp [recogniseIrq]
        · refine steady_of_around ?_
          split <;> simp [recogniseIrq]
        · exact steady_of_around rfl

theorem steady_fireTact (s : State) : steady s (fireTact s) := by
  have hfired : ∀ u : State, around (occDict { u with now := { u.now with fired := true } } 3 1) = around u :=
    fun u => around_occ { u with now := { u.now with fired := true } } ..
  unfold fireTact
  split
  · next t rest _ =>
    have h : around (occEng (modEng s fun e => { e with tacts := rest, tactWait := false }) 8 1) = around s := by simp
    dsimp only
    generalize occEng (modEng s fun e => { e with tacts := rest, tactWait := false }) 8 1 = u at h
    exact steady_of_eq ((hfired u).trans h) (steady_writeField ..)
  · exact steady_of_around rfl

theorem steady_tactShare (s : State) : steady s (tactShare s) := by
  unfold tactShare
  split
  · split
    · refine steady_of_around ?_
      split <;> simp
    · exact steady_fireTact s
  · exact steady_of_around rfl

/-- What the device does by itself at the end of a tick leaves its surroundings, unless it ends in a reset. -/
theorem steady_tickWork (s : State) : steady s (tickWork s) := by
  have h : around (passWindows (receive s)) = around s := (around_passWindows _).trans (around_receive s)
  exact steady_comp (steady_of_eq h (steady_tactShare _)) (steady_engineShare _)

end Sys2Proof.Machine
end

section
/-!
SUPPORT. A commanded crash, a lockstep mismatch in its tick and in the next one, and what the balls show of them (R29 to R31,
R214, R217, R220, R245, R252).
-/
namespace Sys2Proof.Machine

/-! ## The modes that can crash (R215) -/

/-- A cause crashes a device in this mode: it is not in CRASH yet, nor in BOOT or SLEEP. -/
def canCrash (m : Mode) : Prop := m ≠ .crash ∧ m ≠ .boot ∧ m ≠ .sleep

theorem canCrash_of_mem {m : Mode} (h : m ∈ [Mode.standby, .ascend, .run, .descend, .service]) :
    canCrash m ∧ serviceable m = true := by
  unfold canCrash
  cases m <;> simp_all [serviceable]

/-- One cause crashes a device that can crash. -/
theorem crash_one {s : State} (h : canCrash s.sup.mode) (code src : Nat) :
    crash s [(code, src)] = enterCrash s code src false false := by
  obtain ⟨hc, hb, hs⟩ := h
  unfold crash
  dsimp only
  split
  · next hm => exact absurd hm hc
  · next hm => exact absurd hm hb
  · next hm => exact absurd hm hs
  · rfl

/-! ## What a crash entry needs of the states that it compares -/

/-- What a crash entry is told against: margins, pods, discharge outputs and the latched settings. -/
def crashBasis (s : State) : Map Margin × Map Pod × Map DisOut × Map Nat :=
  (s.sup.margins, s.sup.pods, s.sup.disOut, s.latched)

theorem CrashEntry.basis {s s' t : State} {code src tick : Nat} (h : CrashEntry s t code src tick)
    (hb : crashBasis s' = crashBasis s) : CrashEntry s' t code src tick := by
  simp only [crashBasis, Prod.mk.injEq] at hb
  obtain ⟨hm, hp, ho, hl⟩ := hb
  have hmargin : ∀ c, margin s' c = margin s c := fun c => by rw [margin, hm]; rfl
  have hpod : ∀ p, pod s' p = pod s p := fun p => by rw [pod, hp]; rfl
  have hcfg : ∀ c, disCfg s' c = disCfg s c := fun c => by rw [disCfg, chanCfg, cfg, hl]; rfl
  exact { h with
    margins := fun c => hmargin c ▸ h.margins c
    pods := fun p hp => hpod p ▸ h.pods p hp
    flagged := fun c hc => hcfg c ▸ h.flagged c hc
    outputs := fun n hn => h.outputs n ((asserted_of_disOut ho n).symm.trans hn) }

/-- What a crash entry says something of. -/
def crashTraces (t : State) : Mode × Crash × Commit × Bool × Map Chan × Map Margin × Map Pod × List Tact × Map DisOut × Line :=
  (t.sup.mode, t.sup.crash, t.recs.commit, t.recs.cap.isSome, t.sup.chans, t.sup.margins, t.sup.pods, t.eng.tacts,
    t.sup.disOut, t.sup.line)

theorem crashTraces_unrouted (s : State) : crashTraces (unrouted s) = crashTraces s := by
  simp [crashTraces, unrouted]

theorem CrashEntry.traces {s t u : State} {code src tick : Nat} (h : CrashEntry s t code src tick)
    (hu : crashTraces u = crashTraces t) : CrashEntry s u code src tick := by
  simp only [crashTraces, Prod.mk.injEq] at hu
  obtain ⟨hmode, hcrash, hcommit, hcap, hchans, hmargins, hpods, htacts, hout, hline⟩ := hu
  have hchan : ∀ c, chan u c = chan t c := fun c => by rw [chan, hchans]; rfl
  have hmargin : ∀ c, margin u c = margin t c := fun c => by rw [margin, hmargins]; rfl
  have hpod : ∀ p, pod u p = pod t p := fun p => by rw [pod, hpods]; rfl
  exact {
    mode := hmode.trans h.mode
    latched := hcrash ▸ h.latched
    cause := hcrash ▸ h.cause
    source := hcrash ▸ h.source
    time := hcrash ▸ h.time
    clearing := hcrash ▸ h.clearing
    commit := hcommit.trans h.commit
    cap := hcap.trans h.cap
    rails := fun c hc => by rw [railOff, hchan]; exact h.rails c hc
    margins := fun c => by rw [marginCut, hmargin]; exact h.margins c
    pods := fun p hp hin => by rw [hpod]; exact h.pods p hp hin
    tacts := htacts.trans h.tacts
    flagged := fun c hc he hcr => (asserted_of_disOut hout _).trans (h.flagged c hc he hcr)
    outputs := fun n hn => (asserted_of_disOut hout n).trans (h.outputs n hn)
    holds := hline ▸ h.holds }

/-! ## What a crash shows -/

/-- A crash as the registers, the events and the balls show it. -/
def crashShown (s t : State) (cause source tick : Nat) : Prop :=
  t.sup.mode = .crash ∧ t.sup.crash.latched = true ∧ t.sup.crash.cause = cause ∧ t.sup.crash.source = source ∧
  t.sup.crash.time = tick ∧ t.sup.crash.clearing = false ∧ t.recs.commit = .waiting ∧ t.recs.cap.isSome = true ∧
  (∀ c, c < 96 → (chan t c).enable = false ∧ (chan t c).st = .off ∧ (margin t c).st = .idle ∧
    ((margin s c).st ≠ .idle → (margin t c).outEn = false ∧ (margin t c).code = 0)) ∧
  (∀ p, p < 48 → (pod s p).inUse = true → (pod t p).st = .crashed) ∧
  t.eng.tacts = [] ∧ shows t 0 ∧ shows t 25 ∧
  (∀ c, c < 96 → enableBall t c = false ∧ ((margin s c).st ≠ .idle → marginBall t c = none) ∧
    (disEn (disCfg s c) = true → disOnCrash (disCfg s c) = true → asserted t (disOutOf (disCfg s c)) = true)) ∧
  (∀ n, asserted s n = true → asserted t n = true) ∧
  (bankDriven t 0 = true → safeN t = some false) ∧ fltLow t = true

theorem CrashEntry.shown {s t : State} {code src tick : Nat} (h : CrashEntry s t code src tick) (hr : running t = true)
    (h0 : shows t 0) (h25 : shows t 25) : crashShown s t code src tick := by
  have hawake : awake t = true := by
    simp only [running, Bool.and_eq_true] at hr
    simp [awake, hr.1]
  have hsafe : bankDriven t 0 = true → safeN t = some false := fun hb => by
    simp [safeN, hawake, hb, safeLevel, h.mode]
  have hflt : fltLow t = true := by
    have hd : drivesFlt t = true := by
      unfold drivesFlt
      obtain hl | hl := h.holds <;> simp [hl]
    simp [fltLow, hr, hd]
  exact ⟨h.mode, h.latched, h.cause, h.source, h.time, h.clearing, h.commit, h.cap,
    fun c hc => ⟨(h.rails c hc).1, (h.rails c hc).2, (h.margins c).1, fun hm => ((h.margins c).2 hm).2⟩,
    h.pods, h.tacts, h0, h25,
    fun c hc => ⟨by simp [enableBall, (h.rails c hc).1], fun hm => by simp [marginBall, ((h.margins c).2 hm).2.1],
      h.flagged c hc⟩,
    h.outputs, hsafe, hflt⟩

/-! ## The end of the command that crashes -/

/-- A device that can crash runs on in CRASH. -/
theorem running_crashed {s t : State} (hr : running s = true) (ha : t.pwr = s.pwr) (hm : t.sup.mode = .crash) :
    running t = true := by
  simp only [running, Bool.and_eq_true] at hr ⊢
  rw [ha, hm]
  exact ⟨hr.1, rfl⟩

/-- What a command answers whose effect `x` is a crash entry, with its events on their way. -/
theorem crashShown_finish {s x : State} {code src tick : Nat} (h : CrashEntry s x code src tick) (hr : running x = true)
    (h0 : 0 ∈ x.evq) (h25 : 25 ∈ x.evq) (l : List Instr) :
    crashShown s { flush x with causes := [], pending := l } code src tick := by
  have htraces : crashTraces (flush x) = crashTraces x := of_unrouted crashTraces crashTraces_unrouted (unrouted_flush x)
  have hrun : running (flush x) = running x := of_unrouted running (fun _ => rfl) (unrouted_flush x)
  exact CrashEntry.shown (h.traces htraces) (hrun.trans hr) ((status_flush x 0).mpr (.inr h0)) ((status_flush x 25).mpr (.inr h25))

/-! ## A commanded crash (R252) -/

theorem crashCmd_enters {s : State} (h : canCrash s.sup.mode) (r : Requester) :
    crashCmd s r = enterCrash s (commandCause r).1 (commandCause r).2 false false := by
  have h1 := crash_one h (commandCause r).1 (commandCause r).2
  obtain ⟨hc, hb, hs⟩ := h
  unfold crashCmd
  split
  · next hm => exact absurd hm hb
  · next hm => exact absurd hm hs
  · next hm => exact absurd hm hc
  · exact h1

theorem crashShown_crashCmd {s : State} {r : Requester} (hr : running s = true) (hw : canWrite s r 0x1600 7 0xC5 = true)
    (hm : (served s r).sup.mode ∈ [Mode.standby, .ascend, .run, .descend, .service]) :
    ∃ t, exec (.crashCmd r) s = .next t ∧
      crashShown (served s r) t (commandCause r).1 (commandCause r).2 (served s r).clk.time := by
  have hne : (commandCause r).1 ≠ 8 := by cases r <;> decide
  have hmode : canCrash (afterWrite (served s r) r).sup.mode := by
    simpa [afterWrite] using (canCrash_of_mem hm).1
  have hpresent : present s r 0x1600 7 0xC5 =
      enterCrash (afterWrite (served s r) r) (commandCause r).1 (commandCause r).2 false false :=
    (present_canWrite hw rfl rfl).trans (crashCmd_enters hmode r)
  obtain ⟨v, hv⟩ := bothCopies_eq s fun s => present s r 0x1600 7 0xC5
  have hentry := crashEntry_enterCrash hmode.1 hne (commandCause r).2 false false
  obtain ⟨q, hq⟩ := evq_enterCrash hmode.1 (commandCause r).1 (commandCause r).2 false false
  have haround := around_enterCrash hmode.1 (commandCause r).1 (commandCause r).2 false false
  generalize enterCrash (afterWrite (served s r) r) (commandCause r).1 (commandCause r).2 false false = u
    at hpresent hentry hq haround
  have hpwr : u.pwr = s.pwr := congrArg (·.1) (haround.trans (by simp [afterWrite] : _ = around s))
  have hbasis : crashBasis (served s r) = crashBasis (afterWrite (served s r) r) := by simp [crashBasis, afterWrite]
  have htime : (afterWrite (served s r) r).clk.time = (served s r).clk.time := by simp [afterWrite]
  rw [htime] at hentry
  refine ⟨_, rfl, ?_⟩
  show crashShown _ { flush (bothCopies s fun s => present s r 0x1600 7 0xC5) with causes := [], pending := s.pending } _ _ _
  rw [hv, hpresent]
  exact crashShown_finish (x := { u with twin := v }) ((hentry.basis hbasis).traces rfl)
    (running_crashed hr hpwr hentry.mode) (by simp [hq]) (by simp [hq]) _

/-! ## The tick of a lockstep mismatch ends (R29) -/

theorem exec_lockstepMismatch {s : State} (hr : running s = true) (l : List SupPart) : exec (.lockstepMismatch l) s =
    finish s (if lastOfFrame (upsetCopy s l) then upsetCopy s l else passTick (upsetCopy s l)) := by
  show execLockstepMismatch s l = _
  unfold execLockstepMismatch
  rw [if_pos hr]

theorem around_compareCopies (s : State) : around (compareCopies s) = around s := by
  unfold compareCopies
  split
  · rfl
  · dsimp only
    repeat' split
    all_goals exact around_flush s

/-- The end of a tick of a device that still runs leaves its surroundings, the time among them. -/
theorem around_endTick {s : State} (h : running (endTick s) = true) : around (endTick s) = around s := by
  have hs : steady s (endTick s) := by
    unfold endTick
    split
    · exact steady_trans (steady_tickWork s) ((around_compareCopies _).trans (around_bothCopies _ _))
    · exact steady_of_around rfl
  refine hs.resolve_left fun hheld => ?_
  simp [running, hheld] at h

/-! ## The tick after a mismatch begins (R30) -/

/-- A mismatch crashes a device that can crash, with event 41. -/
theorem lockstep_enters {s : State} (h : canCrash s.sup.mode) :
    lockstep s = enterCrash (raise s 41) 5 0xFF false false := by
  unfold lockstep
  rw [if_neg (not_or.mpr ⟨h.2.1, h.2.2⟩)]
  exact crash_one (s := raise s 41) h 5 0xFF

/-- The two-wire target's requests arrive wherever the device serves them (R361, R373, R502). -/
theorem mayAccess_twi {s : State} (h : serviceable s.sup.mode = true) :
    mayAccess s .twi = (running s && !testing s 1) := by
  simp [mayAccess, reachable, isHost, h]

/-- The access of the two-wire target that a tick without a crash would not make is not made in the crash tick either. -/
theorem accessTick_still {s e : State} (he : running e = true) (hm : serviceable e.sup.mode = true)
    (hs : serviceable s.sup.mode = true) (hrun : running s = true) (hbist : s.bist.run = e.bist.run) (htwi : s.twi = e.twi)
    (ht : s.clk.time = e.clk.time + 1) (hrest : accessRests e) : accessTick s = s := by
  have hdue : s.clk.time % 512 = 16 → accessDue s = false := by
    intro h16
    have hframe : frame s = frame e := by simp only [frame, frameOf]; omega
    have htest : testing s 1 = testing e 1 := by simp [testing, hbist]
    have heq : accessDue s = accessDue e := by
      simp only [accessDue, mayAccess_twi hs, mayAccess_twi hm, hrun, he, htest, htwi, hframe]
    exact heq.trans (hrest.2 (by omega))
  unfold accessTick
  refine if_neg fun h => ?_
  simp only [Bool.and_eq_true, decide_eq_true_eq] at h
  simp [hdue h.1.2] at h

/-- What the crash of a mismatch and the accesses of its tick look at. -/
def tickView (s : State) := (around s, s.sup.mode, s.sup.crash, crashBasis s)

theorem keepsTickView : KeptInTick tickView :=
  ⟨fun _ => rfl, fun _ _ => rfl, fun _ _ _ => rfl, fun _ _ _ => rfl, fun _ _ _ _ _ => rfl, fun _ _ _ => rfl⟩

/-- The state in which a mismatch crashes the device. -/
def mismatchFound (n : State) : State := raise (modCrash (passCycles n) fun k => { k with lockNext := false }) 41

theorem countWait_eq (s : State) : ∃ k w, countWait s = { s with ctrs := k, now := w } := by
  unfold countWait
  split
  · exact occ_eq s 24 4 2 1
  · exact ⟨s.ctrs, s.now, rfl⟩

/-- The tick after a mismatch begins with the crash, and nothing else happens in it by itself (R30): `e` is the end of the tick
before, `n` the new tick. -/
theorem tickStart_mismatch {e n : State} (he : running e = true)
    (hm : e.sup.mode ∈ [Mode.standby, .ascend, .run, .descend, .service]) (hlock : e.sup.crash.lockNext = true)
    (hjob : e.odp.job = none) (hq : e.hostQ = []) (hrest : accessRests e)
    (hn : tickView n = tickView { e with clk := { e.clk with time := e.clk.time + 1 } }) :
    (mismatchFound n).sup.mode = e.sup.mode ∧ crashBasis (mismatchFound n) = crashBasis e ∧
    (mismatchFound n).clk.time = e.clk.time + 1 ∧ (mismatchFound n).pwr = e.pwr ∧
    tickStart n = countWait (enterCrash (mismatchFound n) 5 0xFF false false) := by
  have hv := (keepsTickView.passCycles n).trans hn
  have hfound : mismatchFound n = raise (modCrash (passCycles n) fun k => { k with lockNext := false }) 41 := rfl
  have htick : tickStart n = countWait (hostWord (odpWord (accessTick (if (passCycles n).sup.crash.lockNext
      then lockstep (modCrash (passCycles n) fun k => { k with lockNext := false }) else passCycles n)))) := rfl
  generalize passCycles n = a at hv hfound htick
  simp only [tickView, Prod.mk.injEq] at hv
  obtain ⟨haround, hmode, hcrash, hbasis⟩ := hv
  obtain ⟨hcan, hserve⟩ := canCrash_of_mem hm
  have hmodes : canCrash (modCrash a fun k => { k with lockNext := false }).sup.mode := by simpa [hmode] using hcan
  have hcs : (mismatchFound n).sup.mode = e.sup.mode := by simp [hfound, hmode]
  have hwhole : around (mismatchFound n) = around { e with clk := { e.clk with time := e.clk.time + 1 } } := by
    rw [hfound]
    exact haround
  have hentry := crashEntry_enterCrash (code := 5) (hcs.trans_ne hcan.1) (by decide) 0xFF false false
  have hb2 := (around_enterCrash (hcs.trans_ne hcan.1) 5 0xFF false false).trans hwhole
  rw [hcrash, if_pos hlock, lockstep_enters hmodes, ← hfound] at htick
  refine ⟨hcs, ?_, congrArg (·.2.1.time) hwhole, congrArg (·.1) hwhole, ?_⟩
  · rw [hfound]
    exact hbasis
  · rw [htick]
    generalize enterCrash (mismatchFound n) 5 0xFF false false = b at hentry hb2
    simp only [around, Prod.mk.injEq] at hb2
    obtain ⟨hpwr, hclk, -, -, htwi, hbist, hodp, hhost⟩ := hb2
    have haccess : accessTick b = b := accessTick_still he hserve (by rw [hentry.mode]; rfl)
      (running_crashed he hpwr hentry.mode) hbist htwi (congrArg Clock.time hclk) hrest
    have hword : odpWord b = b := by simp [odpWord, hodp, hjob]
    have hhostWord : hostWord b = b := by simp [hostWord, hhost, hq]
    rw [haccess, hword, hhostWord]

/-- A mismatch found in the tick that ends crashes the device in the next one (R30). -/
theorem crashShown_mismatch {s : State} {l : List SupPart} (hr : running s = true) (ht : s.clk.time % 512 ≠ 511)
    (he : running (endTick (upsetCopy s l)) = true)
    (hm : (endTick (upsetCopy s l)).sup.mode ∈ [Mode.standby, .ascend, .run, .descend, .service])
    (hlock : (endTick (upsetCopy s l)).sup.crash.lockNext = true) (hjob : (endTick (upsetCopy s l)).odp.job = none)
    (hq : (endTick (upsetCopy s l)).hostQ = []) (hrest : accessRests (endTick (upsetCopy s l))) :
    ∃ t, exec (.lockstepMismatch l) s = .next t ∧
      crashShown (endTick (upsetCopy s l)) t 5 0xFF ((endTick (upsetCopy s l)).clk.time + 1) ∧ shows t 41 := by
  have htime : (endTick (upsetCopy s l)).clk.time = s.clk.time := congrArg (·.2.1.time) (around_endTick he)
  have hexec : exec (.lockstepMismatch l) s = finish s (beginTick (newTick (endTick (upsetCopy s l)) (s.clk.time + 1))) := by
    have hlast : lastOfFrame (upsetCopy s l) = false := decide_eq_false ht
    rw [exec_lockstepMismatch hr, hlast]
    rfl
  rw [hexec]
  generalize endTick (upsetCopy s l) = e at *
  have hn : tickView (newTick e (s.clk.time + 1)) = tickView { e with clk := { e.clk with time := e.clk.time + 1 } } := by
    rw [← htime]
    exact of_unrouted tickView (fun _ => rfl) (unrouted_newTick e (e.clk.time + 1) hrest.1)
  generalize newTick e (s.clk.time + 1) = n at hn
  obtain ⟨hmode, hbasis, hclk, hpwr, hstart⟩ := tickStart_mismatch he hm hlock hjob hq hrest hn
  have hrun : running n = true := by
    simp only [tickView, around, Prod.mk.injEq] at hn
    obtain ⟨⟨hp, -⟩, hnm, -⟩ := hn
    simpa [running, hp, hnm] using he
  obtain ⟨v, hv⟩ := bothCopies_eq n tickStart
  have hne : (mismatchFound n).sup.mode ≠ .crash := hmode.trans_ne (canCrash_of_mem hm).1.1
  have hentry := (crashEntry_enterCrash (code := 5) hne (by decide) 0xFF false false).basis hbasis.symm
  obtain ⟨q, hevq⟩ := evq_enterCrash hne 5 0xFF false false
  have hevents : (mismatchFound n).evq = (passCycles n).evq ++ [41] := rfl
  have hb := congrArg (·.1) (around_enterCrash hne 5 0xFF false false)
  obtain ⟨k, w, hwait⟩ := countWait_eq (enterCrash (mismatchFound n) 5 0xFF false false)
  rw [hwait] at hstart
  rw [hclk] at hentry
  generalize enterCrash (mismatchFound n) 5 0xFF false false = b at hstart hentry hevq hb
  have hbegin : beginTick n = { b with ctrs := k, now := w, twin := v } := by
    rw [beginTick, if_pos hrun, hv, hstart]
  rw [hbegin]
  refine ⟨_, rfl, ?_⟩
  have hx : ∀ i, i = 0 ∨ i = 25 ∨ i = 41 → i ∈ b.evq := by
    intro i hi
    rw [hevq, hevents]
    simp
    omega
  exact ⟨crashShown_finish (x := { b with ctrs := k, now := w, twin := v }) (hentry.traces rfl)
      (running_crashed he (hb.trans hpwr) hentry.mode) (hx 0 (by simp)) (hx 25 (by simp)) _,
    (status_flush { b with ctrs := k, now := w, twin := v } 41).mpr (.inr (hx 41 (by simp)))⟩

/-! ## A mismatch in tick 511: the balls of its tick (R29, R31) -/

/-- Where one copy alone says so, an enable is released, SAFE_N is low, FLT is driven low and a DIS output that is flagged for
crash is asserted. -/
theorem balls_of_secondCopy {t : State} {v : Copy} (hr : running t = true) (ht : t.twin = some v) :
    (∀ c, (get v.sup.chans Chan.reset c).enable = false → enableBall t c = false) ∧
    (safeLevel t v.sup.mode = some false → safeN t ≠ some true) ∧
    (v.sup.line.holding = true → fltLow t = true) ∧
    (∀ n, disFlagged t n = true → disAsserted v.sup n = true → disBall t n = true) := by
  have hsecond : secondCopy t = v := by simp [secondCopy, ht]
  have hother : (other t).sup = v.sup := by rw [other, hsecond]; rfl
  refine ⟨fun c hc => ?_, fun hsafe => ?_, fun hhold => ?_, fun n hflag hdis => ?_⟩
  · have : (chan (other t) c).enable = false := by rw [chan, hother]; exact hc
    simp [enableBall, this]
  · unfold safeN
    rw [hsecond, if_pos hsafe]
    split <;> simp
  · have : drivesFlt (other t) = true := by simp [drivesFlt, hother, hhold]
    simp [fltLow, hr, this]
  · simp [disBall, hr, hsecond, hflag, hdis]

/-- Routing an event leaves the second copy. -/
theorem twin_routeEvent (s : State) (e : Nat) : (routeEvent s e).twin = s.twin := by
  have hport : ∀ (t : State) (p : Port) (b : Nat), (routePort t p b e).twin = t.twin := by
    intro t p b
    unfold routePort
    split
    · cases p <;> rfl
    · rfl
  have hengine : ∀ t : State, (markEngine t e).twin = t.twin := by
    intro t
    unfold markEngine
    split <;> rfl
  have hhusk : ∀ t : State, (routeHusk t e).twin = t.twin := by
    intro t
    unfold routeHusk
    split <;> rfl
  have hevo : ∀ (t : State) (k : Nat), (routeEvo e t k).twin = t.twin := by
    intro t k
    unfold routeEvo
    split <;> rfl
  have hstream : ∀ t : State, (routeStream t e).twin = t.twin := by
    intro t
    unfold routeStream
    split
    · obtain ⟨_, _, h⟩ := record_eq t (bytes 1 0xA1 ++ bytes 1 e ++ bytes 6 t.clk.time)
      rw [h]
    · rfl
  simp only [routeEvent, hstream, each_keep State.twin (routeEvo e) hevo, hhusk, hport, hengine]
  rfl

theorem twin_captureTick (s : State) : (captureTick s).twin = s.twin := by
  unfold captureTick
  split
  · split <;> rfl
  · rfl

theorem twin_bump (s : State) (k code n : Nat) : (bump s k code n).twin = s.twin := by
  obtain ⟨c, w, h⟩ := bump_eq s k code n
  rw [h]

/-- The end of a command leaves the second copy. -/
theorem twin_flush (s : State) : (flush s).twin = s.twin := by
  rw [flush, twin_captureTick]
  exact route_keep State.twin twin_routeEvent (fun s e => by rw [offer, twin_bump, twin_bump]) _ _

/-- In tick 511 a mismatch leaves the device as it is, with its second copy standing otherwise (log 2). -/
theorem mismatch_lastTick {s : State} {l : List SupPart} (hr : running s = true) (ht : s.clk.time % 512 = 511) :
    ∃ t, exec (.lockstepMismatch l) s = .next t ∧ unrouted t = unrouted s ∧ t.twin = some (l.foldl upset (secondCopy s)) := by
  have hlast : lastOfFrame (upsetCopy s l) = true := decide_eq_true ht
  rw [exec_lockstepMismatch hr, if_pos hlast]
  refine ⟨_, rfl, ?_, (twin_flush (upsetCopy s l)).trans rfl⟩
  rw [unrouted_withPending, unrouted_flush]
  rfl

/-! ## The obligation -/

/-- Settles O28: a commanded crash, and a mismatch in the tick after it, enter CRASH as `CrashEntry` says, which `crashShown`
tells of the registers, events and balls; a mismatch in tick 511 shows on the balls that either copy drives. -/
theorem crashesLatchAndRelease : Obligations.CrashesLatchAndRelease := by
  unfold Obligations.CrashesLatchAndRelease
  intro s r l hr
  refine ⟨fun hw hm => ?commanded, fun ht he hm hlock hjob hq hrest => ?mismatch, fun ht => ?lastTick⟩
  case commanded =>
    have h := crashShown_crashCmd hr hw hm
    cases r <;> exact h
  case mismatch => exact crashShown_mismatch hr ht he hm hlock hjob hq hrest
  case lastTick =>
    obtain ⟨t, hexec, hu, htwin⟩ := mismatch_lastTick (l := l) hr ht
    obtain ⟨hen, hsafe, hflt, hdis⟩ := balls_of_secondCopy ((of_unrouted running (fun _ => rfl) hu).trans hr) htwin
    have hlevel := fun m => of_unrouted (fun s => safeLevel s m) (fun _ => rfl) hu
    have hflag := fun n => of_unrouted (fun s => disFlagged s n) (fun _ => rfl) hu
    exact ⟨t, hexec, hu, htwin, hen, fun h => hsafe ((hlevel _).trans h), hflt, fun n hf => hdis n ((hflag n).trans hf)⟩

end Sys2Proof.Machine
end

section
/-!
SUPPORT. Staging, COMMIT and its discard (R58 to R62), and the fields a write of which does something of its own (R14, R58).
-/
namespace Sys2Proof.Machine

/-! ## Fields with a meaning of their own -/

/-- The fields a write of which does something of its own: everywhere else a write only follows the access code. -/
def ownMeaning (o : Obj) (sub : Nat) : Bool :=
  match o with
  | .evClear | .podLive _ | .galRam | .view _ => true
  | .modeCtrl => decide (2 ≤ sub ∧ sub ≤ 5)
  | .margin _ => decide (8 ≤ sub ∧ sub ≤ 10)
  | .lineCfg => decide (6 ≤ sub ∧ sub ≤ 7)
  | .conv _ | .engCtrl => decide (sub = 2)
  | .engProg => decide (sub = 1 ∨ sub = 2 ∨ sub = 5)
  | .counter _ | .pinCfg _ | .bist => decide (sub = 3)
  | .pinLock => decide (sub = 1 ∨ sub = 2)
  | .image => decide (sub = 1 ∨ sub = 10 ∨ sub = 11 ∨ 16 ≤ sub)
  | _ => false

/-- No such field is staged. -/
theorem not_rws_of_ownMeaning {o : Obj} {sub : Nat} {f : Field} (h : ownMeaning o sub = true) (hf : bodyOf o sub = some f) :
    f.acc ≠ .rws := by
  cases o <;> simp only [ownMeaning, decide_eq_true_eq, Bool.false_eq_true] at h
  case evClear | podLive | view | galRam | image =>
    dsimp only [bodyOf] at hf
    repeat' split at hf
    all_goals first | omega | (cases hf <;> nofun)
  case modeCtrl | margin | lineCfg | conv | engCtrl | engProg | counter | pinCfg | bist | pinLock =>
    have hsub : sub ≤ 10 := by omega
    interval_cases sub
    all_goals first | omega | (cases hf ; nofun)

/-- The value that the buffer takes: bit 0 of a publish map's CTRL is read-only (R413). -/
def stagedValue (o : Obj) (sub v : Nat) : Nat :=
  match o with
  | .publish _ => if sub = 1 then v / 2 * 2 else v
  | _ => v

theorem clrBit_zero (v : Nat) : clrBit v 0 = v / 2 * 2 := by
  unfold clrBit
  rw [Nat.testBit_zero]
  split <;> simp_all <;> omega

/-- A field other than a read-only one is one of the object's own map. -/
theorem bodyOf_of_fieldOf {idx sub : Nat} {o : Obj} {f : Field} (ho : objOf idx = some o) (hf : fieldOf idx sub = some f)
    (ha : f.acc ≠ .ro) : bodyOf o sub = some f := by
  simp only [fieldOf, ho] at hf
  split at hf
  · exact absurd (Option.some.inj hf ▸ rfl) ha
  · split at hf
    · cases hf
    · exact hf

/-- The effect of a write of an RWS field is its staging (R58). -/
theorem writeEffect_rws (s : State) (r : Requester) (h : KeyState × Bool × Bool) {o : Obj} {f : Field} {idx sub : Nat}
    (v : Nat) (ho : objOf idx = some o) (hf : fieldOf idx sub = some f) (ha : f.acc = .rws) :
    writeEffect s r h o f idx sub v = stage s r (keyOf idx sub) (stagedValue o sub v) := by
  have hown : ownMeaning o sub = false := Bool.eq_false_iff.mpr fun hown =>
    not_rws_of_ownMeaning hown (bodyOf_of_fieldOf ho hf (by simp [ha])) ha
  unfold writeEffect
  simp only [ha]
  cases o <;> simp only [ownMeaning, decide_eq_false_iff_not, Bool.true_eq_false] at hown
  case publish =>
    simp only [stagedValue, clrBit_zero]
    split <;> rfl
  case modeCtrl | margin | lineCfg | conv | engCtrl | engProg | counter | pinCfg | bist | pinLock | image =>
    dsimp only
    repeat' split
    all_goals first | omega | rfl
  all_goals rfl

/-! ## Staging (R58 to R60) -/

@[simp] theorem req_afterWrite (s : State) (r : Requester) :
    req (afterWrite s r) r = { req s r with key := .idle, lockHalf := false, gather := none } := req_modReq s r _

/-- The buffer, and OVERFLOW, which stays as long as an overflowed buffer has not been emptied. -/
def buffered (s : State) (r : Requester) (l : List (Nat × Nat)) : State :=
  modReq s r fun q => { q with staged := l, overflow := (req s r).overflow && !(req s r).staged.isEmpty }

/-- A write of a field that the buffer does not hold (R58). -/
theorem stage_new {s : State} {r : Requester} {key : Nat} (v : Nat) (hk : ∀ e ∈ (req s r).staged, e.1 ≠ key)
    (hl : (req s r).staged.length < 128) : stage s r key v = buffered s r ((req s r).staged ++ [(key, v)]) := by
  have hany : (req s r).staged.any (fun e => decide (e.1 = key)) = false := by simpa using hk
  simp [stage, stageIn, hany, Nat.not_le.mpr hl, modReq, buffered]

/-- A second write of a field replaces the first one (R59). -/
theorem stage_again {s : State} {r : Requester} {key : Nat} (v : Nat) {x : Nat} {a b : List (Nat × Nat)}
    (h : (req s r).staged = a ++ (key, x) :: b) (hk : ∀ e ∈ a ++ b, e.1 ≠ key) :
    stage s r key v = buffered s r (a ++ (key, v) :: b) := by
  have hsame : ∀ l : List (Nat × Nat), (∀ e ∈ l, e.1 ≠ key) → l.map (fun e => if e.1 = key then (key, v) else e) = l :=
    fun l hl => (List.map_congr_left fun e he => if_neg (hl e he)).trans l.map_id
  simp [stage, stageIn, h, hsame a fun e he => hk e (by simp [he]), hsame b fun e he => hk e (by simp [he]), modReq, buffered]

/-- A write of a new field to a full buffer is lost, and sets OVERFLOW (R60). -/
theorem unrouted_stage_full {s : State} {r : Requester} {key : Nat} (v : Nat) (hk : ∀ e ∈ (req s r).staged, e.1 ≠ key)
    (hl : 128 ≤ (req s r).staged.length) :
    unrouted (stage s r key v) = unrouted (modReq s r fun q => { q with staged := (req s r).staged, overflow := true }) := by
  have hany : (req s r).staged.any (fun e => decide (e.1 = key)) = false := by simpa using hk
  simp [stage, hany, hl, modReq]

/-- What a write of an RWS field answers whose staging leaves a known unrouted part. -/
theorem rws_next {s : State} {r : Requester} {idx sub v : Nat} {o : Obj} {f : Field} (h : canWrite s r idx sub v = true)
    (ho : objOf idx = some o) (hf : fieldOf idx sub = some f) (ha : f.acc = .rws) (u : State)
    (hu : unrouted (stage (afterWrite (served s r) r) r (keyOf idx sub) (stagedValue o sub v)) = unrouted u) :
    ∃ t, exec (.dictionaryWrite r idx sub v) s = .next t ∧ unrouted t = { unrouted u with pending := s.pending } :=
  write_next h ho hf u (by rw [writeEffect_rws _ _ _ _ ho hf ha, hu])

/-- Settles O16: a write of an RWS field is its staging, which appends, replaces or overflows. -/
theorem rwsWritesAreStaged : Obligations.RwsWritesAreStaged := by
  unfold Obligations.RwsWritesAreStaged
  intro s r idx sub v f hw hf ha w q key kept overfull staged
  obtain ⟨o, -, ho, -, -⟩ := admits_field (Bool.and_eq_true_iff.mp hw).2
  have hkept : stagedValue o sub v = kept := by
    simp only [kept, ho]
    cases o <;> rfl
  have answers := rws_next hw ho hf ha
  rw [hkept] at answers
  have hq : req (afterWrite w r) r = { q with key := .idle, lockHalf := false, gather := none } := req_afterWrite w r
  have hbuffered : ∀ l, buffered (afterWrite w r) r l =
      modReq (afterWrite w r) r fun x => { x with staged := l, overflow := overfull } := fun l => by rw [buffered, hq]
  refine ⟨fun hk hl => ?append, fun a x b hab hk => ?replace, fun hk hl => ?full⟩
  case append => exact answers _ (congrArg unrouted ((stage_new kept (by rwa [hq]) (by rwa [hq])).trans (hq ▸ hbuffered _)))
  case replace => exact answers _ (congrArg unrouted ((stage_again kept (by rwa [hq]) hk).trans (hbuffered _)))
  case full =>
    have h := unrouted_stage_full (s := afterWrite w r) (r := r) (key := key) kept (by rwa [hq]) (by rwa [hq])
    rw [hq] at h
    exact answers _ h

/-! ## COMMIT (R60 to R62) -/

/-- The effect of a write of COMMIT: one of the three that empty the buffer. -/
theorem commitWrite_overfull {s : State} {r : Requester} {v : Nat} (hv : v = 1 ∨ v = 2) (ho : (req s r).overflow = true)
    (hs : (req s r).staged ≠ []) :
    commitWrite s r v = modReq s r fun q => { q with staged := [], discarded := true, applied := false } := by
  have h : ¬ (v ≠ 1 ∧ v ≠ 2) := by omega
  simp [commitWrite, h, ho, hs, modReq]

theorem commitWrite_commit {s : State} {r : Requester} (h : (req s r).overflow = false ∨ (req s r).staged = []) :
    commitWrite s r 1 = modReq s r fun q => { q with
      sets := q.sets ++ [q.staged], staged := [], applied := false, discarded := false, overflow := false } := by
  have hno : ((req s r).overflow && !(req s r).staged.isEmpty) = false := by obtain h | h := h <;> simp [h]
  simp [commitWrite, hno, modReq]

theorem commitWrite_discard {s : State} {r : Requester} (h : (req s r).overflow = false ∨ (req s r).staged = []) :
    commitWrite s r 2 = modReq s r fun q => { q with staged := [], discarded := true, overflow := false } := by
  have hno : ((req s r).overflow && !(req s r).staged.isEmpty) = false := by obtain h | h := h <;> simp [h]
  simp [commitWrite, hno, modReq]

/-- Settles O17: COMMIT and its discard are one write of the store, whose effect is that of `commitWrite`. -/
theorem commitTakesTheWholeBuffer : Obligations.CommitTakesTheWholeBuffer := by
  unfold Obligations.CommitTakesTheWholeBuffer
  intro s r w q after
  have hq : req (afterWrite w r) r = { q with key := .idle, lockHalf := false, gather := none } := req_afterWrite w r
  have writes : ∀ {v : Nat} {g h : ReqState → ReqState}, canWrite s r 0x0200 4 v = true →
      commitWrite (afterWrite w r) r v = modReq (afterWrite w r) r g →
      g (req (afterWrite w r) r) = h (req (afterWrite w r) r) →
      ∃ t, done s (fun s => present s r 0x0200 4 v) = .next t ∧ unrouted t = unrouted (after h) := by
    intro v g h hw hc hg
    refine write_next hw rfl rfl (modReq (afterWrite w r) r h) (congrArg unrouted (hc.trans ?_))
    simp only [modReq, hg]
  refine ⟨fun h => ?_, fun ho hs => ?_⟩
  · have h' : (req (afterWrite w r) r).overflow = false ∨ (req (afterWrite w r) r).staged = [] := by rwa [hq]
    exact ⟨fun hw => writes hw (commitWrite_commit h') (by rw [hq]), fun hw => writes hw (commitWrite_discard h') rfl⟩
  · rintro c v (⟨rfl, rfl⟩ | ⟨rfl, rfl⟩) hw
    · exact writes hw (commitWrite_overfull (.inl rfl) (by rwa [hq]) (by rwa [hq])) rfl
    · exact writes hw (commitWrite_overfull (.inr rfl) (by rwa [hq]) (by rwa [hq])) rfl

end Sys2Proof.Machine
end

section
/-!
SUPPORT. Requests at the action-queue ports (R53, R156): the objects that take them, and what their acceptance leaves.
-/
namespace Sys2Proof.Machine

/-! ## The objects that take requests (R379) -/

theorem objOf_podLive {p : Nat} (h : p < 48) : objOf (0x1300 + p) = some (.podLive p) := by
  unfold objOf
  repeat rw [if_neg (by omega)]
  rw [if_pos (by omega), Nat.add_sub_cancel_left]

theorem objOf_margin {c : Nat} (h : c < 96) : objOf (0x1400 + c) = some (.margin c) := by
  unfold objOf
  repeat rw [if_neg (by omega)]
  rw [if_pos (by omega), Nat.add_sub_cancel_left]

theorem fieldOf_request {p : Nat} (h : p < 48) : fieldOf (0x1300 + p) 1 = fWO 1 := by
  simp [fieldOf, objOf_podLive h, highest, bodyOf]

theorem fieldOf_marginRequest {c : Nat} (h : c < 96) {sub : Nat} (hs : sub ∈ [8, 9, 10]) : fieldOf (0x1400 + c) sub = fWO 1 := by
  simp only [List.mem_cons, List.not_mem_nil, or_false] at hs
  obtain rfl | rfl | rfl := hs <;> simp [fieldOf, objOf_margin h, highest, bodyOf]

/-! ## Acceptance (R53, R156) -/

/-- What a write leaves that is a request: the requester's status, and the request with its source and tick. -/
def requested (w : State) (r : Requester) (f : ReqState → ReqState) (a : Ask) : State :=
  { modReq (afterWrite w r) r f with accepted := w.accepted ++ [{ ask := a, src := .port r, time := w.clk.time }] }

theorem accept_afterWrite (w : State) (r : Requester) (f : ReqState → ReqState) (a : Ask) :
    accept (modReq (afterWrite w r) r f) a (.port r) = requested w r f a := by
  cases r <;> rfl

/-- What a command answers that is a write whose effect is a request. -/
theorem request_next {s : State} {r : Requester} {idx sub v : Nat} (h : canWrite s r idx sub v = true) {o : Obj} {f : Field}
    (ho : objOf idx = some o) (hf : fieldOf idx sub = some f) (g : ReqState → ReqState) (a : Ask)
    (he : writeEffect (afterWrite (served s r) r) r (heldKey (served s r) r) o f idx sub v =
      accept (modReq (afterWrite (served s r) r) r g) a (.port r)) :
    ∃ t, done s (fun s => present s r idx sub v) = .next t ∧
      unrouted t = unrouted { requested (served s r) r g a with pending := s.pending } :=
  write_next h ho hf _ (congrArg unrouted (he.trans (accept_afterWrite ..)))

/-- The effect of a MODE_REQ value, where a keyed one finds the key armed (R344, R346). -/
theorem modeAsk_accepts (s : State) (r : Requester) {keyed : Bool} {v : Nat} (h : v = 3 ∨ v = 6 → keyed = true) :
    modeAsk s r keyed v = accept (modReq s r fun q => { q with modeStat := 1 }) (.mode v) (.port r) := by
  refine if_neg fun ⟨hv, hk⟩ => ?_
  rw [h hv] at hk
  cases hk

/-- A command that is a write of MODE_REQ. -/
theorem modeReq_next {s : State} {r : Requester} {v : Nat} (h : canWrite s r 0x0200 2 v = true)
    (hk : v = 3 ∨ v = 6 → armed (served s r) r = true) :
    ∃ t, done s (fun s => present s r 0x0200 2 v) = .next t ∧
      unrouted t = unrouted { requested (served s r) r (fun q => { q with modeStat := 1 }) (.mode v) with
        pending := s.pending } :=
  request_next h (o := .modeCtrl) rfl rfl _ _ (modeAsk_accepts _ _ hk)

/-- Settles O19: each request is a write of the store, whose effect is the acceptance of the request. -/
theorem requestsWaitForTheBoundary : Obligations.RequestsWaitForTheBoundary := by
  unfold Obligations.RequestsWaitForTheBoundary
  intro s r p c v hp hc asks pod mode margin
  have hmode : ∀ {i : Instr} {n : Nat}, exec i s = done s (fun s => present s r 0x0200 2 n) → asks i 0x0200 2 n mode (.mode n) := by
    intro i n hi hw w hk
    rw [hi]
    exact modeReq_next hw fun hn => hk hn rfl
  have hpod : ∀ {i : Instr} {n : Nat} {a : Ask}, exec i s = done s (fun s => if p < 48 then present s r (0x1300 + p) 1 n else s) →
      (if n = 1 then Ask.rise p else if n = 2 then .fall p else .release p) = a → asks i (0x1300 + p) 1 n pod a := by
    rintro i n _ hi rfl hw w -
    simp only [hi, if_pos hp]
    exact request_next hw (objOf_podLive hp) (fieldOf_request hp) _ _ rfl
  have hmargin : ∀ {i : Instr} {n sub : Nat} {a : Ask},
      exec i s = done s (fun s => if c < 96 then present s r (0x1400 + c) sub n else s) → sub ∈ [8, 9, 10] →
      (∀ (x : State) h f, writeEffect x r h (.margin c) f (0x1400 + c) sub n = marginAsk x r c a) →
      asks i (0x1400 + c) sub n margin a := by
    intro i n sub a hi hs he hw w _
    simp only [hi, if_pos hc]
    exact request_next hw (objOf_margin hc) (fieldOf_marginRequest hc hs) _ _ ((he _ _ _).trans rfl)
  exact ⟨hpod rfl rfl, hpod rfl rfl, hpod rfl rfl, hmargin rfl (by simp) fun _ _ _ => rfl, hmargin rfl (by simp) fun _ _ _ => rfl,
    hmargin rfl (by simp) fun _ _ _ => rfl, hmode rfl, hmode rfl, hmode rfl, hmode rfl, hmode rfl, hmode rfl⟩

end Sys2Proof.Machine
end

section
/-!
SUPPORT. The events that the engine's instructions raise: none where they complete, but for SIG, and event 50 where they trap
(R318, R331, R463).
-/
namespace Sys2Proof.Machine

/-- EVENT_STATUS and the events that wait for the router. -/
def events (s : State) : Nat × List Nat := (s.sup.evStatus, s.evq)

theorem events_raise (s : State) (e : Nat) : events (raise s e) = ((events s).1, (events s).2 ++ [e]) := rfl

@[simp] theorem events_modEng (s : State) (f : Eng → Eng) : events (modEng s f) = events s := rfl

@[simp] theorem events_modReq (s : State) (r : Requester) (f : ReqState → ReqState) : events (modReq s r f) = events s := by
  cases r <;> rfl

@[simp] theorem events_occ (s : State) (lo n code times : Nat) : events (occ s lo n code times) = events s := by
  simp [events]

@[simp] theorem events_goto (s : State) (a : PAddr) (f : Eng → Eng) : events (goto s a f) = events s := by simp [goto]

@[simp] theorem events_next (s : State) (f : Eng → Eng) : events (next s f) = events s := events_goto ..

@[simp] theorem events_haltEngine (s : State) : events (haltEngine s) = events s := rfl

@[simp] theorem events_idle (s : State) : events (idle s) = events s := rfl

@[simp] theorem events_served (s : State) (r : Requester) : events (served s r) = events s := by
  obtain ⟨c, w, h⟩ := served_eq s r
  rw [h]
  rfl

/-! ## Reads of the store -/

@[simp] theorem events_noteSample (s : State) (idx sub : Nat) (place : SamplePlace) :
    events (noteSample s idx sub place) = events s := by
  unfold noteSample
  repeat' split
  all_goals rfl

theorem events_noteRead (s : State) (r : Requester) (fp : Bool) (idx sub : Nat) (place : SamplePlace) :
    events (noteRead s r fp idx sub place) = events s := by
  unfold noteRead
  repeat' split
  all_goals simp

theorem events_readField (s : State) (r : Requester) (fp : Bool) (idx sub : Nat) :
    events (readField s r fp idx sub).1 = events s := by
  unfold readField
  dsimp only
  repeat' split
  all_goals simp [progStep]

theorem events_readCore (s : State) (r : Requester) (fp : Bool) (idx sub k : Nat) :
    events (readCore s r fp idx sub k).1 = events s := by
  unfold readCore
  split
  · split
    · simp
    · split
      · exact events_readField ..
      · split
        · split <;> simp
        · rfl
  · simp

theorem events_drd (s : State) (rd ra : Fin 16) (imm : Word) : events (drd rd ra imm s) = events s := by
  have hnote : ∀ (u : State) place, events (drdNote u ra imm place) = events u := by
    intro u place
    unfold drdNote
    dsimp only
    split
    · exact events_noteRead ..
    · rfl
  have hread : events (drdRead s ra imm).1 = events s := (events_readCore ..).trans (events_served ..)
  simp only [drd, drdEnd, occEng_occ, events_occ, events_next, hnote, hread]

/-! ## Instructions that may trap -/

/-- An instruction has raised no event, or event 50 of a trap that has stopped the engine or ended the field call (R331). -/
def trapsAtMost (s t : State) : Prop :=
  events t = events s ∨
    t.sup.evStatus = s.sup.evStatus ∧ t.evq = s.evq ++ [50] ∧ (t.eng.st = .trapped ∨ t.eng.pc = s.eng.fra)

theorem trapsAtMost_trap (s : State) (cause : Nat) : trapsAtMost s (trap s cause) := by
  have hk : (keepEvent s.eng).fra = s.eng.fra := by unfold keepEvent; split <;> rfl
  refine .inr ⟨?_, ?_, ?_⟩ <;> unfold trap <;> dsimp only <;> split <;>
    simp [discardFieldTacts, stopEngine, discardTacts, idleEngine, setReg, hk]

theorem trapsAtMost_of_events {s t : State} (h : events t = events s) : trapsAtMost s t := .inl h

theorem trapsAtMost_ite {s a b : State} {c : Prop} [Decidable c] (ha : trapsAtMost s a) (hb : trapsAtMost s b) :
    trapsAtMost s (if c then a else b) := by
  split
  · exact ha
  · exact hb

theorem trapsAtMost_jump (s : State) (a : PAddr) (f : Eng → Eng) : trapsAtMost s (jump s a f) :=
  trapsAtMost_ite (trapsAtMost_of_events (events_goto ..)) (trapsAtMost_trap ..)

theorem trapsAtMost_intOnly {s : State} {op : State → State} (h : trapsAtMost s (op s)) : trapsAtMost s (intOnly s op) :=
  trapsAtMost_ite (trapsAtMost_trap ..) h

theorem trapsAtMost_next (s : State) (f : Eng → Eng) : trapsAtMost s (next s f) := trapsAtMost_of_events (events_next ..)

theorem trapsAtMost_goto (s : State) (a : PAddr) (f : Eng → Eng) : trapsAtMost s (goto s a f) :=
  trapsAtMost_of_events (events_goto ..)

/-! ## What their commands show -/

/-- A command that has raised the events of a list shows no other that did not show before. -/
theorem shown_of_done {s t : State} {f : State → State} {e : Nat} {l : List Nat} (ht : done s f = .next t)
    (hl : events (f s) = (s.sup.evStatus, l)) (hs : shows t e) : shows s e ∨ e ∈ l := by
  simp only [events, Prod.mk.injEq] at hl
  obtain ⟨h1, h2⟩ := hl
  have h := (done_shows ht e).mp hs
  rwa [h1, h2] at h

/-- An instruction that the engine executes shows the events that it has raised. -/
theorem shown_of_instr {s t : State} {i : Instr} {op : State → State} {e : Nat} {l : List Nat} (hc : canExecute s)
    (ht : instr s i op = .next t) (hl : events (op (idle s)) = (s.sup.evStatus, l)) (hs : shows t e) : shows s e ∨ e ∈ l :=
  shown_of_done ht (by rw [instr_of_canExecute hc i op, hl]) hs

/-- An instruction that at most traps shows event 50 with the trap's effect. -/
theorem shown_of_trapsAtMost {s t : State} {i : Instr} {op : State → State} {e : Nat} (hc : canExecute s) (hq : s.evq = [])
    (ht : instr s i op = .next t) (hop : trapsAtMost (idle s) (op (idle s))) (hs : shows t e) :
    shows s e ∨ e = 50 ∧ (t.eng.st = .trapped ∨ t.eng.pc = s.eng.fra) := by
  obtain h | ⟨hstatus, hevq, hend⟩ := hop
  · exact (shown_of_instr (l := []) hc ht (by rw [h, ← hq]; rfl) hs).imp id nofun
  · have heng : { t.eng with pend := 0 } = { (op (idle s)).eng with pend := 0 } := by
      have h := unrouted_done ht
      rw [instr_of_canExecute hc i op] at h
      exact congrArg State.eng h
    have hst := congrArg Eng.st heng
    have hpc := congrArg Eng.pc heng
    refine (shown_of_instr (l := [50]) hc ht ?_ hs).imp id fun he => ⟨by simpa using he, ?_⟩
    · simp [events, hstatus, hevq, hq]
    · exact hend.imp hst.trans hpc.trans

/-- Settles O15: the instructions that only complete raise nothing but SIG's event, and the others trap at most. -/
theorem engineInstructionsRaiseNoOtherEvent : Obligations.EngineInstructionsRaiseNoOtherEvent := by
  unfold Obligations.EngineInstructionsRaiseNoOtherEvent
  intro s t i rd ra rb imm c target k e hc hquiet ht hs
  have hq : s.evq = [] := hquiet.1
  have hevents : events s = (s.sup.evStatus, []) := by rw [events, hq]
  refine ⟨fun hi => ?completes, fun hi => ?traps⟩
  case completes =>
    have silent : ∀ {op : State → State}, instr s i op = .next t → events (op (idle s)) = events s →
        shows s e ∨ i = .sigA ∧ e = 51 ∨ i = .sigB ∧ e = 63 := fun ht h =>
      (shown_of_instr hc ht (h.trans hevents) hs).imp id nofun
    have signals : ∀ {op : State → State} {n : Nat}, instr s i op = .next t → events (op (idle s)) = (s.sup.evStatus, [n]) →
        shows s e ∨ e = n := fun ht h => (shown_of_instr hc ht h hs).imp id List.eq_of_mem_singleton
    cases i
    case add | sub | and | or | xor | shl | shr | asr | mul | mulh | cmp | ldi | addi | andi | ori | xori | cmpi | shli | shri |
        nop | timeFrameLow | timeFrameHigh | timeTick => exact silent ht (events_next ..)
    case halt => exact silent ht (by simp)
    case waitf | waite => exact silent ht rfl
    case drd =>
      refine (shown_of_done (l := []) ht ?_ hs).imp id nofun
      simp only [portInstr, instrEffect_of_canExecute hc]
      split
      · exact (events_drd ..).trans hevents
      · split <;> exact hevents
    case sigA => exact (signals ht (by simp [events_raise, hevents])).imp id fun h => .inl ⟨rfl, h⟩
    case sigB => exact (signals ht (by simp [events_raise, hevents])).imp id fun h => .inr ⟨rfl, h⟩
    all_goals simp only [List.mem_cons, List.not_mem_nil, reduceCtorEq, or_self] at hi
  case traps =>
    have answers : ∀ {op : State → State}, instr s i op = .next t → trapsAtMost (idle s) (op (idle s)) →
        shows s e ∨ e = 50 ∧ (t.eng.st = .trapped ∨ t.eng.pc = s.eng.fra) := fun ht h =>
      shown_of_trapsAtMost hc hq ht h hs
    cases i
    case illegal => exact answers ht (trapsAtMost_trap ..)
    case ld | st => exact answers ht (trapsAtMost_ite (trapsAtMost_next ..) (trapsAtMost_trap ..))
    case b => exact answers ht (trapsAtMost_ite (trapsAtMost_jump ..) (trapsAtMost_next ..))
    case call => exact answers ht (trapsAtMost_ite (trapsAtMost_trap ..) (trapsAtMost_jump ..))
    case ret =>
      refine answers ht ?_
      split
      · exact trapsAtMost_trap ..
      · exact trapsAtMost_ite (trapsAtMost_trap ..) (trapsAtMost_jump ..)
    case jr => exact answers ht (trapsAtMost_ite (trapsAtMost_jump ..) (trapsAtMost_trap ..))
    case fcall => exact answers ht (trapsAtMost_intOnly (trapsAtMost_goto ..))
    case ei | di => exact answers ht (trapsAtMost_intOnly (trapsAtMost_next ..))
    case fret => exact answers ht (trapsAtMost_ite (trapsAtMost_goto ..) (trapsAtMost_trap ..))
    case reti => exact answers ht (trapsAtMost_intOnly (trapsAtMost_ite (trapsAtMost_goto ..) (trapsAtMost_trap ..)))
    case getev => exact answers ht (trapsAtMost_intOnly (trapsAtMost_ite (trapsAtMost_next ..) (trapsAtMost_trap ..)))
    case tact =>
      refine answers ht (trapsAtMost_ite (trapsAtMost_of_events ?_) (trapsAtMost_trap ..))
      dsimp only
      split <;> simp
    all_goals simp only [List.mem_cons, List.not_mem_nil, reduceCtorEq, or_self] at hi

end Sys2Proof.Machine
end

section
/-!
SUPPORT. The state after a reset by power-on: the invariants of every step hold there, and its fields show what the spec gives.
-/
namespace Sys2Proof.Machine

theorem quiet_reset : quiet State.reset := ⟨rfl, rfl, rfl⟩

theorem nvmKept_reset : nvmKept State.reset := by
  refine ⟨rfl, by decide, by decide, by decide, by decide, by decide, nofun, nofun, nofun⟩

theorem queueKept_reset : queueKept State.reset := by
  refine ⟨by decide, .cons (by simp) .nil, .nil, .nil, fun p => ?_⟩
  by_cases h : p = 0
  · subst h
    exact .nil
  · have hp : pod State.reset p = Pod.reset := if_neg (Ne.symm h)
    rw [hp]
    exact .nil

/-- Settles O6: the invariants hold at reset, and every field reads as the reset state has it. -/
theorem resetShowsTheGivenValues : Obligations.ResetShowsTheGivenValues := by
  unfold Obligations.ResetShowsTheGivenValues
  intro s
  have hreq : ∀ r, req s r = ReqState.reset := by
    intro r
    cases r <;> rfl
  refine ⟨quiet_reset, nvmKept_reset, queueKept_reset, rfl, rfl, rfl, rfl, rfl, rfl, fun _ => rfl, rfl, fun _ => ⟨rfl, rfl⟩,
    rfl, rfl, rfl, fun r => ?_, rfl, rfl, rfl, rfl, fun _ => rfl, fun _ => rfl, fun _ => rfl⟩
  rw [hreq]
  exact ⟨rfl, rfl, rfl⟩

end Sys2Proof.Machine
end

section
/-!
SUPPORT. Timed actions: the code of a TACT and what it holds (R323, R324), and the firing of one that is due (R325).
-/
namespace Sys2Proof.Machine

/-! ## Targets (R324) -/

/-- The fields that a timed action may target, as R324 lists them. -/
def tactField (idx sub : Nat) : Prop :=
  (0x1300 ≤ idx ∧ idx < 0x1330 ∧ sub = 1) ∨ (0x1500 ≤ idx ∧ idx < 0x1508 ∧ sub = 2) ∨
  (0x1400 ≤ idx ∧ idx < 0x1460 ∧ 8 ≤ sub ∧ sub ≤ 10) ∨ idx = 0x1600 ∧ sub = 6

/-- The index range of each family that a timed action may target. -/
def tactFamily : Obj → Nat → Prop
  | .lineCfg, idx => idx = 0x1600
  | o, idx => targetFamily o idx

theorem tactFamily_of_objOf {idx : Nat} {o : Obj} : objOf idx = some o → tactFamily o idx := by
  unfold objOf
  repeat refine of_ite_some (p := (tactFamily · idx)) (by simp [tactFamily, targetFamily]) ?_
  exact nofun

theorem objOf_conv {g : Nat} (h : g < 8) : objOf (0x1500 + g) = some (.conv g) := by
  unfold objOf
  repeat rw [if_neg (by omega)]
  rw [if_pos (by omega), Nat.add_sub_cancel_left]

/-- The model's targets are those of R324. -/
theorem tactField_iff {idx sub : Nat} : tactField idx sub ↔ ∃ o, objOf idx = some o ∧ tactTarget o sub = true := by
  constructor
  · rintro (⟨h1, h2, rfl⟩ | ⟨h1, h2, rfl⟩ | ⟨h1, h2, h3⟩ | ⟨rfl, rfl⟩)
    · exact ⟨_, Nat.add_sub_cancel' h1 ▸ objOf_podLive (p := idx - 0x1300) (by omega), rfl⟩
    · exact ⟨_, Nat.add_sub_cancel' h1 ▸ objOf_conv (g := idx - 0x1500) (by omega), rfl⟩
    · exact ⟨_, Nat.add_sub_cancel' h1 ▸ objOf_margin (c := idx - 0x1400) (by omega), by simpa [tactTarget] using h3⟩
    · exact ⟨.lineCfg, rfl, rfl⟩
  · rintro ⟨o, ho, ht⟩
    have hi := tactFamily_of_objOf ho
    cases o <;> simp only [tactTarget, decide_eq_true_eq, Bool.false_eq_true] at ht <;>
      simp only [tactFamily, targetFamily] at hi <;> unfold tactField <;> omega

/-- The privilege of field code to the targets of R324 (R314). -/
theorem fieldMayWrite_tact {ctrl code idx sub : Nat} {o : Obj} (ho : objOf idx = some o) (ht : tactTarget o sub = true) :
    fieldMayWrite ctrl code o sub = true ↔
      (0x1300 ≤ idx ∧ idx < 0x1330 ∧ sub = 1) ∧ ctrl.testBit 9 = true ∨
      (0x1500 ≤ idx ∧ idx < 0x1508 ∧ sub = 2) ∧ ctrl.testBit 10 = true ∨
      (0x1400 ≤ idx ∧ idx < 0x1460 ∧ 8 ≤ sub ∧ sub ≤ 10) ∧ ctrl.testBit 11 = true := by
  have hi := tactFamily_of_objOf ho
  cases o <;> simp only [tactTarget, decide_eq_true_eq, Bool.false_eq_true] at ht <;>
    simp only [tactFamily, targetFamily] at hi <;>
    simp only [fieldMayWrite, bit, Bool.and_eq_true, decide_eq_true_eq, Bool.false_eq_true, false_iff] <;> grind

/-! ## TACT (R323, R324) -/

/-- Word k of the descriptor of a TACT (R323). -/
def descWord (e : Eng) (ra : Fin 16) (k : Nat) : Nat := (dataWord e (((reg e ra).toNat + k) % 65536)).toNat

theorem dataAddr_ofNat (b : Word) {k : Nat} (h : k < 65536) : dataAddr b (BitVec.ofNat 16 k) = (b.toNat + k) % 65536 := by
  rw [dataAddr_eq, BitVec.toNat_ofNat, Nat.mod_eq_of_lt h]

/-- The timed action that a descriptor posts. -/
def postedTact (s : State) (ra : Fin 16) : Tact :=
  { idx := descWord s.eng ra 0, sub := descWord s.eng ra 1 / 256, val := descWord s.eng ra 2
    fire := frame s + descWord s.eng ra 3, field := s.eng.field }

/-- What a TACT answers, by its code. -/
theorem tact_next {s : State} {ra : Fin 16} (rd : Fin 16) (h : canExecute s)
    (hd : ∀ k, k < 4 → dataOk s.eng (((reg s.eng ra).toNat + k) % 65536) = true) {code : Nat}
    (hc : tactCode (idle s) (descWord s.eng ra 0) (descWord s.eng ra 1) (descWord s.eng ra 3) = code) :
    ∃ t, exec (.tact rd ra) s = .next t ∧ unrouted t = unrouted (engineAt s (s.eng.pc + 1) fun e =>
      { setReg e rd (BitVec.ofNat 16 code) with
        tactStat := code, tacts := e.tacts ++ if code = 1 then [postedTact s ra] else [] }) := by
  refine instr_next h _ _ _ ?_ rfl
  have hall : (([0, 1, 2, 3] : List Nat).all fun k => dataOk (idle s).eng (dataAddr (reg (idle s).eng ra) (BitVec.ofNat 16 k))) = true := by
    simp only [reg_idle, dataOk_idle, List.all_cons, List.all_nil, Bool.and_true, Bool.and_eq_true]
    exact ⟨hd 0 (by omega), hd 1 (by omega), hd 2 (by omega), hd 3 (by omega)⟩
  have haddr : ∀ k, k < 4 → (dataWord (idle s).eng (dataAddr (reg (idle s).eng ra) (BitVec.ofNat 16 k))).toNat =
      descWord s.eng ra k := fun k hk => by rw [reg_idle, dataAddr_ofNat _ (by omega)]; rfl
  have hnext : ∀ (u : State) (f : Eng → Eng) (n : Nat), u.eng = (idle s).eng → unrouted u = unrouted (idle s) →
      unrouted (occEng (next u f) n 1) = unrouted (engineAt s (s.eng.pc + 1) f) := by
    intro u f n he hu
    rw [unrouted_occEng, next, unrouted_goto, hu, he]
    rfl
  refine (congrArg unrouted (if_pos hall)).trans ?_
  simp only [haddr 0 (by omega), haddr 1 (by omega), haddr 2 (by omega), haddr 3 (by omega), hc]
  refine (hnext _ _ _ ?_ ?_).trans ?_
  · split <;> simp
  · split <;> simp
  · by_cases h1 : code = 1
    · simp only [h1, if_true]
      rfl
    · simp only [h1, if_false, List.append_nil]

/-- A descriptor that names no such field (R324). -/
theorem tactCode_other {s : State} {idx w1 delay : Nat} (hw : w1 % 256 = 0) (hdelay : delay ≠ 0)
    (h : ¬ tactField idx (w1 / 256)) : tactCode s idx w1 delay = 3 := by
  unfold tactCode
  rw [if_neg (by omega)]
  split
  · rfl
  · next o ho => rw [if_pos (by simpa using fun ht => h (tactField_iff.mpr ⟨o, ho, ht⟩))]

/-- What R324 goes on to check of a descriptor that names a target. -/
theorem tactCode_field {s : State} {idx w1 delay : Nat} {o : Obj} (hw : w1 % 256 = 0) (hdelay : delay ≠ 0)
    (ho : objOf idx = some o) (ht : tactTarget o (w1 / 256) = true) : tactCode s idx w1 delay =
      if 32 ≤ s.eng.tacts.length then 4
      else if s.eng.field && !fieldMayWrite (engCtrl s) (counterAccess s true) o (w1 / 256) then 5
      else if !aqAdmits s then 6 else 1 := by
  simp [tactCode, hw, hdelay, ho, ht]

/-! ## The firing (R325) -/

/-- An engine write of POD_LIVE(p).REQUEST with a privilege that admits it is accepted as the engine's request. -/
theorem writeField_podRequest {x : State} {p v : Nat} {fp : Bool} (hp : p < 48) (hv : 1 ≤ v ∧ v ≤ 3) (hh : inHoldNow x = false)
    (hf : fp = false ∨ (act x 0x1800 1).testBit 9 = true) :
    writeField x .eng fp (0x1300 + p) 1 v = podAsk (afterWrite x .eng) .eng p v := by
  have hallowed : writeAllowed x .eng fp (.podLive p) { words := 1, acc := .wo, dflt := 0 } 1 = true := by
    refine (writeAllowed_iff ..).mpr ⟨nofun, .inl hh, rfl, rfl, .inr ?_⟩
    split
    · next h => exact Bool.and_eq_true_iff.mpr ⟨rfl, hf.resolve_left (by simp [h])⟩
    · rfl
  rw [writeField_checked x .eng fp _ 1 v _ _ (objOf_podLive hp) (fieldOf_request hp), hallowed]
  exact if_pos (by simpa [inRange] using hv)

/-- Where nothing fires in this tick yet, a due firing has the word of this tick or waits one tick (R80, R325). -/
theorem tactDue_head {u : State} {a : Tact} {rest : List Tact} (h : u.eng.tacts = a :: rest) (ha : a.fire ≤ u.clk.time / 512)
    (ht : engTested u = false) : takeDue (frame u) u.eng.tacts = some (a, rest) ∧ tactDue u = true := by
  have h1 : takeDue (frame u) u.eng.tacts = some (a, rest) := by rw [h]; exact if_pos ha
  exact ⟨h1, by simp [tactDue, h1, ht]⟩

/-- What a firing of a request of a pod leaves. -/
theorem unrouted_fireTact {u : State} {a : Tact} {rest : List Tact} {p : Nat} (hd : takeDue (frame u) u.eng.tacts = some (a, rest))
    (hh : inHoldNow u = false) (hp : p < 48) (hi : a.idx = 0x1300 + p) (hs : a.sub = 1) (hv : 1 ≤ a.val ∧ a.val ≤ 3)
    (hf : a.field = false ∨ (act u 0x1800 1).testBit 9 = true) :
    unrouted (fireTact u) = unrouted
      { requested u .eng (fun x => { x with podStat := put x.podStat 0 p 1 })
          (if a.val = 1 then .rise p else if a.val = 2 then .fall p else .release p) with
        eng := { u.eng with tacts := rest, tactWait := false } } := by
  obtain ⟨x, c, w, hx, hfire⟩ : ∃ (x : State) (c : Map Ctr) (w : Now),
      x = { u with eng := { u.eng with tacts := rest, tactWait := false }, ctrs := c, now := w } ∧
      fireTact u = writeField x .eng a.field a.idx a.sub a.val := by
    obtain ⟨c, w, h1⟩ := occ_eq (modEng u fun e => { e with tacts := rest, tactWait := false }) 24 4 8 1
    obtain ⟨c', w', h2⟩ := occ_eq { u with
      eng := { u.eng with tacts := rest, tactWait := false }, ctrs := c, now := { w with fired := true } } 29 1 3 1
    refine ⟨_, c', w', h2, ?_⟩
    simp only [fireTact, hd, occEng, occDict, h1]
    rfl
  have hhold : inHoldNow x = false := by rw [hx]; exact hh
  have hpriv : a.field = false ∨ (act x 0x1800 1).testBit 9 = true := by rw [hx]; exact hf
  rw [hfire, hi, hs, writeField_podRequest hp hv hhold hpriv, hx]
  rfl

/-- The first tick in which a firing of the present frame can come: tick 1, or the one behind another firing. -/
def fireTick (s : State) : State := advance s (if s.now.fired then s.clk.time + 1 else inFrame s 1)

/-- The tick in which it comes, behind HOSTIF or an engine access that holds the store port (R80). -/
def freeTick (s : State) : State :=
  if running (fireTick s) && tactDue (fireTick s) && tactHeld (fireTick s) && !lastOfFrame (fireTick s)
  then passTick (fireTick s) else fireTick s

theorem execTactFire_eq (s : State) : exec .tactFire s = done s fun s =>
    if running s && tactDue s && !(s.now.fired && lastOfFrame s) then
      if running (freeTick s) && tactDue (freeTick s) && !(freeTick s).now.fired && !tactHeld (freeTick s)
      then fireTact (freeTick s) else freeTick s
    else s := rfl

/-- What TACT_FIRE answers where a due action can fire in that tick (R325). -/
theorem tactFire_next {s : State} (hr : running s = true) (hdue : tactDue s = true)
    (hfired : s.now.fired = false ∨ s.clk.time % 512 ≠ 511) (hru : running (freeTick s) = true)
    (hdu : tactDue (freeTick s) = true) (hfu : (freeTick s).now.fired = false) (hh : tactHeld (freeTick s) = false) :
    ∃ t, exec .tactFire s = .next t ∧ unrouted t = { unrouted (fireTact (freeTick s)) with pending := s.pending } := by
  have hlast : (s.now.fired && lastOfFrame s) = false := by
    obtain h | h := hfired <;> simp [h, lastOfFrame]
  refine ⟨_, execTactFire_eq s, (unrouted_done rfl).trans ?_⟩
  simp only [hr, hdue, hlast, hru, hdu, hfu, hh, Bool.not_false, Bool.and_true, if_true]

/-! ## The obligation -/

/-- Settles O24: the code of a TACT decides what it answers, and a due action fires as the engine's request in the tick whose
word it has. -/
theorem timedActions : Obligations.TimedActions := by
  unfold Obligations.TimedActions
  refine ⟨?posts, ?fires⟩
  case posts =>
    intro s rd ra hc word idx sub delay podTarget convTarget marginTarget ctrl answers hd
    have codes : ∀ n l, tactCode (idle s) idx (word 1) delay = n → (if n = 1 then [postedTact s ra] else []) = l → answers n l := by
      rintro n _ hn rfl
      exact tact_next rd hc hd hn
    refine ⟨fun h => codes 2 [] (if_pos h) rfl, fun hw hdelay => ⟨fun ht => ?_, fun ht => ?_⟩⟩
    · exact codes 3 [] (tactCode_other hw hdelay ht) rfl
    · obtain ⟨o, ho, htarget⟩ := tactField_iff.mp ht
      have hadmits : fieldMayWrite ctrl (counterAccess s true) o sub = true ↔ _ := fieldMayWrite_tact ho htarget
      have hcode : tactCode (idle s) idx (word 1) delay =
          if 32 ≤ s.eng.tacts.length then 4
          else if s.eng.field && !fieldMayWrite ctrl (counterAccess s true) o sub then 5
          else if !decide (aqReserved s < 96 - aqHeld s) then 6 else 1 := tactCode_field hw hdelay ho htarget
      refine ⟨fun hfull => codes 4 [] (hcode.trans (if_pos hfull)) rfl, fun hroom => ?_⟩
      intro admitted
      rw [if_neg (Nat.not_le.mpr hroom)] at hcode
      have hfield : (s.eng.field && !fieldMayWrite ctrl (counterAccess s true) o sub) = true ↔ ¬ admitted := by
        rw [show admitted ↔ (s.eng.field = false ∨ fieldMayWrite ctrl (counterAccess s true) o sub = true) from
          or_congr_right hadmits.symm]
        cases s.eng.field <;> simp
      refine ⟨fun hno => codes 5 [] (hcode.trans (if_pos (hfield.mpr hno))) rfl, fun hadm hq => ?_, fun hadm hq => ?_⟩
      all_goals rw [if_neg (by rw [hfield]; exact not_not.mpr hadm)] at hcode
      · rw [decide_eq_false (Nat.not_lt.mpr hq)] at hcode
        exact codes 6 [] hcode rfl
      · rw [decide_eq_true hq] at hcode
        exact codes 1 _ hcode rfl
  case fires =>
    intro s a rest p hr hdue hfired v u hrv hdv hru htest hhold hfu hh htacts ha hp hidx hsub hval hfield ask
    obtain ⟨hd, hdu⟩ := tactDue_head htacts ha htest
    have hfree : freeTick s = u := by
      unfold freeTick
      rw [show fireTick s = v from rfl, hrv, hdv]
      simp [u, lastOfFrame]
    rw [← hfree] at hru hdu hfu hh
    obtain ⟨t, ht, hu⟩ := tactFire_next hr hdue hfired hru hdu hfu hh
    refine ⟨t, ht, hu.trans ?_⟩
    rw [hfree, unrouted_fireTact hd hhold hp hidx hsub (by omega) hfield]
    rfl

end Sys2Proof.Machine
end

section
/-!
SUPPORT. One tick of a device whose line unit rests: what its end and the next one's beginning come to (R50, R80, R229, R335).
-/
namespace Sys2Proof.Machine

/-! ## The end of a tick -/

/-- A resting line unit's receiver takes its sample and finds nothing. -/
theorem receive_rests {s : State} (h : lineRests s) : receive s = s := by
  obtain ⟨hball, hwait, harb, hfault, -, -⟩ := h
  have h1 : sampleFlt s = s := by simp [sampleFlt, hball, hwait]
  have h2 : sampleArb s = s := by
    unfold sampleArb
    split
    · next t0 h => simp [arbRuns, h] at harb
    · rfl
  unfold receive
  simp only [h1, h2]
  refine if_neg fun hc => ?_
  simp only [Bool.and_eq_true, Bool.not_eq_true', decide_eq_true_eq] at hc
  obtain ⟨⟨hlow, hno⟩, hlate⟩ := hc
  have := hfault hlow hno
  omega

/-- No window of a resting line unit passes. -/
theorem passWindows_rests {s : State} (h : lineRests s) : passWindows s = s := by
  obtain ⟨-, -, -, -, hpass, -⟩ := h
  unfold passWindows
  split
  · next hr =>
    refine each_still fun i hi => ?_
    split
    · next hle =>
      obtain hj | hj := hpass hr i (List.mem_range.mp hi)
      · simp [judgeWindow, hj]
      · omega
    · rfl
  · rfl

theorem tactShare_undue {s : State} (h : tactDue s = false) : tactShare s = s := by simp [tactShare, h]

/-- The end of a tick in which no timed action is due is the engine's share of it. -/
theorem tickWork_engine {s : State} (hl : lineRests s) (ht : tactDue s = false) : tickWork s = engineShare s := by
  rw [tickWork, receive_rests hl, passWindows_rests hl, tactShare_undue ht]

/-- The end of a tick of copies that stand alike, and go on to. -/
theorem endTick_alike {s e : State} (hr : running s = true) (ht : s.twin = none) (hw : tickWork s = e) (he : e.twin = none) :
    endTick s = e := by
  rw [endTick, if_pos hr, bothCopies_alike s tickWork ht, hw]
  simp [compareCopies, he]

/-! ## The beginning of the next one -/

/-- A line cycle that does not end in the present tick goes on. -/
theorem passCycles_goesOn {s : State} (h : s.sup.line.role ≠ .stopped → s.clk.time < s.sup.line.base + 3200) :
    passCycles s = s := by
  unfold passCycles
  split
  · rfl
  · next hr =>
    have hdiv : lineTick s / 3200 = 0 := by
      have := h hr
      unfold lineTick
      omega
    rw [hdiv]
    rfl

/-- Nothing of the device's own begins with the tick behind `e`: the line cycle goes on, no disagreement crashes the device, and
neither the two-wire target nor a request in service has an access. -/
structure NextTickQuiet (e : State) : Prop where
  cycle : e.sup.line.role ≠ .stopped → e.clk.time + 1 < e.sup.line.base + 3200
  lock : e.sup.crash.lockNext = false
  access : e.clk.time % 512 = 15 → accessDue e = false
  job : e.odp.job = none

/-- What such a tick begins with: the word of a waiting access, and the count of the engine's waits. -/
theorem tickStart_quiet {e n : State} (h : NextTickQuiet e)
    (hn : unrouted n = unrouted { e with clk := { e.clk with time := e.clk.time + 1 } }) :
    tickStart n = countWait (hostWord n) := by
  have key : ∀ {β : Type} (p : State → β), (∀ s, p (unrouted s) = p s) →
      p n = p { e with clk := { e.clk with time := e.clk.time + 1 } } := fun p hp => of_unrouted p hp hn
  have htime : n.clk.time = e.clk.time + 1 := key (fun s => s.clk.time) fun _ => rfl
  have hline : n.sup.line = e.sup.line := key (fun s => s.sup.line) fun _ => rfl
  have hcycles : passCycles n = n := passCycles_goesOn (by rw [hline, htime]; exact h.cycle)
  have hlock : n.sup.crash.lockNext = false := (key (fun s => s.sup.crash.lockNext) fun _ => rfl).trans h.lock
  have haccess : accessTick n = n := by
    unfold accessTick
    refine if_neg fun hc => ?_
    simp only [Bool.and_eq_true, decide_eq_true_eq] at hc
    obtain ⟨⟨hdue, h16⟩, -⟩ := hc
    have hframe : frame { e with clk := { e.clk with time := e.clk.time + 1 } } = frame e := by
      simp only [frame, frameOf]
      omega
    have hsame : accessDue n = accessDue e := (key accessDue fun _ => rfl).trans (by simp only [accessDue, hframe]; rfl)
    rw [hsame, h.access (by omega)] at hdue
    cases hdue
  have hodp : odpWord n = n := by
    have : n.odp.job = none := (key (fun s => s.odp.job) fun _ => rfl).trans h.job
    simp [odpWord, this]
  simp only [tickStart, hcycles, hlock, haccess, hodp, Bool.false_eq_true, if_false]

/-- A tick that ends with `e` and begins the next one quietly. -/
theorem unrouted_passTick {s e : State} (he : endTick s = e) (ht : e.clk.time = s.clk.time) (hs : e.now.samples = [])
    (h : NextTickQuiet e) (hr : running e = true) :
    unrouted (passTick s) = unrouted (hostWord (newTick e (e.clk.time + 1))) := by
  have hn : unrouted (newTick e (e.clk.time + 1)) = unrouted { e with clk := { e.clk with time := e.clk.time + 1 } } :=
    unrouted_newTick e _ hs
  have hrun : running (newTick e (e.clk.time + 1)) = true := (of_unrouted running (fun _ => rfl) hn).trans hr
  have hcount : ∀ u, unrouted (countWait u) = unrouted u := by
    intro u
    obtain ⟨k, w, hk⟩ := countWait_eq u
    rw [hk]
    rfl
  rw [passTick, passTo, he, ← ht, beginTick, if_pos hrun, unrouted_bothCopies, tickStart_quiet h hn, hcount]

/-- The same where no access waits for the store port: the tick only passes. -/
theorem unrouted_passTick_idle {s e : State} (he : endTick s = e) (ht : e.clk.time = s.clk.time) (hs : e.now.samples = [])
    (h : NextTickQuiet e) (hr : running e = true) (hq : e.hostQ = []) :
    unrouted (passTick s) = unrouted { e with clk := { e.clk with time := e.clk.time + 1 } } := by
  have hn : unrouted (newTick e (e.clk.time + 1)) = unrouted { e with clk := { e.clk with time := e.clk.time + 1 } } :=
    unrouted_newTick e _ hs
  have hnone : (newTick e (e.clk.time + 1)).hostQ = [] := (of_unrouted (fun s => s.hostQ) (fun _ => rfl) hn).trans hq
  rw [unrouted_passTick he ht hs h hr, ← hn]
  simp [hostWord, hnone]

/-- What a step answers that passes a tick. -/
theorem step_tick {s : State} (hp : s.pending = []) (hr : running s = true) (hlast : s.clk.time % 512 ≠ 511) :
    ∃ t, step s = .next t ∧ unrouted t = { unrouted (passTick s) with pending := [] } := by
  have hstep : step s = .next (tick s) := by simp only [step, hp]
  refine ⟨_, hstep, ?_⟩
  rw [tick, if_pos (by simp [hr, lastOfFrame, hlast]), unrouted_withPending, unrouted_flush, hp]

end Sys2Proof.Machine
end

section
/-!
SUPPORT. The monitors of the supplies, the banks, the temperature and the crystal (R42, R43, R352 to R356, R511).
-/
namespace Sys2Proof.Machine

/-! ## Event lines that take the present level -/

/-- Lines that take their level change nothing else; each takes the level that its pin had before any of them. -/
theorem each_pevTake (l : List Nat) : ∀ s : State, ∃ m, each l s pevTake = { s with pins := { s.pins with pev := m } } ∧
    ∀ k, get m Pev.reset k = if k ∈ l then { level := pinLevel s (pevPin s k), cnt := 0 } else pevOf s k := by
  induction l with
  | nil => exact fun s => ⟨s.pins.pev, rfl, fun k => by simp [pevOf]⟩
  | cons x r ih =>
    intro s
    obtain ⟨m, hm, hget⟩ := ih (pevTake s x)
    refine ⟨m, hm, fun k => (hget k).trans ?_⟩
    have hlevel : pinLevel (pevTake s x) (pevPin (pevTake s x) k) = pinLevel s (pevPin s k) := rfl
    have hof : pevOf (pevTake s x) k = if k = x then { level := pinLevel s (pevPin s x), cnt := 0 } else pevOf s k :=
      get_put ..
    rw [hlevel, hof]
    by_cases hr : k ∈ r
    · simp [hr]
    · by_cases hx : k = x <;> simp [hr, hx]

/-! ## Banks -/

/-- A bank that does not become good, or does so in reset, changes its own bit only. -/
theorem bankChange_bit {s : State} {b : Nat} {good : Bool}
    (h : good = false ∨ s.sup.supply.banks.testBit b = true ∨ s.pwr.held = true) :
    bankChange s b good = modSupply s fun u => { u with banks := putBit u.banks b good } := by
  refine if_neg fun hc => ?_
  simp only [Bool.and_eq_true, Bool.not_eq_true', modSupply_frame, bit] at hc
  obtain ⟨⟨⟨hgood, hwas⟩, -⟩, hheld⟩ := hc
  obtain h | h | h := h <;> simp_all

/-- The balls that SLEEP shows are captured in the pins alone. -/
theorem captureSleep_eq (s : State) : ∃ d, captureSleep s = { s with pins := { s.pins with driven := d } } := by
  unfold captureSleep
  split
  · exact ⟨_, rfl⟩
  · exact ⟨s.pins.driven, rfl⟩

/-- The pins of a bank wait for the next CLK_BUS edge (R511). -/
def bankWaits (s : State) (b : Nat) : State :=
  if running s then { s with pins := { s.pins with vio := put s.pins.vio 0 b (busEdge s.clk.time) } } else s

theorem bankWaits_eq (s : State) (b : Nat) : bankWaits s b = { s with pins := { s.pins with
    vio := if running s then put s.pins.vio 0 b ((s.clk.time / 4 + 1) * 4) else s.pins.vio } } := by
  unfold bankWaits
  split <;> rfl

/-- A bank that becomes good: its pins wait for the CLK_BUS edge, its event lines take the level that then shows (R460, R511). -/
theorem bankChange_good {s : State} {b : Nat} (hp : s.pwr.powered = true) (hb : s.sup.supply.banks.testBit b = false)
    (hh : s.pwr.held = false) {shown : State}
    (hshown : shown = captureSleep (modSupply s fun u => { u with banks := putBit u.banks b true })) :
    ∃ m, bankChange s b true = { shown with pins := { shown.pins with
        vio := if running s then put s.pins.vio 0 b ((s.clk.time / 4 + 1) * 4) else s.pins.vio, pev := m } } ∧
      ∀ k, k < 8 → get m Pev.reset k = if (pevCfg s k).testBit 15 ∧ pinBank (pevPin s k) = b then
        { level := pinLevel shown (pevPin s k), cnt := 0 } else pevOf s k := by
  obtain ⟨d, hd⟩ := captureSleep_eq (modSupply s fun u => { u with banks := putBit u.banks b true })
  have hchange : bankChange s b true = each ((List.range 8).filter fun n =>
      bit (pevCfg (bankWaits shown b) n) 15 && decide (pinBank (pevPin (bankWaits shown b) n) = b)) (bankWaits shown b) pevTake := by
    rw [hshown]
    exact if_pos (by simp [bit, hb, hp, hh])
  obtain ⟨m, hm, hget⟩ := each_pevTake ((List.range 8).filter fun n =>
      bit (pevCfg (bankWaits shown b) n) 15 && decide (pinBank (pevPin (bankWaits shown b) n) = b)) (bankWaits shown b)
  rw [bankWaits_eq, hshown.trans hd] at hchange hm hget
  refine ⟨m, ?_, fun k hk => (hget k).trans ?_⟩
  · rw [hchange, hm, hshown.trans hd]
    rfl
  · rw [hshown.trans hd]
    simp only [List.mem_filter, List.mem_range, hk, true_and, Bool.and_eq_true, decide_eq_true_eq]
    rfl

/-! ## The obligation -/

/-- The measurement that falls due (R355). -/
theorem measureDue_iff (s : State) :
    measureDue s = true ↔ ∀ f, s.sup.supply.measured = some f → f < frame s ∧ (frame s - f) % 256 = 0 := by
  unfold measureDue
  split
  · next f h => simp [h]
  · next h => simp [h]

/-- What a command answers whose effect is known. -/
theorem done_effect {s u : State} {f : State → State} (h : f s = u) (hp : u.pending = s.pending) :
    ∃ t, done s f = .next t ∧ unrouted t = unrouted u :=
  done_next s u f (congrArg unrouted h) hp

/-- A command that raises an event beside its effect. -/
theorem done_raises {s u : State} {f : State → State} {e : Nat} (h : f s = raise u e) (hp : u.pending = s.pending) :
    ∃ t, done s f = .next t ∧ shows t e ∧ unrouted t = unrouted u := by
  obtain ⟨t, ht, hu⟩ := done_next s (raise u e) f (congrArg unrouted h) hp
  exact ⟨t, ht, (done_shows ht e).mpr (.inr (by simp [h])), hu⟩

/-- What a command does that acts only in a running device. -/
theorem whenRunning_running {s : State} (h : running s = true) (f : State → State) : whenRunning s f = f s := if_pos h

/-- The bit that shows the supply of an I/O bank (R355). -/
def vioBit : VioBank → Nat
  | .a => 8
  | .b => 9

/-- The command of an I/O bank. -/
theorem exec_vioBankChange {s : State} (hp : s.pwr.powered = true) {bank : VioBank} {good : Bool} {u : State}
    (h : bankChange s (vioBit bank) good = u) (hu : u.pending = s.pending) :
    ∃ t, exec (.vioBankChange bank good) s = .next t ∧ unrouted t = unrouted u := by
  cases bank <;> exact done_effect ((if_pos hp).trans h) hu

/-- An I/O bank that becomes good (R353, R460, R511). -/
theorem vioBankChange_good {s : State} {bank : VioBank} (hp : s.pwr.powered = true)
    (hb : s.sup.supply.banks.testBit (vioBit bank) = false) (hh : s.pwr.held = false) {shown : State}
    (hshown : shown = captureSleep (modSupply s fun u => { u with banks := putBit u.banks (vioBit bank) true })) :
    ∃ t, exec (.vioBankChange bank true) s = .next t ∧
      unrouted t = unrouted { shown with pins := { shown.pins with
        vio := if running s then put s.pins.vio 0 (vioBit bank) ((s.clk.time / 4 + 1) * 4) else s.pins.vio
        pev := t.pins.pev } } ∧
      ∀ k, k < 8 → pevOf t k = if (pevCfg s k).testBit 15 ∧ pinBank (pevPin s k) = vioBit bank then
        { level := pinLevel shown (pevPin s k), cnt := 0 } else pevOf s k := by
  obtain ⟨m, hm, hget⟩ := bankChange_good hp hb hh hshown
  have hpend : shown.pending = s.pending := by
    obtain ⟨d, hd⟩ := captureSleep_eq (modSupply s fun u => { u with banks := putBit u.banks (vioBit bank) true })
    rw [hshown, hd]
    rfl
  obtain ⟨t, ht, hu⟩ := exec_vioBankChange hp hm hpend
  have hpev : t.pins.pev = m := of_unrouted (fun s => s.pins.pev) (fun _ => rfl) hu
  refine ⟨t, ht, by rw [hu, hpev], fun k hk => ?_⟩
  rw [pevOf, hpev, hget k hk]

/-! ## Measurements and warnings -/

/-- The measurement that falls due (R286, R355, R356). -/
theorem supplyMeasure_due {s : State} {m : Measured} (hr : running s = true) (hdue : measureDue s = true)
    (hvaux : m.vaux < 65536) (hv33 : m.v33 < 65536) (hv09 : m.v09 < 65536) (hvhold : m.vhold < 256) (htj : m.tj < 65536) :
    ∃ t, exec (.supplyMeasure m) s = .next t ∧ unrouted t = unrouted
      { modSupply s (fun u => { u with
          measured := some (frame s), vaux := m.vaux, v33 := m.v33, v09 := m.v09, vauxMin := min u.vauxMin m.vaux, tj := m.tj
          tjMax := if s16 u.tjMax < s16 m.tj then m.tj else u.tjMax }) with
        recs := { s.recs with
          vhold := m.vhold
          charged := s.recs.charged || (serviceable s.sup.mode && decide (act s 0x1700 4 ≤ m.vhold))
          reached := s.recs.reached || decide (act s 0x1700 4 ≤ m.vhold) } } := by
  refine done_effect ((if_neg (by simp [hdue, hr])).trans ?_) rfl
  simp only [Nat.mod_eq_of_lt hvaux, Nat.mod_eq_of_lt hv33, Nat.mod_eq_of_lt hv09, Nat.mod_eq_of_lt hvhold,
    Nat.mod_eq_of_lt htj]
  rfl

theorem supplyMeasure_undue {s : State} (m : Measured) (hdue : measureDue s = false) :
    ∃ t, exec (.supplyMeasure m) s = .next t ∧ unrouted t = unrouted s :=
  done_effect (if_pos (by simp [hdue])) rfl

/-- A supply warning is raised where its condition holds, and cleared where it does not (R354). -/
theorem supplyWarning_raised {s : State} {b : Nat} (hr : running s = true) (hm : serviceable s.sup.mode = true)
    (hclear : s.sup.supply.warn.testBit b = false) (hcond : warnCondition s b = true) :
    ∃ t, exec (.supplyWarning b) s = .next t ∧ shows t 43 ∧
      unrouted t = unrouted (modSupply s fun u => { u with warn := u.warn ||| 2 ^ b }) :=
  done_raises ((whenRunning_running hr _).trans (if_pos (by simp [hm, bit, hclear, hcond]))) rfl

theorem supplyWarning_cleared {s : State} {b : Nat} (hr : running s = true) (hm : serviceable s.sup.mode = true)
    (hcond : 10 ≤ b ∨ warnCondition s b = false) :
    ∃ t, exec (.supplyWarningClear b) s = .next t ∧
      unrouted t = unrouted (modSupply s fun u => { u with warn := clrBit u.warn b }) :=
  done_effect ((whenRunning_running hr _).trans (if_pos (by simpa [hm] using hcond))) rfl

/-! ## The crystal monitor -/

theorem crystalGate_passes {s : State} {edges : Nat} (hr : running s = true) (hc : s.clk.crystal = true)
    (hlo : 960 ≤ edges) (hhi : edges ≤ 1088) : ∃ t, exec (.crystalMonitorGate edges) s = .next t ∧
      unrouted t = unrouted { s with clk := { s.clk with failGates := 0 } } :=
  done_effect ((whenRunning_running hr _).trans <| (if_neg (by simp [hc])).trans (if_pos ⟨hlo, hhi⟩)) rfl

/-- The first failing gate only notes the failure (R42). -/
theorem crystalGate_firstFail {s : State} {edges : Nat} (hr : running s = true) (hc : s.clk.crystal = true)
    (hout : edges < 960 ∨ 1088 < edges) (h0 : s.clk.failGates = 0) : ∃ t, exec (.crystalMonitorGate edges) s = .next t ∧
      unrouted t = unrouted { s with clk := { s.clk with failGates := 1, monFail := true } } :=
  done_effect ((whenRunning_running hr _).trans <| (if_neg (by simp [hc])).trans <|
    (if_neg (by omega)).trans (if_pos h0)) rfl

/-- The second one falls back to the internal oscillator with event 42 (R43). -/
theorem crystalGate_secondFail {s : State} {edges : Nat} (hr : running s = true) (hc : s.clk.crystal = true)
    (hout : edges < 960 ∨ 1088 < edges) (h0 : 0 < s.clk.failGates) :
    ∃ t, exec (.crystalMonitorGate edges) s = .next t ∧ shows t 42 ∧ unrouted t = unrouted { s with
      clk := { s.clk with failGates := 2, monFail := true, crystal := false, fallback := true } } :=
  done_raises ((whenRunning_running hr _).trans <| (if_neg (by simp [hc])).trans <|
    (if_neg (by omega)).trans (if_neg (by omega))) rfl

/-- Settles O46: each monitor's command changes its own registers. -/
theorem monitorsChangeTheirRegisters : Obligations.MonitorsChangeTheirRegisters := by
  intro s g b edges bank good m hp supply clock n
  have hn : n = vioBit bank := by cases bank <;> rfl
  clear_value n
  subst hn
  refine ⟨fun hg => done_effect (if_pos (by simp [hp, hg])) rfl, ?_⟩
  intro banked
  refine ⟨fun h => exec_vioBankChange hp (bankChange_bit h) rfl, ?_⟩
  intro shown
  refine ⟨fun hgood hb hh => ?_, ?_⟩
  · subst hgood
    exact vioBankChange_good hp hb hh rfl
  intro due
  refine ⟨fun _ hnot => supplyMeasure_undue m (Bool.eq_false_iff.mpr (mt (measureDue_iff s).mp hnot)),
    fun hr hdue => supplyMeasure_due hr ((measureDue_iff s).mpr hdue),
    fun hr hm => ⟨supplyWarning_raised hr hm, supplyWarning_cleared hr hm⟩, fun hr => ⟨fun htemp => ?_, ?_, fun hc =>
      ⟨crystalGate_passes hr hc, crystalGate_firstFail hr hc, fun hout h0 => ?_⟩⟩⟩
  · exact done_raises ((whenRunning_running hr _).trans (if_neg (by simp [htemp]))) rfl
  · exact done_effect (whenRunning_running hr _) rfl
  · obtain ⟨t, ht, hshows, hu⟩ := crystalGate_secondFail hr hc hout h0
    exact ⟨⟨t, ht, hshows⟩, t, ht, hu⟩

end Sys2Proof.Machine
end

section
/-!
SUPPORT. The announces of both ports (R374, R408), BOOT-HOLD (R361, R362) and the BOOT steps (R360, R493 to R497).
-/
namespace Sys2Proof.Machine

/-! ## Announces -/

/-- An announce changes its port only, which goes on with what it finishes. -/
theorem announce_eq (s : State) (p : Port) (kind : Nat) :
    ∃ c, announce s p kind = modPort s p (fun _ => c) ∧ c.finishing = (port s p).finishing := by
  unfold announce makeFrame
  cases p <;> split <;> exact ⟨_, rfl, rfl⟩

/-- Both announces change the ports only: each port that is on has its announce ahead (R374, R408). -/
theorem announceBoth_eq (s : State) : ∃ a b, announceBoth s = { s with canA := a, canB := b } ∧
    a.finishing = s.canA.finishing ∧ a.announce = portOn s .a ∧
    b.finishing = s.canB.finishing ∧ b.announce = portOn s .b := by
  obtain ⟨a, ha, hfa⟩ := announce_eq s .a 0
  let u : State := { s with canA := { a with announce := portOn s .a } }
  obtain ⟨b, hb, hfb⟩ := announce_eq u .b 0
  refine ⟨{ a with announce := portOn s .a }, { b with announce := portOn s .b }, ?_, hfa, rfl, hfb, rfl⟩
  have h1 : modPort (announce s .a 0) .a (fun c => { c with announce := portOn s .a }) = u := by rw [ha]; rfl
  calc announceBoth s = modPort (announce (modPort (announce s .a 0) .a fun c => { c with announce := portOn s .a }) .b 0) .b
          fun c => { c with announce := portOn (modPort (announce s .a 0) .a fun c => { c with announce := portOn s .a }) .b } := rfl
    _ = _ := by rw [h1, hb]; rfl

/-! ## BOOT-HOLD -/

/-- What BOOT-HOLD begins with (R361, R362). -/
theorem enterHold_begins {s : State} (hm : s.sup.mode = .boot) (hh : s.boot.hold = false) (cause : Nat) :
    (enterHold s cause).boot = { s.boot with hold := true, cause := cause } ∧
    (enterHold s cause).bist = { s.bist with valid := true, bootCause := cause } ∧
    (enterHold s cause).sup = { s.sup with bootHold := true } ∧ (enterHold s cause).pending = s.pending := by
  unfold enterHold
  rw [if_pos ⟨hm, hh⟩]
  dsimp only
  generalize hu : holdDefaults _ = u
  obtain ⟨a, b, hab, -⟩ := announceBoth_eq u
  rw [hab, ← hu]
  exact ⟨rfl, rfl, rfl, rfl⟩

/-- BOOT-HOLD begins once. -/
theorem enterHold_again {s : State} (hh : s.boot.hold = true) (cause : Nat) : enterHold s cause = s :=
  if_neg (by simp [hh])

/-- A command whose effect begins BOOT-HOLD. -/
theorem done_holds {s u : State} {f : State → State} {cause : Nat} (h : f s = enterHold u cause) (hm : u.sup.mode = .boot)
    (hh : u.boot.hold = false) : ∃ t, done s f = .next t ∧ t.boot.hold = true ∧ t.boot.cause = cause ∧
      t.sup.mode = .boot ∧ t.bist = { u.bist with valid := true, bootCause := cause } := by
  obtain ⟨hboot, hbist, hsup, -⟩ := enterHold_begins hm hh cause
  obtain ⟨t, ht, hu⟩ : ∃ t, done s f = .next t ∧ unrouted t = { unrouted (enterHold u cause) with pending := s.pending } :=
    ⟨_, rfl, by rw [unrouted_done rfl, h]⟩
  have hb : t.boot = (enterHold u cause).boot := of_unrouted (fun s => s.boot) (fun _ => rfl)
    (t := { enterHold u cause with pending := s.pending }) hu
  have hi : t.bist = (enterHold u cause).bist := of_unrouted (fun s => s.bist) (fun _ => rfl)
    (t := { enterHold u cause with pending := s.pending }) hu
  have hd : t.sup.mode = (enterHold u cause).sup.mode := of_unrouted (fun s => s.sup.mode) (fun _ => rfl)
    (t := { enterHold u cause with pending := s.pending }) hu
  refine ⟨t, ht, ?_, ?_, ?_, hi.trans hbist⟩
  · rw [hb, hboot]
  · rw [hb, hboot]
  · rw [hd, hsup]
    exact hm

/-! ## What a state shares with one of the same unrouted part -/

theorem bist_of_unrouted {s t : State} (h : unrouted s = unrouted t) : s.bist = t.bist :=
  of_unrouted (fun s => s.bist) (fun _ => rfl) h

theorem boot_of_unrouted {s t : State} (h : unrouted s = unrouted t) : s.boot = t.boot :=
  of_unrouted (fun s => s.boot) (fun _ => rfl) h

/-! ## Runs of BOOT -/

/-- The result of a run, by its patterns and its signature (R494). -/
theorem runResult_eq (p : Nat) (r : BistRun) : runResult p r =
    if r.patterns < terminalCount p then 3 else if r.misr % 2 ^ 32 = (Config.expectedSig p).toNat then 1 else 2 := by
  have h : min r.patterns (terminalCount p) < terminalCount p ↔ r.patterns < terminalCount p := by omega
  exact if_congr h rfl rfl

/-- The self-test state after the BOOT run of a partition (R494, R507). -/
def ranBist (b : Bist) (part result : Nat) (run copy : BistRun) : Bist := { b with
  part := put b.part 0 part (result * 4096 + flg (bit (get b.part 0 part) 11) 11 + flg true 9)
  sig := put b.sig 0 part (unitEnd part run).misr
  units := if part = 0 then put (put b.units BistUnit.reset part (unitEnd part run)) BistUnit.reset 6 (unitEnd 0 copy)
    else put b.units BistUnit.reset part (unitEnd part run) }

/-- What LOGIC_BIST keeps of a run, before its result acts. -/
theorem exec_logicBist {s : State} {part : Nat} (hr : running s = true) (hm : s.sup.mode = .boot)
    (hmem : s.boot.memDone = true) (hpart : part ≤ 5) (h0 : get s.bist.part 0 part = 0) (run copy : BistRun)
    (silent : List Nat) : ∃ f, exec (.logicBist part run copy silent) s = done s f ∧ f s =
      let r := bootResult part run copy silent
      let u := { s with bist := ranBist s.bist part r run copy }
      if r = 1 then { u with boot := { u.boot with logicDone := setBit u.boot.logicDone part } } else nameFailure u part r := by
  refine ⟨_, rfl, (whenRunning_running hr _).trans ((if_pos ⟨hm, hmem, hpart, h0⟩).trans ?_)⟩
  by_cases hz : part = 0
  · subst hz
    rfl
  · simp only [ranBist, if_neg hz]
    rfl

/-- What is kept of a BOOT run, as the fields show it. -/
theorem ranBist_shows {s : State} {part : Nat} (hpart : part ≤ 5)
    (h0 : get s.bist.part 0 part = 0) (result : Nat)
    (run copy : BistRun) : let b := ranBist s.bist part result run copy
    get b.part 0 part = 4096 * result + 2 ^ 9 ∧ get b.sig 0 part = run.misr % 2 ^ 32 ∧
      get b.units BistUnit.reset part = unitEnd part run ∧ (part = 0 → get b.units BistUnit.reset 6 = unitEnd 0 copy) := by
  refine ⟨?_, get_put_same .., ?_, fun hz => ?_⟩
  · simp only [ranBist, get_put_same, h0]
    simp [bit, flg]
    omega
  · simp only [ranBist]
    split
    · rw [get_put_other _ _ _ (Nat.ne_of_lt (Nat.lt_succ_of_le hpart)), get_put_same]
    · rw [get_put_same]
  · simp only [ranBist, if_pos hz, get_put_same]

/-- The result of a BOOT run of a partition (R494, R495). -/
theorem bootResult_eq (part : Nat) (run copy : BistRun) (silent : List Nat) : bootResult part run copy silent =
    if part ≠ 0 then runResult part run else if silent ≠ [] then 2
    else if runResult part run ≠ 1 then runResult part run else runResult part copy := by
  unfold bootResult
  split
  · rfl
  · next hz =>
    have hz : part = 0 := by omega
    subst hz
    cases silent with
    | cons => rfl
    | nil => by_cases h : runResult 0 run = 1 <;> simp [h]

/-! ## The obligation -/

/-- The steps that may still be open when their time ends (R361, R507). -/
theorem stepOpen_of {s : State} {n : Nat} (h : n = 1 ∧ s.boot.crystalDone = false ∨ n = 2 ∧ s.boot.memDone = false ∨
    n = 3 ∧ s.boot.logicDone ≠ 63 ∨ n = 4 ∧ s.boot.ringDone = false ∨ n = 5 ∧ s.boot.imageDone = false ∨
    n = 6 ∧ s.boot.imageDone = true ∧ s.boot.refFrames ≠ 0) : stepOpen s n = true := by
  obtain ⟨rfl, h⟩ | ⟨rfl, h⟩ | ⟨rfl, h⟩ | ⟨rfl, h⟩ | ⟨rfl, h⟩ | ⟨rfl, h1, h⟩ := h <;> simp [stepOpen, *]

/-- BOOT_RESULT goes on to name the lowest failing partition (R497). -/
theorem nameFailure_again {s : State} (hh : s.boot.hold = true) (hc : s.boot.cause = 2) (part r : Nat) :
    nameFailure s part r = { s with bist := { s.bist with
      bootPart := min part s.bist.bootPart, bootRes := if part < s.bist.bootPart then r else s.bist.bootRes } } := by
  unfold nameFailure
  by_cases hlow : part < s.bist.bootPart
  · rw [if_pos (.inr ⟨hc, hlow⟩), enterHold_again (by exact hh), Nat.min_eq_left hlow.le, if_pos hlow]
    rfl
  · rw [if_neg (by simp [hh, hlow]), Nat.min_eq_right (by omega), if_neg hlow]

/-- What a BOOT run brings: its results, and by its result the step is noted or BOOT-HOLD named (R495, R497). -/
theorem logicBist_outcome {s : State} {part : Nat} (hr : running s = true) (hm : s.sup.mode = .boot)
    (hmem : s.boot.memDone = true) (hpart : part ≤ 5) (h0 : get s.bist.part 0 part = 0) (run copy : BistRun)
    (silent : List Nat) : let r := bootResult part run copy silent
    (r = 1 → ∃ t, exec (.logicBist part run copy silent) s = .next t ∧ t.bist = ranBist s.bist part r run copy ∧
      unrouted t = unrouted { s with
        boot := { s.boot with logicDone := s.boot.logicDone ||| 2 ^ part }, bist := t.bist }) ∧
    (r ≠ 1 → s.boot.hold = false → ∃ t, exec (.logicBist part run copy silent) s = .next t ∧ t.boot.hold = true ∧
      t.boot.cause = 2 ∧ t.sup.mode = .boot ∧ t.bist = { ranBist s.bist part r run copy with
        valid := true, bootCause := 2, bootPart := part, bootRes := r }) ∧
    (r ≠ 1 → s.boot.hold = true → s.boot.cause = 2 → ∃ t, exec (.logicBist part run copy silent) s = .next t ∧
      t.boot = s.boot ∧ ∃ res, t.bist = { ranBist s.bist part r run copy with
        bootPart := min part (ranBist s.bist part r run copy).bootPart, bootRes := res }) := by
  obtain ⟨f, hf, heff⟩ := exec_logicBist hr hm hmem hpart h0 run copy silent
  dsimp only at heff ⊢
  rw [hf]
  clear hf h0
  generalize bootResult part run copy silent = r at heff ⊢
  generalize ranBist s.bist part r run copy = b at heff ⊢
  refine ⟨fun h1 => ?_, fun h1 hh => ?_, fun h1 hh hcause => ?_⟩
  · obtain ⟨t, ht, hu⟩ := done_effect (heff.trans (if_pos h1)) rfl
    have hb : t.bist = b := bist_of_unrouted hu
    exact ⟨t, ht, hb, by rw [hu, hb]; rfl⟩
  · obtain ⟨t, ht, hhold, hcause, hmode, hb⟩ := done_holds (heff.trans ((if_neg h1).trans (if_pos (.inl hh)))) hm hh
    exact ⟨t, ht, hhold, hcause, hmode, hb⟩
  · have hname := heff.trans (if_neg h1)
    rw [nameFailure_again (s := { s with bist := b }) hh hcause] at hname
    obtain ⟨t, ht, hu⟩ := done_effect hname rfl
    exact ⟨t, ht, by rw [boot_of_unrouted hu], _, by rw [bist_of_unrouted hu]⟩

/-- Settles O43: each BOOT step, and what ends it in BOOT-HOLD. -/
theorem bootStepsAndTheirFailures : Obligations.BootStepsAndTheirFailures := by
  intro s part run copy silent hr hm holds
  have atBoot : ∀ f : State → State, whenRunning s f = f s := whenRunning_running hr
  refine ⟨fun hh => ?_, fun hmem hpart h0 => ?_⟩
  · have hbooting : booting s = true := by simp [booting, hm, hh]
    have begins : ∀ {c : Instr} {f : State → State} {u : State} {cause : Nat} {also : State → Prop}, exec c s = done s f →
        f s = enterHold u cause → u.sup.mode = .boot → u.boot.hold = false →
        (∀ t, t.bist = { u.bist with valid := true, bootCause := cause } → also t) → holds c cause also := by
      intro c f u cause also hc hf hum huh halso
      obtain ⟨t, ht, hhold, hcause, hmode, hb⟩ := done_holds hf hum huh
      exact ⟨t, hc.trans ht, hhold, hcause, by rw [hb], hmode, halso t hb⟩
    refine ⟨fun hx => ⟨?_, ?_⟩, fun hx => ⟨?_, fun c hram haddr hbit => ?_⟩, fun hx hring => ?_, fun n hn => ?_⟩
    · exact done_effect ((atBoot _).trans (if_pos (by simp [hbooting, hx]))) rfl
    · exact done_effect ((atBoot _).trans (if_pos (by simp [hbooting, hx]))) rfl
    · exact done_effect ((atBoot _).trans (if_pos (by simp [hbooting, hx]))) rfl
    · refine begins rfl ((atBoot _).trans (if_pos (by simp [hbooting, hx]))) hm hh fun t ht => ?_
      rw [ht]
      simp only [modBist_bist, memFailWord, Nat.mod_eq_of_lt hram, Nat.mod_eq_of_lt haddr, Nat.mod_eq_of_lt hbit]
    · obtain ⟨t, ht, hu⟩ : ∃ t, exec .ringScan s = .next t ∧
          unrouted t = unrouted (ringScan { s with boot := { s.boot with ringDone := true } }) :=
        done_effect ((atBoot _).trans (if_pos (by simp [hbooting, hx, hring]))) rfl
      refine ⟨t, ht, ?_, ?_⟩
      · have split : ∀ u : State, unrouted { u with recs := t.recs } = { unrouted u with recs := (unrouted t).recs } :=
          fun _ => rfl
        rw [split { s with boot := { s.boot with ringDone := true } }, hu]
        rfl
      · have key : ∀ {β : Type} (p : Rec → β), (∀ r : Rec, p { r with history := [], cap := r.cap.map bareCapture } = p r) →
            p t.recs = p (ringScan { s with boot := { s.boot with ringDone := true } }).recs := fun p hp =>
          of_unrouted (fun s => p s.recs) (fun u => hp u.recs) hu
        exact ⟨key Rec.nvm fun _ => rfl, key Rec.scanned fun _ => rfl, key Rec.kernel fun _ => rfl, key Rec.husk fun _ => rfl,
          key Rec.summary fun _ => rfl⟩
    · exact begins rfl ((atBoot _).trans (if_pos (by simp [hbooting, stepOpen_of hn]))) hm hh fun t ht => by rw [ht]; rfl
  · intro count res result unit bist
    have hcount : ∀ r, res r = runResult part r := fun r => (runResult_eq part r).symm
    have hresult : result = bootResult part run copy silent := by
      rw [bootResult_eq]
      exact if_congr Iff.rfl (hcount run) (if_congr Iff.rfl rfl (if_congr (by rw [hcount]) (hcount run) (hcount copy)))
    have hbist : ∀ t : State, ∀ b, b = ranBist s.bist part (bootResult part run copy silent) run copy →
        t.bist.part = b.part → t.bist.sig = b.sig → t.bist.units = b.units → bist t := by
      intro t b hb hp hs hu
      obtain ⟨hpart', hsig, hunit, hcopy⟩ := ranBist_shows hpart h0 (bootResult part run copy silent) run copy
      subst hb
      simp only [bist, hp, hs, hu, hresult]
      refine ⟨hpart', hsig, ?_, fun hz => ?_⟩
      · rw [hunit]
        exact ⟨rfl, rfl, rfl⟩
      · rw [hcopy hz]
        subst hz
        exact ⟨rfl, rfl, rfl⟩
    obtain ⟨hpass, hfail, hlater⟩ := logicBist_outcome hr hm hmem hpart h0 run copy silent
    clear_value bist
    rw [hresult]
    refine ⟨fun h1 => ?_, fun h1 hh => ?_, fun h1 hh hcause => ?_⟩
    · obtain ⟨t, ht, hb, hu⟩ := hpass h1
      exact ⟨t, ht, hbist t _ rfl (by rw [hb]) (by rw [hb]) (by rw [hb]), hu⟩
    · obtain ⟨t, ht, hhold, hc, hmode, hb⟩ := hfail h1 hh
      exact ⟨t, ht, hhold, hc, by rw [hb], hmode, hbist t _ rfl (by rw [hb]) (by rw [hb]) (by rw [hb]), by rw [hb], by rw [hb]⟩
    · obtain ⟨t, ht, hboot, res, hb⟩ := hlater h1 hh hcause
      exact ⟨t, ht, hbist t _ rfl (by rw [hb]) (by rw [hb]) (by rw [hb]), hboot, by rw [hb]; rfl⟩

end Sys2Proof.Machine
end

section
/-!
SUPPORT. Resets: what begins one in a device that writes nothing to its NVM, and what its release brings (R46, R48, R358).
-/
namespace Sys2Proof.Machine

/-! ## The state in reset -/

/-- The NVM is all that a reset keeps of a record writer at rest. -/
theorem recsAfterReset_atRest {s : State} (h : nvmAtRest s) : recsAfterReset s.recs = Rec.reset s.recs.nvm := by
  obtain ⟨hidle | hended, -⟩ := h
  · rw [recsAfterReset, hidle]
  · rw [recsAfterReset, hended]

theorem nvm_recsAfterReset (r : Rec) : (recsAfterReset r).nvm = r.nvm := by
  unfold recsAfterReset
  split <;> rfl

theorem commitOnHold_atRest {s : State} (h : nvmAtRest s) : commitOnHold s = false := by
  obtain ⟨hidle | hended, -⟩ := h
  · rw [commitOnHold, hidle]
  · rw [commitOnHold, hended]

theorem cutWrites_atRest {s : State} (h : nvmAtRest s) : cutWrites s = s := by
  obtain ⟨hcommit, hhusk, hsum, -⟩ := h
  obtain hc | hc := hcommit <;> simp [cutWrites, hc, hhusk, hsum]

theorem tornChunk_atRest {s : State} (h : nvmAtRest s) : tornChunk s = s := by
  obtain ⟨-, -, -, hchunk⟩ := h
  rw [tornChunk, hchunk]

/-- What a reset begins with in a device that writes nothing to its NVM (R358). -/
theorem enterReset_atRest {s : State} (h : nvmAtRest s) (k : Nat) : enterReset s k = inReset s (heldBy s.pwr k) := by
  have hsame : enterReset s k = resetState (cutWrites (tornChunk { s with pwr := heldBy s.pwr k })) := rfl
  have hat : nvmAtRest { s with pwr := heldBy s.pwr k } := h
  rw [hsame, tornChunk_atRest hat, cutWrites_atRest hat, resetState, recsAfterReset_atRest hat]
  rfl

/-- The same state where the power state is given. -/
theorem resetState_atRest {s : State} (h : nvmAtRest s) : resetState s = inReset s s.pwr := by
  rw [resetState, recsAfterReset_atRest h]
  rfl

/-! ## A loss outside a critical phase -/

/-- Nothing is recorded of a collapse outside a critical phase (R280, R282). -/
theorem collapseRecords_uncritical {s : State} (h : nvmAtRest s) (hc : critical s = false) : collapseRecords s = (s, false) := by
  obtain ⟨hcommit, hhusk, hsum, -⟩ := h
  have h1 : abandonHusk s = s := by rw [abandonHusk, hhusk]
  have h2 : abandonSummary s = s := by rw [abandonSummary, hsum]
  unfold collapseRecords
  rw [h1, h2]
  obtain hcom | hcom := hcommit <;> simp [hcom, hc]

theorem collapse_uncritical {s : State} (h : nvmAtRest s) (hc : critical s = false) (k : Nat) :
    collapse s k = inReset s (heldBy s.pwr k) := by
  simp [collapse, collapseRecords_uncritical h hc, enterReset_atRest h]

theorem critical_of_calmMode {s : State} (hm : s.sup.mode ∈ [Mode.standby, .run, .descend]) (hp : retryingPod s = none) :
    critical s = false := by
  simp only [List.mem_cons, List.mem_nil_iff, or_false] at hm
  obtain hm | hm | hm := hm <;> simp [critical, criticalMode, hm, hp]

theorem not_sleep_of_calmMode {s : State} (hm : s.sup.mode ∈ [Mode.standby, .run, .descend]) : s.sup.mode ≠ .sleep := by
  intro h
  simp [h] at hm

/-! ## The release -/

/-- s of R417, from the levels of both balls. -/
theorem addrSelOf_eq (a b : AddrSense) : addrSelOf a b =
    3 * (if b.sourceLow && b.sinkLow then 0 else if b.sourceHigh && b.sinkHigh then 2 else 1) +
      (if a.sourceLow && a.sinkLow then 0 else if a.sourceHigh && a.sinkHigh then 2 else 1) := by
  have hlevel : ∀ x : AddrSense, triLevel (triOf x) =
      if x.sourceLow && x.sinkLow then 0 else if x.sourceHigh && x.sinkHigh then 2 else 1 := by
    intro x
    unfold triOf
    split
    · rfl
    · split <;> rfl
  simp only [addrSelOf, hlevel]

/-- The defaults of the ports' NODE_IDs follow ADDR_SEL (R396). -/
theorem act_nodeDefaults (s : State) :
    act (nodeDefaults s) 0x1C00 2 = 0x70 + s.boot.addrSel ∧ act (nodeDefaults s) 0x1C01 2 = 0x70 + s.boot.addrSel := by
  constructor
  · exact (get_put_other _ _ _ (by decide)).trans (get_put_same ..)
  · exact get_put_same ..

/-- What the release of a reset begins with (R41, R46, R48). -/
theorem releaseReset_atRest {s : State} (h : nvmAtRest s) (addr : Nat) : ∃ d, releaseReset s addr =
    { inReset s { s.pwr with held := false, srcs := 0, resetCause := s.pwr.causes, retained := true } with
      boot := Boot.reset addr, clk := { Clock.reset with pllLocked := true }, dict := d } ∧
    act (releaseReset s addr) 0x1C00 2 = 0x70 + addr ∧ act (releaseReset s addr) 0x1C01 2 = 0x70 + addr := by
  refine ⟨(releaseReset s addr).dict, ?_, act_nodeDefaults _⟩
  simp only [releaseReset, resetState, recsAfterReset_atRest h]
  rfl

/-- A command that releases the reset starts BOOT. -/
theorem done_boots {s : State} {f : State → State} (h : nvmAtRest s) (hp : s.pwr.powered = true) (addr : Nat) (c : Clock)
    (x : Nat) (hf : f s = releaseReset { s with clk := c, pwr := { s.pwr with srcs := x } } addr) :
    ∃ t, done s f = .next t ∧ running t = true ∧ act t 0x1C00 2 = 0x70 + addr ∧ act t 0x1C01 2 = 0x70 + addr ∧
      unrouted t = unrouted
        { inReset s { s.pwr with held := false, srcs := 0, resetCause := s.pwr.causes, retained := true } with
          boot := Boot.reset addr, clk := { Clock.reset with pllLocked := true }, dict := t.dict } := by
  obtain ⟨d, hd, hA, hB⟩ := releaseReset_atRest (s := { s with clk := c, pwr := { s.pwr with srcs := x } }) h addr
  rw [hd] at hA hB
  obtain ⟨t, ht, hu⟩ := done_effect (hf.trans hd) rfl
  have hdict : t.dict = d := of_unrouted (fun s => s.dict) (fun _ => rfl) hu
  refine ⟨t, ht, (of_unrouted running (fun _ => rfl) hu).trans ?_, (of_unrouted (fun s => act s 0x1C00 2) (fun _ => rfl) hu).trans hA,
    (of_unrouted (fun s => act s 0x1C01 2) (fun _ => rfl) hu).trans hB, ?_⟩
  · simp [running, inReset, hp, Sup.reset]
  · rw [hu, hdict]
    rfl

/-! ## The obligation -/

/-- A collapse, a supply loss or a thermal shutdown that records nothing begins a reset (R350, R351, R357). -/
theorem losses_reset {s : State} (hrest : nvmAtRest s) (hp : s.pwr.powered = true) (w : CoreSupply)
    (hcalm : s.pwr.held = true ∨ s.sup.mode ∈ [Mode.standby, .run, .descend] ∧ retryingPod s = none) :
    let resets (c : Instr) (k : Nat) : Prop := ∃ t, exec c s = .next t ∧ unrouted t = unrouted (inReset s (heldBy s.pwr k))
    resets .collapse 1 ∧ resets (.supplyLoss w) 2 ∧ resets .thermalShutdown 3 := by
  intro resets
  have hpow : ¬ (!s.pwr.powered) = true := by simp [hp]
  by_cases hh : s.pwr.held = true
  · have begins : ∀ k x, (if !s.pwr.powered then s else if s.pwr.held then enterReset s k else x) =
        inReset s (heldBy s.pwr k) := fun k x => by rw [if_neg hpow, if_pos hh, enterReset_atRest hrest]
    exact ⟨done_effect (begins 1 _) rfl, done_effect (begins 2 _) rfl, done_effect (begins 3 _) rfl⟩
  · obtain ⟨hm, hretry⟩ := hcalm.resolve_left hh
    have begins : ∀ k x, (if !s.pwr.powered then s else if s.pwr.held then x else collapse s k) =
        inReset s (heldBy s.pwr k) := fun k x => by
      rw [if_neg hpow, if_neg hh, collapse_uncritical hrest (critical_of_calmMode hm hretry)]
    refine ⟨done_effect (begins 1 _) rfl, done_effect ?_ rfl, done_effect (begins 3 _) rfl⟩
    exact (if_neg hpow).trans ((if_neg hh).trans ((if_neg (not_sleep_of_calmMode hm)).trans
      (collapse_uncritical hrest (critical_of_calmMode hm hretry) 2)))

/-- A loss of VAUX switches the device off; the NVM, the key slot and AUTH_CTRL stay (R349, R386). -/
theorem powerLoss_keeps {s : State} (hrest : nvmAtRest s) (hp : s.pwr.powered = true)
    (hcalm : s.pwr.held = true ∨ s.sup.mode ∈ [Mode.standby, .run, .descend] ∧ retryingPod s = none) :
    ∃ t, exec .powerLoss s = .next t ∧ t.pwr.powered = false ∧ running t = false ∧ t.recs.nvm = s.recs.nvm ∧
      t.image.keySlot = s.image.keySlot ∧ t.image.authReq = s.image.authReq := by
  obtain ⟨u, hu, hnvm, hkey, hauth⟩ : ∃ u, (if s.pwr.held then s else collapse s 1) = u ∧ u.recs.nvm = s.recs.nvm ∧
      u.image.keySlot = s.image.keySlot ∧ u.image.authReq = s.image.authReq := by
    by_cases hh : s.pwr.held = true
    · exact ⟨s, if_pos hh, rfl, rfl, rfl⟩
    · obtain ⟨hm, hretry⟩ := hcalm.resolve_left hh
      exact ⟨_, (if_neg hh).trans (collapse_uncritical hrest (critical_of_calmMode hm hretry) 1), rfl, rfl, rfl⟩
  let off : State := { u with
    pwr := { powered := false, held := false, srcs := 0, causes := 0, resetCause := 0, retained := false }
    sup := { u.sup with supply := { u.sup.supply with banks := 0 } } }
  obtain ⟨f, hexec, hf⟩ : ∃ f, exec .powerLoss s = done s f ∧ f s = resetState off :=
    ⟨_, rfl, (if_pos hp).trans (by dsimp only [off]; rw [← hu]; rfl)⟩
  obtain ⟨t, ht, hpend⟩ : ∃ t, exec .powerLoss s = .next t ∧ unrouted t = { unrouted (resetState off) with pending := s.pending } :=
    ⟨_, hexec, by rw [unrouted_done rfl, hf]⟩
  have key : ∀ {β : Type} (p : State → β), (∀ s, p (unrouted s) = p s) → p t = p { resetState off with pending := s.pending } :=
    fun p hp => of_unrouted p hp (t := { resetState off with pending := s.pending }) hpend
  refine ⟨t, ht, key (fun s => s.pwr.powered) fun _ => rfl, key running fun _ => rfl,
    (key (fun s => s.recs.nvm) fun _ => rfl).trans ((nvm_recsAfterReset _).trans hnvm),
    (key (fun s => s.image.keySlot) fun _ => rfl).trans hkey, (key (fun s => s.image.authReq) fun _ => rfl).trans hauth⟩

/-- Settles O41: what begins a reset, and what its release brings. -/
theorem resetsAndTheirCauses : Obligations.ResetsAndTheirCauses := by
  intro s w a b hrest resets lvl boots
  have haddr : addrSelOf a b = 3 * lvl b + lvl a := addrSelOf_eq a b
  clear_value lvl
  refine ⟨fun hoff => ?_, fun hp => ⟨?_, ⟨fun hpll => ?_, fun hpll => ?_⟩, fun hcalm => ?_, fun hh hsrc => ?_, fun hh hsrc => ?_,
    fun hh hsleep hwake => ?_⟩⟩
  · exact done_effect ((if_neg (by simp [hoff])).trans (resetState_atRest (s := { s with pwr := _ }) hrest)) rfl
  · exact done_effect ((if_pos hp).trans (enterReset_atRest hrest 5)) rfl
  · have hlocked : pllStopped s = false := by
      simpa [pllStopped, Option.isSome_iff_ne_none] using hpll
    exact done_effect ((if_pos (by simp [hp, hlocked])).trans
      (enterReset_atRest (s := { s with clk := { s.clk with pllLocked := false } }) hrest 4)) rfl
  · obtain ⟨hm, hentered, hwake⟩ := hpll
    exact done_effect (if_neg (by simp [pllStopped, hm, hentered, hwake])) rfl
  · obtain ⟨h1, h2, h3⟩ := losses_reset hrest hp w hcalm
    exact ⟨h1, h2, h3, powerLoss_keeps hrest hp hcalm⟩
  · rw [← haddr]
    exact done_boots hrest hp _ s.clk s.pwr.srcs
      (if_pos (by simp [hp, hh, bit, causePll, hsrc, commitOnHold_atRest hrest]))
  · have hbit : s.pwr.srcs.testBit 4 = true := by rw [hsrc]; decide
    rw [← haddr]
    refine done_boots hrest hp _ { s.clk with pllLocked := true } (clrBit s.pwr.srcs causePll)
      ((if_pos (by simp [hp, hh, bit, causePll, hbit])).trans (if_pos ⟨?_, commitOnHold_atRest hrest⟩))
    exact (if_pos hbit).trans (by rw [hsrc]; decide)
  · have hstays : lossInSleep { s with pwr := { s.pwr with retained := false } } =
        { s with pwr := { s.pwr with retained := false } } := by
      unfold lossInSleep waking
      obtain he | hn := hwake
      · split <;> simp [he]
      · simp [hn]
    exact done_effect ((if_neg (by simp [hp])).trans ((if_neg (by simp [hh])).trans ((if_pos hsleep).trans hstays))) rfl

end Sys2Proof.Machine
end

section
/-!
SUPPORT. Entry to STANDBY (R372, R374) and SLEEP with its wakes (R369 to R372).
-/
namespace Sys2Proof.Machine

/-- What a command answers whose effect is known: it reads as the effect does, but for what the router takes, and it shows what
showed and what the effect raises. -/
theorem done_reads {s u : State} {f : State → State} (h : f s = u) : ∃ t, done s f = .next t ∧
    (∀ {β : Type} (p : State → β), (∀ s l, p { unrouted s with pending := l } = p s) → p t = p u) ∧
    ∀ e, shows t e ↔ u.sup.evStatus.testBit e = true ∨ e ∈ u.evq := by
  obtain ⟨t, ht⟩ : ∃ t, done s f = .next t := ⟨_, rfl⟩
  refine ⟨t, ht, fun p hp => ?_, fun e => (done_shows ht e).trans (by rw [h])⟩
  have hu : { unrouted t with pending := s.pending } = { unrouted u with pending := s.pending } := by rw [unrouted_done ht, h]
  rw [← hp t s.pending, hu, hp]

/-! ## A change of mode, and entry to STANDBY -/

/-- The stream's record of a change of mode and the discard of every buffer: what they leave (R65, R485). -/
theorem recordDiscard_eq (v : State) (c : Bool) (bs : List Byte) : ∃ a b t e g k w,
    each requesters (if c then record v bs else v) discardReq =
      { v with reqA := a, reqB := b, reqT := t, reqE := e, gal := g, ctrs := k, now := w } := by
  obtain ⟨a, b, t, e, k, w, hd⟩ := discardReqs_eq (if c then record v bs else v) requesters
  obtain ⟨g, n, hr⟩ := record_eq v bs
  rw [hd, hr]
  split <;> exact ⟨_, _, _, _, _, _, _, rfl⟩

/-- A change of mode, with what it does to the episode and to an open update (R65, R258, R340, R392). -/
theorem setMode_parts {s : State} {m : Mode} (h : s.sup.mode ≠ m) : ∃ a b t e g k w, setMode s m = { s with
    sup := { s.sup with mode := m }, evq := s.evq ++ [25]
    recs := if s.sup.mode = .standby then { s.recs with episode := (s.recs.episode + 1) % 2 ^ 32 } else s.recs
    image := if s.sup.mode = .service then { s.image with openUpd := false, verified := false } else s.image
    reqA := a, reqB := b, reqT := t, reqE := e, gal := g, ctrs := k, now := w } := by
  unfold setMode
  rw [if_neg h]
  dsimp only
  obtain ⟨a, b, t, e, g, k, w, hv⟩ := recordDiscard_eq _ _ _
  refine ⟨a, b, t, e, g, k, w, hv.trans ?_⟩
  split <;> split <;> rfl

/-- A line that is high shows no FAULT (R218). -/
theorem not_faultShown {s : State} (h : s.sup.line.low = false) : faultShown s = false := by simp [faultShown, h]

theorem entryFault_clear {s : State} (h : s.sup.line.low = false) : entryFault s = s := by
  simp [entryFault, not_faultShown h]

/-- What an entry to STANDBY from BOOT or from SLEEP leaves, where the line shows no FAULT (R248, R332, R372, R374, R498). -/
theorem standbyEntry_eq {s : State} (hm : s.sup.mode = .sleep ∨ s.sup.mode = .boot) (hl : s.sup.line.low = false) :
    ∃ l a b t e g k w x y, standbyEntry s = { s with
      sup := { s.sup with mode := .standby, line := l }, evq := s.evq ++ [25]
      twi := { s.twi with ready := true }, clk := { s.clk with standbyAt := s.clk.time }
      bist := { s.bist with grid := s.clk.time, last := s.clk.time }
      recs := { s.recs with charged := decide (act s 0x1700 4 ≤ s.recs.vhold) }
      eng := { s.eng with startReq := true }
      reqA := a, reqB := b, reqT := t, reqE := e, gal := g, ctrs := k, now := w, canA := x, canB := y } ∧
    l.role = .listening ∧ l.start = s.clk.time ∧
    x.finishing = s.canA.finishing ∧ x.announce = portOn s .a ∧ y.finishing = s.canB.finishing ∧ y.announce = portOn s .b := by
  have hne : s.sup.mode ≠ .standby := by obtain h | h := hm <;> simp [h]
  obtain ⟨a, b, t, e, g, k, w, hmode⟩ := setMode_parts hne
  rw [if_neg hne, if_neg (by obtain h | h := hm <;> simp [h])] at hmode
  obtain ⟨x, y, hann, hfx, hax, hfy, hay⟩ := announceBoth_eq (setMode s .standby)
  unfold standbyEntry
  dsimp only
  rw [hann, hmode]
  refine ⟨_, a, b, t, e, g, k, w, x, y, entryFault_clear hl, rfl, rfl, ?_⟩
  rw [hmode] at hfx hax hfy hay
  exact ⟨hfx, hax, hfy, hay⟩

/-! ## The converters' frame -/

/-- A change of one requester's status stays with the requesters. -/
theorem pendPlaced_eq (s : State) (g : Nat) (src : UrgentSrc) : ∃ a b t e,
    pendPlaced s g src = { s with reqA := a, reqB := b, reqT := t, reqE := e } := by
  unfold pendPlaced
  split
  · next r =>
    split
    · cases r <;> exact ⟨_, _, _, _, rfl⟩
    · exact ⟨_, _, _, _, rfl⟩
  · exact ⟨_, _, _, _, rfl⟩

/-- The start of a converter's frame changes that converter, its requester's status and counts (R106, R112). -/
theorem convFrameStart_eq (s : State) (g : Nat) : ∃ v a b t e k w, convFrameStart s g = { s with
      sup := { s.sup with convs := put s.sup.convs Conv.reset g v }
      reqA := a, reqB := b, reqT := t, reqE := e, ctrs := k, now := w } ∧ v.urgentRun = 0 ∧ v.disp14 = none := by
  unfold convFrameStart
  dsimp only
  split
  · next c _ =>
    obtain ⟨k, w, h⟩ := occ_eq (setConv s g { conv s g with
      places := [(7, { src := .servo c, entry := c - 12 * g, time := s.clk.time }),
        (15, { src := .servo c, entry := c - 12 * g, time := s.clk.time })], disp14 := none, disp15 := none, urgentRun := 0 })
      (2 * g) 2 9 1
    rw [occConv_occ, h]
    exact ⟨_, _, _, _, _, k, w, rfl, rfl, rfl⟩
  · split
    · next u _ =>
      obtain ⟨a, b, t, e, h⟩ := pendPlaced_eq (setConv s g { conv s g with
        places := [(0, u)], pend := none, disp14 := none, disp15 := none, urgentRun := 0 }) g u.src
      rw [h]
      exact ⟨_, a, b, t, e, _, _, rfl, rfl, rfl⟩
    · exact ⟨_, _, _, _, _, _, _, rfl, rfl, rfl⟩

/-- A converter's frame has begun anew: it has run no urgent entry, and none is displaced. -/
def convAnew (g : Nat) (s : State) : Prop := (conv s g).urgentRun = 0 ∧ (conv s g).disp14 = none

/-- The converters begin their frame, and leave everything else but requesters' status and counts. -/
theorem convFrameStarts_eq (s : State) : (∃ m a b t e k w, each converters s convFrameStart = { s with
      sup := { s.sup with convs := m }, reqA := a, reqB := b, reqT := t, reqE := e, ctrs := k, now := w }) ∧
    ∀ g, g < 8 → convAnew g (each converters s convFrameStart) := by
  constructor
  · refine each_rel (fun s u => ∃ m a b t e k w, u = { s with
      sup := { s.sup with convs := m }, reqA := a, reqB := b, reqT := t, reqE := e, ctrs := k, now := w }) _ ?_ _ s s
      ⟨_, _, _, _, _, _, _, rfl⟩
    rintro s u g ⟨m, a, b, t, e, k, w, rfl⟩
    obtain ⟨v, a', b', t', e', k', w', h, -⟩ := convFrameStart_eq { s with
      sup := { s.sup with convs := m }, reqA := a, reqB := b, reqT := t, reqE := e, ctrs := k, now := w } g
    exact ⟨_, a', b', t', e', k', w', h⟩
  · intro g hg
    have begins : ∀ (s : State) (x y : Nat), convAnew y s ∨ y = x → convAnew y (convFrameStart s x) := by
      intro s x y hy
      obtain ⟨v, a, b, t, e, k, w, h, hrun, hdisp⟩ := convFrameStart_eq s x
      have hget : conv (convFrameStart s x) y = if y = x then v else conv s y := by rw [h]; exact get_put ..
      unfold convAnew
      rw [hget]
      split
      · exact ⟨hrun, hdisp⟩
      · next hne => exact hy.resolve_right hne
    exact each_all (P := convAnew) (fun s x => begins s x x (.inr rfl)) (fun s x y h => begins s x y (.inl h)) _ s g
      (List.mem_range.mpr hg)

/-! ## The pins after a wake -/

theorem pinTimeline_eq (old s : State) (pins : List Nat) (moves : Nat → Option Nat → Option Nat → Bool) :
    ∃ p, pinTimeline old s pins moves = { s with pins := p } := by
  unfold pinTimeline
  dsimp only
  have h1 : ∃ p, each pins s (fun s n => setBall s n (keepBall old n (s.clk.time + 8))) = { s with pins := p } := by
    refine each_rel (fun s u => ∃ p, u = { s with pins := p }) _ ?_ _ s s ⟨_, rfl⟩
    rintro s u n ⟨p, rfl⟩
    exact ⟨_, rfl⟩
  obtain ⟨p, hp⟩ := h1
  rw [hp]
  refine each_rel (fun s u => ∃ p, u = { s with pins := p }) _ ?_ _ s _ ⟨p, rfl⟩
  rintro s u n ⟨p, rfl⟩
  split <;> exact ⟨_, rfl⟩

theorem wakePins_eq (s : State) : ∃ p, wakePins s = { s with pins := p } := by
  unfold wakePins
  dsimp only
  obtain ⟨d, hd⟩ := captureSleep_eq s
  obtain ⟨p, hp⟩ := pinTimeline_eq (captureSleep s) (captureSleep s) (List.range 48) fun _ _ b => b.isSome
  exact ⟨p, by rw [hp, hd]⟩

/-! ## Wakes -/

/-- A command that has a complete SLEEP take a wake: with retention it stays in SLEEP for WAKE_READY, and without it BOOT
follows (R371). -/
theorem done_woken {s u : State} {f : State → State} {w : Wake} (hf : f s = takeWake u w) (hm : u.sup.mode = .sleep)
    (hh : s.pwr.held = false) (hp : u.pwr = s.pwr) (hd : u.dict = s.dict) (hr : u.recs = s.recs)
    (hi : u.image.chunk = s.image.chunk) :
    (s.pwr.retained = true → ∃ t, done s f = .next t ∧ t.sleep.wake = some w ∧ t.sleep.wakeInfo = wakeWord w true ∧
      t.sleep.coreLow = false ∧ t.sup.mode = .sleep ∧ t.dict = s.dict ∧ t.recs.nvm = s.recs.nvm) ∧
    (s.pwr.retained = false → nvmAtRest s → ∃ t, done s f = .next t ∧ t.pwr = heldBy s.pwr 8 ∧ t.sup.mode = .boot ∧
      t.sleep.wakeInfo = wakeWord w false ∧ t.recs.nvm = s.recs.nvm) := by
  constructor
  · intro hret
    have hstate : takeWake u w = { u with
        sleep := { u.sleep with wake := some w, wakeInfo := wakeWord w true, coreLow := false } } := by
      simp [takeWake, hp, hret]
    obtain ⟨t, ht, key, -⟩ := done_reads (hf.trans hstate)
    exact ⟨t, ht, key (fun s => s.sleep.wake) fun _ _ => rfl, key (fun s => s.sleep.wakeInfo) fun _ _ => rfl,
      key (fun s => s.sleep.coreLow) fun _ _ => rfl, (key (fun s => s.sup.mode) fun _ _ => rfl).trans hm,
      (key (fun s => s.dict) fun _ _ => rfl).trans hd,
      (key (fun s => s.recs.nvm) fun _ _ => rfl).trans (congrArg Rec.nvm hr)⟩
  · intro hret hrest
    have hrest' : nvmAtRest { u with sleep := { u.sleep with wakeInfo := wakeWord w false } } := by
      simpa [nvmAtRest, hr, hi] using hrest
    have hstate : takeWake u w = inReset { u with sleep := { u.sleep with wakeInfo := wakeWord w false } } (heldBy u.pwr 8) := by
      simp only [takeWake, hp, hret, Bool.false_eq_true, if_false]
      rw [← hp]
      exact enterReset_atRest hrest' 8
    obtain ⟨t, ht, key, -⟩ := done_reads (hf.trans hstate)
    refine ⟨t, ht, (key (fun s => s.pwr) fun _ _ => rfl).trans (congrArg (heldBy · 8) hp), key (fun s => s.sup.mode) fun _ _ => rfl,
      (key (fun s => s.sleep.wakeInfo) fun _ _ => rfl).trans ?_, (key (fun s => s.recs.nvm) fun _ _ => rfl).trans ?_⟩
    · have hcause : (heldBy u.pwr 8).causes.testBit 8 = true := by
        rw [hp, heldBy, if_neg (by simp [hh])]
        show Nat.testBit (2 ^ 8) 8 = true
        decide
      exact if_pos hcause
    · show u.recs.nvm = s.recs.nvm
      rw [hr]

/-- A wake event in a complete SLEEP that has taken none (R371). -/
theorem wakeEvent_complete {s : State} {w : Wake} (hp : s.pwr.powered = true) (hh : s.pwr.held = false)
    (hm : s.sup.mode = .sleep) (he : s.sleep.entered = true) (hw : s.sleep.wake = none) : wakeEvent s w = takeWake s w :=
  (if_pos (by simp [hp, hh, hm, hw])).trans (if_pos he)

/-- WAKE_TWO_WIRE in a complete SLEEP whose target is enabled for it (R371, R435). -/
theorem twiAsleep_wakes {s : State} {a : Nat} (hcfg : (act s 0x0200 9).testBit 14 = true) (hc : twiConnected s = true)
    (hmatch : twiMatches s a = true) (hready : s.twi.ready = false) (hctrl : s.twi.set.ctrl.testBit 15 = true) :
    twiAsleep s a false = wakeEvent (twiBusyNack s) .twoWire := by
  have hwakes : (bit (sleepCfg s) 14 && twiConnected s) = true := by simp [sleepCfg, bit, hcfg, hc]
  unfold twiAsleep
  simp only [hready, hmatch, bit, hctrl] at hwakes ⊢
  simp [hwakes]

/-- The converters' frame begins anew where they run, and nothing else changes but requesters' status and counts. -/
theorem convRestart_eq (v : State) : ∃ u, (if converting v then each converters v convFrameStart else v) = u ∧
    (∃ m a b t e k w, u = { v with
      sup := { v.sup with convs := m }, reqA := a, reqB := b, reqT := t, reqE := e, ctrs := k, now := w }) ∧
    (converting v = true → ∀ g, g < 8 → convAnew g u) := by
  obtain ⟨heq, hanew⟩ := convFrameStarts_eq v
  refine ⟨_, rfl, ?_⟩
  split
  · exact ⟨heq, fun _ => hanew⟩
  · next h => exact ⟨⟨_, _, _, _, _, _, _, rfl⟩, fun hc => absurd hc h⟩

/-- What a wake takes back of SLEEP before its entry to STANDBY (R371, R372). -/
def sleepLeft (s : State) : State := { s with
  now := { s.now with before := some (s.sup.mode, s.sup.pods) }
  sleep := { s.sleep with entered := false, wake := none, coreLow := false }
  canA := { s.canA with finishing := false }
  canB := { s.canB with finishing := false } }

theorem exec_wakeReady {s : State} (hw : waking s = true) : ∃ f, exec .wakeReady s = done s f ∧ f s =
    if converting (standbyEntry (raise (wakePins (sleepLeft s)) 62)) then
      each converters (standbyEntry (raise (wakePins (sleepLeft s)) 62)) convFrameStart
    else standbyEntry (raise (wakePins (sleepLeft s)) 62) :=
  ⟨_, rfl, if_pos hw⟩

/-- A wake with retention ends in STANDBY (R371, R372). -/
theorem wakeReady_standby {s : State} (hp : s.pwr.powered = true) (hh : s.pwr.held = false) (hm : s.sup.mode = .sleep)
    (he : s.sleep.entered = true) {w : Wake} (hw : s.sleep.wake = some w) (hl : s.sup.line.low = false) :
    ∃ t, exec .wakeReady s = .next t ∧ t.sup.mode = .standby ∧ running t = true ∧
      t.sleep.entered = false ∧ t.sleep.wake = none ∧ t.twi.ready = true ∧ t.sup.line.role = .listening ∧
      t.dict = s.dict ∧ t.recs.nvm = s.recs.nvm ∧ t.clk.time = s.clk.time ∧ t.clk.standbyAt = s.clk.time ∧
      (∀ p, (port t p).finishing = false ∧ (port t p).announce = portOn s p) ∧
      (s.boot.imageDone = true → s.boot.hold = false → ∀ g, g < 8 → (conv t g).urgentRun = 0 ∧ (conv t g).disp14 = none) ∧
      shows t 62 ∧ shows t 25 := by
  obtain ⟨f, hexec, hf⟩ := exec_wakeReady (s := s) (by simp [waking, hp, hh, hm, he, hw])
  obtain ⟨u, hu, ⟨m, a, b, t, e, k, n, heq⟩, hanew⟩ := convRestart_eq (standbyEntry (raise (wakePins (sleepLeft s)) 62))
  obtain ⟨p, hpins⟩ := wakePins_eq (sleepLeft s)
  rw [hpins] at heq hanew
  obtain ⟨l, a', b', t', e', g, k', n', x, y, hentry, hrole, -, hfx, hax, hfy, hay⟩ :=
    standbyEntry_eq (s := raise { sleepLeft s with pins := p } 62) (.inl hm) hl
  have hrun : running (standbyEntry (raise { sleepLeft s with pins := p } 62)) = true := by
    rw [hentry]
    simp [running, sleepLeft, hp, hh]
  have hconv : s.boot.imageDone = true → s.boot.hold = false →
      converting (standbyEntry (raise { sleepLeft s with pins := p } 62)) = true := by
    intro h1 h2
    simp only [converting, hrun]
    rw [hentry]
    simp [sleepLeft, h1, h2]
  rw [hentry] at heq hrun
  obtain ⟨z, hz, key, hshows⟩ := done_reads (hf.trans hu)
  rw [heq] at key hshows
  refine ⟨z, hexec.trans hz, key (fun s => s.sup.mode) fun _ _ => rfl, (key running fun _ _ => rfl).trans hrun,
    key (fun s => s.sleep.entered) fun _ _ => rfl, key (fun s => s.sleep.wake) fun _ _ => rfl,
    key (fun s => s.twi.ready) fun _ _ => rfl, (key (fun s => s.sup.line.role) fun _ _ => rfl).trans hrole,
    key (fun s => s.dict) fun _ _ => rfl, key (fun s => s.recs.nvm) fun _ _ => rfl,
    key (fun s => s.clk.time) fun _ _ => rfl, key (fun s => s.clk.standbyAt) fun _ _ => rfl, ?_, ?_, ?_, ?_⟩
  · intro q
    cases q
    · exact ⟨(key (fun s => s.canA.finishing) fun _ _ => rfl).trans hfx, (key (fun s => s.canA.announce) fun _ _ => rfl).trans hax⟩
    · exact ⟨(key (fun s => s.canB.finishing) fun _ _ => rfl).trans hfy, (key (fun s => s.canB.announce) fun _ _ => rfl).trans hay⟩
  · intro h1 h2 i hi
    obtain ⟨h3, h4⟩ := hanew (hconv h1 h2) i hi
    rw [heq] at h3 h4
    exact ⟨(key (fun s => (conv s i).urgentRun) fun _ _ => rfl).trans h3, (key (fun s => (conv s i).disp14) fun _ _ => rfl).trans h4⟩
  · exact (hshows 62).mpr (.inr (by simp))
  · exact (hshows 25).mpr (.inr (by simp))

/-! ## The obligation -/

/-- What WAKE_INFO adds to its flags for a wake (R371). -/
def wakeCode : Wake → Nat
  | .twoWire => 1
  | .pin n => n % 8 * 256 + 2
  | .timer => 3

theorem wakeWord_code (w : Wake) : wakeWord w true = 0xC000 + wakeCode w ∧ wakeWord w false = 0x8000 + wakeCode w := by
  cases w <;> exact ⟨rfl, rfl⟩

/-- A supply that is lost while a taken wake waits ends it in a reset (R371). -/
theorem supplyLoss_waking {s : State} (hp : s.pwr.powered = true) (hh : s.pwr.held = false) (hm : s.sup.mode = .sleep)
    (he : s.sleep.entered = true) {w : Wake} (hw : s.sleep.wake = some w) (hrest : nvmAtRest s) :
    ∃ t, exec (.supplyLoss .v33) s = .next t ∧ t.pwr = heldBy { s.pwr with retained := false } 8 ∧
      t.sup.mode = .boot ∧ t.sleep.wakeInfo = 0x8000 + wakeCode w ∧ t.recs.nvm = s.recs.nvm := by
  have hwaking : waking { s with pwr := { s.pwr with retained := false } } = true := by simp [waking, hp, hh, hm, he, hw]
  have hloss : lossInSleep { s with pwr := { s.pwr with retained := false } } =
      takeWake { s with pwr := { s.pwr with retained := false } } w := by
    simp [lossInSleep, hw, hwaking]
  have hreset : takeWake { s with pwr := { s.pwr with retained := false } } w =
      inReset { s with pwr := { s.pwr with retained := false }, sleep := { s.sleep with wakeInfo := wakeWord w false } }
        (heldBy { s.pwr with retained := false } 8) := enterReset_atRest (s := { s with
      pwr := { s.pwr with retained := false }, sleep := { s.sleep with wakeInfo := wakeWord w false } }) hrest 8
  obtain ⟨t, ht, key, -⟩ := done_reads (f := fun s => if !s.pwr.powered then s else if s.pwr.held then enterReset s causeSupply
      else if s.sup.mode = .sleep then lossInSleep { s with pwr := { s.pwr with retained := false } } else collapse s causeSupply)
    ((if_neg (by simp [hp])).trans ((if_neg (by simp [hh])).trans ((if_pos hm).trans (hloss.trans hreset))))
  refine ⟨t, ht, key (fun s => s.pwr) fun _ _ => rfl, key (fun s => s.sup.mode) fun _ _ => rfl,
    (key (fun s => s.sleep.wakeInfo) fun _ _ => rfl).trans ?_, key (fun s => s.recs.nvm) fun _ _ => rfl⟩
  have hcause : (heldBy { s.pwr with retained := false } 8).causes.testBit 8 = true := by
    rw [heldBy, if_neg (by simp [hh])]
    show Nat.testBit (2 ^ 8) 8 = true
    decide
  exact (if_pos hcause).trans (wakeWord_code w).2

/-- Settles O45: the entry to SLEEP, its wakes, and what follows a wake. -/
theorem sleepWakesToStandby : Obligations.SleepWakesToStandby := by
  intro s n addr rising hp hh hm cfg woken
  have wokenBy : ∀ {c : Instr} {f : State → State} {w : Wake} {u : State}, exec c s = done s f → f s = takeWake u w →
      u.sup.mode = .sleep → u.pwr = s.pwr → u.dict = s.dict → u.recs = s.recs → u.image.chunk = s.image.chunk →
      woken c w (wakeCode w) := by
    intro c f w u hc hf hum hup hud hur hui
    have := done_woken hf hum hh hup hud hur hui
    rw [(wakeWord_code w).1, (wakeWord_code w).2, ← hc] at this
    exact this
  refine ⟨fun he => ⟨fun hw => ?_, fun hw => ?_⟩, fun he hw => ⟨fun hc => ?_, fun hn hlive hc hwants => ?_,
    fun hc hconn hmatch hready hctrl => ?_⟩, fun he w hw => ⟨?_, fun hrest => ?_, fun hl => ?_⟩⟩
  · refine done_effect ((if_pos (by simp [hp, hh, hm, he])).trans ?_) rfl
    simp only [hw]
  · have hentry : (if s.pwr.powered && !s.pwr.held && decide (s.sup.mode = .sleep) && !s.sleep.entered then
        match s.sleep.wake with
        | some w => takeWake { s with sleep := { s.sleep with entered := true, wake := none } } w
        | none => { s with sleep := { s.sleep with entered := true, wake := none } }
        else s) = takeWake { s with sleep := { s.sleep with entered := true, wake := none } } .timer := by
      rw [if_pos (by simp [hp, hh, hm, he]), hw]
    exact wokenBy rfl hentry hm rfl rfl rfl rfl
  · exact wokenBy rfl ((if_pos hc).trans (wakeEvent_complete hp hh hm he hw)) hm rfl rfl rfl rfl
  · have hcode : 256 * n + 2 = wakeCode (.pin n) := by simp [wakeCode]; omega
    rw [hcode]
    refine wokenBy rfl ((if_pos (by simp [hp, hh, hm, hlive])).trans ((if_pos ?_).trans
      (wakeEvent_complete (s := setPev _ _ _) hp hh hm he hw))) hm rfl rfl rfl rfl
    simp only [Bool.and_eq_true]
    exact ⟨hc, hwants⟩
  · refine wokenBy rfl ((if_pos (by simp [hp, hh, hm])).trans ((twiAsleep_wakes hc hconn hmatch hready hctrl).trans
      (wakeEvent_complete (by simpa [twiBusyNack] using hp) ?_ ?_ ?_ ?_))) ?_ ?_ ?_ ?_ ?_
    all_goals simp [twiBusyNack, *]
  · exact done_effect (if_pos (by simp [waking, hp, hh, hm, he, hw])) rfl
  · obtain ⟨t, ht, h⟩ := supplyLoss_waking hp hh hm he hw hrest
    exact ⟨t, ht, h⟩
  · exact wakeReady_standby hp hh hm he hw hl

end Sys2Proof.Machine
end

section
/-!
SUPPORT. What step 5 of the boundary keeps, whatever the pod unit, the discharge limits, a crash and the margin servo do there
(R146 to R210, R214 to R217, R296 to R304): every property that the updates they are made of keep.
-/
namespace Sys2Proof.Machine

/-- Counting reads no SAMPLE (R475). -/
theorem samples_occ (s : State) (lo n code times : Nat) : (occ s lo n code times).now.samples = s.now.samples :=
  each_keep (fun s => s.now.samples) _ (fun s _ => samples_bump s _ _ _) _ _

/-- A property that the updates of SUPERVISE's step 5 keep: its own tables, a change of the major mode, what lies beside the
store and the engine, an event, a discard of a requester's sets, and a discard of timed actions. -/
structure KeptAtStep5 (P : State → Prop) : Prop where
  sup : ∀ s (x : Sup), x.lastCommit = s.sup.lastCommit → x.mode = s.sup.mode → P s → P { s with sup := x }
  mode : ∀ s m, serviceable m = true → P s → P { s with sup := { s.sup with mode := m } }
  notes : ∀ s (r : Rec) (i : Image) (g : Gallery) (k : Map Ctr) (w : Now) (n : Nat) (c : List (Nat × Nat)),
    w.samples = s.now.samples → P s →
    P { s with recs := r, image := i, gal := g, ctrs := k, now := w, fresh := n, causes := c }
  event : ∀ s e, P s → P (raise s e)
  discard : ∀ s r, P s → P (discardReq s r)
  tacts : ∀ s, P s → P (discardTacts s)

namespace KeptAtStep5

variable {P : State → Prop} {s : State}

/-! ## Plain updates -/

theorem chan (k : KeptAtStep5 P) (c : Nat) (f : Chan → Chan) (h : P s) : P (modChan s c f) := k.sup s _ rfl rfl h
theorem conv (k : KeptAtStep5 P) (c : Nat) (v : Conv) (h : P s) : P (setConv s c v) := k.sup s _ rfl rfl h
theorem pod (k : KeptAtStep5 P) (p : Nat) (f : Pod → Pod) (h : P s) : P (modPod s p f) := k.sup s _ rfl rfl h
theorem ent (k : KeptAtStep5 P) (p n : Nat) (f : EntrySt → EntrySt) (h : P s) : P (modEnt s p n f) := k.sup s _ rfl rfl h
theorem dis (k : KeptAtStep5 P) (c : Nat) (f : Dis → Dis) (h : P s) : P (modDis s c f) := k.sup s _ rfl rfl h
theorem disOut (k : KeptAtStep5 P) (n : Nat) (v : DisOut) (h : P s) : P (setDisOut s n v) := k.sup s _ rfl rfl h
theorem margin (k : KeptAtStep5 P) (c : Nat) (f : Margin → Margin) (h : P s) : P (modMargin s c f) := k.sup s _ rfl rfl h
theorem crashReg (k : KeptAtStep5 P) (f : Crash → Crash) (h : P s) : P (modCrash s f) := k.sup s _ rfl rfl h
theorem line (k : KeptAtStep5 P) (f : Line → Line) (h : P s) : P (modLine s f) := k.sup s _ rfl rfl h
theorem recs (k : KeptAtStep5 P) (f : Rec → Rec) (h : P s) : P (modRec s f) := k.notes s _ s.image s.gal s.ctrs s.now s.fresh s.causes rfl h
theorem causes (k : KeptAtStep5 P) (c : List (Nat × Nat)) (h : P s) : P { s with causes := c } :=
  k.notes s s.recs s.image s.gal s.ctrs s.now s.fresh c rfl h

theorem count (k : KeptAtStep5 P) (lo n code times : Nat) (h : P s) : P (occ s lo n code times) := by
  obtain ⟨c, w, hc⟩ := occ_eq s lo n code times
  have hw := samples_occ s lo n code times
  rw [hc] at hw ⊢
  exact k.notes s s.recs s.image s.gal c w s.fresh s.causes hw h

theorem occPod (k : KeptAtStep5 P) (code : Nat) (h : P s) : P (occPod s code) := k.count _ _ _ _ h

theorem record (k : KeptAtStep5 P) (l : List Byte) (h : P s) : P (record s l) := by
  obtain ⟨g, w, hr⟩ := record_eq s l
  have hw := samples_record s l
  rw [hr] at hw ⊢
  exact k.notes s s.recs s.image g s.ctrs w s.fresh s.causes hw h

theorem ite {c : Prop} [Decidable c] {a b : State} (ha : P a) (hb : P b) : P (if c then a else b) := by
  split
  · exact ha
  · exact hb

/-! ## Summary candidates and a change of mode -/

theorem noteReport (k : KeptAtStep5 P) (f : Nat) (h : P s) : P (noteReport s f) := by
  unfold Machine.noteReport
  split
  · exact h
  · exact k.event _ 38 (k.recs _ h)

theorem candidate (k : KeptAtStep5 P) (kind cause source f d0 d1 : Nat) (h : P s) : P (candidate s kind cause source f d0 d1) := by
  have noted : ∀ g code, P (Machine.noteReport (occNvm (modRec s g) code) f) := fun g code =>
    k.noteReport f (k.count _ _ _ _ (k.recs g h))
  unfold Machine.candidate
  split
  · exact h
  · dsimp only
    split
    · exact noted _ _
    · split
      · exact k.recs _ h
      · exact noted _ _

theorem setMode (k : KeptAtStep5 P) {m : Mode} (hm : serviceable m = true) (h : P s) : P (setMode s m) := by
  unfold Machine.setMode
  split
  · exact h
  · refine each_holds (fun u r hu => k.discard u r hu) _ _ ?_
    have moved : ∀ r i, P { s with sup := { s.sup with mode := m }, recs := r, image := i } := fun r i =>
      k.notes { s with sup := { s.sup with mode := m } } r i s.gal s.ctrs s.now s.fresh s.causes rfl (k.mode s m hm h)
    have raised : P (raise (if s.sup.mode = .service then imageEnd (if s.sup.mode = .standby then
          { s with sup := { s.sup with mode := m }, recs := { s.recs with episode := (s.recs.episode + 1) % 2 ^ 32 } }
          else { s with sup := { s.sup with mode := m } })
        else if s.sup.mode = .standby then
          { s with sup := { s.sup with mode := m }, recs := { s.recs with episode := (s.recs.episode + 1) % 2 ^ 32 } }
          else { s with sup := { s.sup with mode := m } }) 25) := by
      refine k.event _ 25 ?_
      split <;> split <;> exact moved _ _
    exact ite (k.record _ raised) raised

/-! ## Rails, outputs and pod states -/

theorem setPodSt (k : KeptAtStep5 P) (p : Nat) (st : PodSt) (h : P s) : P (setPodSt s p st) :=
  ite h (k.occPod 1 (k.event _ 24 (k.pod p _ h)))

theorem movePod (k : KeptAtStep5 P) (p : Nat) (st : PodSt) (h : P s) : P (movePod s p st) := by
  have hst := k.setPodSt p st h
  unfold Machine.movePod
  refine ite ?_ hst
  cases st
  case failed | crashed => exact hst
  case falling => exact ite (k.setMode rfl hst) (k.setMode rfl hst)
  all_goals exact k.setMode rfl hst

theorem releaseRail (k : KeptAtStep5 P) (c : Nat) (h : P s) : P (releaseRail s c) := by
  unfold Machine.releaseRail
  refine ite ?_ h
  have hoff := k.chan c (fun ch => { clearPair ch with enable := false, st := .off, good := none, descFault := false }) h
  dsimp only
  split
  · exact k.chan _ _ hoff
  · exact hoff

theorem assertOut (k : KeptAtStep5 P) (c : Nat) (h : P s) : P (assertOut s c) :=
  k.disOut _ _ (k.dis _ _ (ite h (k.dis _ _ h)))

theorem assertDis (k : KeptAtStep5 P) (c a : Nat) (h : P s) : P (assertDis s c a) := by
  unfold Machine.assertDis openWatch
  exact k.dis _ _ (k.assertOut c h)

theorem releaseDis (k : KeptAtStep5 P) (n : Nat) (h : P s) : P (releaseDis s n) := ite (k.dis _ _ (k.disOut _ _ h)) h

theorem releaseOwned (k : KeptAtStep5 P) (p : Nat) (h : P s) : P (releaseOwned s p) :=
  each_holds (fun _ n hu => ite (k.releaseDis n hu) hu) _ _ h

/-! ## The rise -/

theorem noteFailure (k : KeptAtStep5 P) (p n : Nat) (cause : FailCause) (f : Nat) (h : P s) : P (noteFailure s p n cause f) :=
  k.candidate _ _ _ _ _ _ (k.occPod 7 (k.pod p _ h))

theorem failEntry (k : KeptAtStep5 P) (p n : Nat) (cause : FailCause) (f : Nat) (h : P s) : P (failEntry s p n cause f) :=
  k.noteFailure p n cause f (k.pod p _ (k.ent p n _ h))

theorem checkWait (k : KeptAtStep5 P) (p n : Nat) (h : P s) : P (checkWait s p n) := by
  have ends : P (endWait s p n) := k.ent p n _ h
  unfold Machine.checkWait
  dsimp only
  have late : ∀ (c : Bool) f, P (if c then Machine.failEntry s p n .deadline f else s) := fun c f => ite (k.failEntry p n _ f h) h
  refine ite (ite h ?_) ?_
  · split
    · exact k.failEntry _ _ _ _ (k.chan _ _ h)
    · exact ite ends (late _ _)
  · split
    · exact ite (k.failEntry _ _ _ _ h) h
    · exact ite ends h
    · exact ite (late _ _) h

theorem checkWaits (k : KeptAtStep5 P) (p : Nat) (h : P s) : P (checkWaits s p) :=
  each_holds (fun _ n hu => k.checkWait p n hu) _ _ h

theorem commonStart (k : KeptAtStep5 P) (p : Nat) (retry : Bool) (h : P s) : P (commonStart s p retry) :=
  k.movePod _ _ (k.releaseOwned p (k.pod p _ h))

theorem assertEnable (k : KeptAtStep5 P) (c : Nat) (h : P s) : P (assertEnable s c) := k.occPod 3 (k.chan c _ h)

/-! ## The descent -/

theorem memberStart (k : KeptAtStep5 P) (p : Nat) (m : Member) (h : P s) : P (memberStart s p m) := by
  cases m with
  | rail n c => exact ite (k.ent p n _ h) (ite (k.assertDis c _ (k.ent p n _ h)) (k.ent p n _ h))
  | child n q =>
    unfold Machine.memberStart
    exact k.ent p n _ h
  | disOnly c =>
    unfold Machine.memberStart
    exact k.dis c _ h

theorem memberReached (k : KeptAtStep5 P) (p : Nat) (m : Member) (h : P s) : P (memberReached s p m) := by
  cases m with
  | rail n c => exact ite (k.ent p n _ h) h
  | child n q => exact ite (k.ent p n _ h) h
  | disOnly c =>
    unfold Machine.memberReached
    dsimp only
    split
    · exact ite (k.dis c _ h) h
    · exact h

theorem switchOff (k : KeptAtStep5 P) (p : Nat) (m : Member) (h : P s) : P (switchOff s p m) := by
  cases m with
  | rail n c =>
    have off := k.occPod 4 (k.releaseRail c h)
    exact ite (k.assertDis c _ (k.ent p n _ off)) (k.ent p n _ off)
  | child n q =>
    unfold Machine.switchOff
    exact k.ent p n _ h
  | disOnly c => exact k.assertDis c _ (k.dis c _ h)

theorem beginDescent (k : KeptAtStep5 P) (p : Nat) (retry : Bool) (h : P s) : P (beginDescent s p retry) :=
  k.movePod _ _ (k.pod p _ h)

theorem forceBelow (k : KeptAtStep5 P) (q : Nat) (h : P s) : P (forceBelow s q) := ite h (k.movePod _ _ (k.pod q _ h))

theorem forceMembers (k : KeptAtStep5 P) (p q : Nat) (h : P s) : P (forceMembers s p q) := by
  have off := each_holds (f := fun s (e : Nat × Nat) => Machine.releaseRail s e.2) (fun _ e hu => k.releaseRail e.2 hu)
    (railEntries s q) s h
  exact ite (each_holds (fun _ c hu => ite (ite hu (k.assertDis c _ hu)) hu) _ _ off) off

/-! ## One evaluation of a pod -/

theorem reach (k : KeptAtStep5 P) {go : State → PodOp → State} (hgo : ∀ s o, P s → P (go s o)) (ons : List Nat) (p : Nat) :
    ∀ n (s : State), P s → P (reach go ons p n s) := by
  intro n
  induction n with
  | zero => exact fun _ h => h
  | succ n ih =>
    intro s h
    unfold Machine.reach
    dsimp only
    refine ite ?_ h
    split
    · refine ite (ih _ (k.pod p _ h)) (ite ?_ (k.pod p _ h))
      exact k.event _ 26 (k.pod p _ (k.ent p _ _ h))
    · exact ite (ih _ (k.pod p _ (k.ent p _ _ (k.assertEnable _ h)))) (k.pod p _ h)
    · have reached := fun f => k.pod p f (k.ent p (Machine.pod s p).k (fun x => { x with
        reached := true, waiting := true, start := frame s }) h)
      exact ih _ (ite (hgo _ _ (k.commonStart _ _ (reached _))) (ite (k.pod _ _ (reached _)) (reached _)))
    · exact h

theorem riseEnd (k : KeptAtStep5 P) (p : Nat) (h : P s) : P (riseEnd s p) :=
  ite (k.movePod _ _ (k.pod p _ (k.checkWaits p h))) (k.checkWaits p h)

theorem switchAll (k : KeptAtStep5 P) {go : State → PodOp → State} (hgo : ∀ s o, P s → P (go s o)) (p : Nat)
    (gate : Option Nat) : ∀ (l : List Member) (s : State), P s → P (switchAll go p gate l s) := by
  intro l
  induction l with
  | nil => exact fun _ h => h
  | cons m r ih =>
    intro s h
    refine ih _ (ite ?_ h)
    have off := k.switchOff p m h
    cases m with
    | rail n c => exact off
    | disOnly c => exact off
    | child n q =>
      dsimp only
      split
      · exact hgo _ _ (k.beginDescent q false off)
      · exact ite (k.movePod _ _ (k.pod q _ off)) (hgo _ _ (k.beginDescent q false off))
      · exact k.pod q _ off
      · exact k.movePod _ _ off
      · exact off
      · exact off

theorem podOp (k : KeptAtStep5 P) (ons : List Nat) : ∀ n (s : State) (o : PodOp), P s → P (podOp ons n s o) := by
  intro n
  induction n with
  | zero => exact fun _ _ h => h
  | succ n ih =>
    intro s o h
    cases o with
    | rise p first =>
      unfold Machine.podOp
      dsimp only
      refine ite (ite ?_ ?_) ?_
      · exact k.riseEnd p (k.reach ih ons p 33 _ (k.pod p _ (k.ent p _ _ h)))
      · exact k.checkWaits p (ite (k.failEntry _ _ _ _ (k.pod p _ h)) (k.pod p _ h))
      · exact k.riseEnd p (k.reach ih ons p 33 _ (k.pod p _ (ite h (k.pod p _ h))))
    | fall p first =>
      unfold Machine.podOp
      dsimp only
      have started : P (if first then each (members s p) (modPod s p fun q => { q with
          dc := 0, timeout := false, descFault := false, disFault := false }) fun s m => Machine.memberStart s p m
          else modPod s p fun q => { q with dc := q.dc + 1 }) :=
        ite (each_holds (fun _ m hu => k.memberStart p m hu) _ _ (k.pod p _ h)) (k.pod p _ h)
      generalize (if first then each (members s p) (modPod s p fun q => { q with
          dc := 0, timeout := false, descFault := false, disFault := false }) fun s m => Machine.memberStart s p m
          else modPod s p fun q => { q with dc := q.dc + 1 }) = u at started
      have reached : P (each (members u p) u fun s m => Machine.memberReached s p m) :=
        each_holds (fun _ m hu => k.memberReached p m hu) _ _ started
      refine ite (ih _ _ reached) (ite (ite (k.causes _ (k.event _ 4 reached)) ?_) ?_)
      · exact ih _ _ (k.event _ 4 (k.pod p _ (each_holds (fun _ q hu => k.forceBelow q hu) _ _
          (each_holds (fun _ q hu => k.forceMembers p q hu) _ _ reached))))
      · have switched := k.switchAll ih p (gateDelay (each (members u p) u fun s m => Machine.memberReached s p m) p)
          (members (each (members u p) u fun s m => Machine.memberReached s p m) p) _ reached
        exact ite (k.pod p _ switched) switched
    | fallen p =>
      unfold Machine.podOp
      dsimp only
      have cleared := k.pod p (fun q => { q with ents := [], gate := 0xFF, frozen := false }) h
      have anew : ∀ {u : State} (c : Bool), P u → P (if c then Machine.podOp ons n (Machine.commonStart u p false) (.rise p true) else u) :=
        fun c hu => ite (ih _ _ (k.commonStart p false hu)) hu
      refine ite (ite ?_ (anew _ ?_)) (ite (ite ?_ ?_) (anew _ ?_))
      · exact k.causes _ (k.event _ 2 (k.pod p _ cleared))
      · have failed := k.movePod p .failed (k.pod p (fun q => { q with retryActive := false })
          (k.event _ 2 (k.pod p (fun q => { q with exhausted := false }) cleared)))
        exact ite (k.movePod _ _ (k.pod 0 _ failed)) failed
      · exact ih _ _ (k.commonStart p true cleared)
      · exact k.movePod _ _ (k.pod p _ cleared)
      · exact k.movePod _ _ (k.pod p _ cleared)

/-! ## Failures and retries -/

theorem freeze (k : KeptAtStep5 P) (d : Nat) (h : P s) : P (freeze s d) := by
  have dropped := k.pod d (fun q => { q with retryActive := false, exhausted := false, cooldown := none }) h
  exact ite (k.movePod _ _ dropped) (ite (k.pod d _ dropped) dropped)

theorem startRetry (k : KeptAtStep5 P) (ons : List Nat) (p : Nat) (h : P s) : P (startRetry s ons p) := by
  unfold Machine.startRetry
  dsimp only
  refine k.podOp ons _ _ _ (k.beginDescent p true (each_holds (fun _ d hu => k.freeze d hu) _ _ ?_))
  exact ite (k.occPod 6 (k.event _ 3 (k.pod p _ h))) (k.pod p _ h)

theorem handleFailure (k : KeptAtStep5 P) (ons : List Nat) (p : Nat) (h : P s) : P (handleFailure s ons p) :=
  ite (k.startRetry ons _ h) h

theorem takeFailure (k : KeptAtStep5 P) (ons : List Nat) (p : Nat) (h : P s) : P (takeFailure s ons p) := by
  unfold Machine.takeFailure failParents
  exact each_holds (fun _ p hu => each_holds (fun _ (e : Nat × Nat) hv => ite (k.checkWait p e.1 hv) hv) _ _ hu) _ _
    (k.handleFailure ons p (k.pod p _ h))

theorem handleFailures (k : KeptAtStep5 P) (ons : List Nat) : ∀ n (s : State), P s → P (handleFailures ons n s) := by
  intro n
  induction n with
  | zero => exact fun _ h => h
  | succ n ih =>
    intro s h
    unfold Machine.handleFailures
    split
    · exact ih _ (k.takeFailure ons _ h)
    · exact h

/-! ## The pod unit as a whole -/

theorem evalPod (k : KeptAtStep5 P) (ons : List Nat) (p : Nat) (h : P s) : P (evalPod ons s p) := by
  unfold Machine.evalPod
  dsimp only
  split
  · exact ite h (ite (ite (k.podOp ons _ _ _ (k.commonStart p true h)) h) (k.podOp ons _ _ _ h))
  · exact k.podOp ons _ _ _ h
  · exact h

theorem recordChatter (k : KeptAtStep5 P) (c : Nat) (h : P s) : P (recordChatter s c) := by
  unfold Machine.recordChatter
  split
  · split
    · exact ite h (k.noteFailure _ _ _ _ (k.chan c _ h))
    · exact h
  · exact h

theorem releaseFaulted (k : KeptAtStep5 P) (c : Nat) (h : P s) : P (releaseFaulted s c) := by
  unfold Machine.releaseFaulted
  refine ite ?_ h
  split
  · exact k.releaseRail c h
  · exact k.chan c _ h

theorem serveWaiting (k : KeptAtStep5 P) (h : P s) : P (serveWaiting s) :=
  each_holds (fun _ p hu => each_holds (fun _ n hv => ite (k.ent p n _ hv) hv) _ _ hu) _ _ h

theorem evalPods (k : KeptAtStep5 P) (h : P s) : P (evalPods s) := by
  unfold Machine.evalPods
  dsimp only
  generalize (podsInUse s).filter (fun p => decide ((Machine.pod s p).st = .on)) = ons
  have h1 := each_holds (fun _ c hu => k.recordChatter c hu) (listedChans s) s h
  generalize each (listedChans s) s Machine.recordChatter = s1 at h1
  have h2 := k.serveWaiting (each_holds (fun _ c hu => k.releaseFaulted c hu) (listedChans s1) s1 h1)
  generalize Machine.serveWaiting (each (listedChans s1) s1 Machine.releaseFaulted) = s2 at h2
  have h3 : P ((deepFirst s2 (podsInUse s2)).foldl (Machine.evalPod ons) s2) :=
    each_holds (f := Machine.evalPod ons) (fun _ p hu => k.evalPod ons p hu) _ s2 h2
  have h4 := k.serveWaiting (k.handleFailures ons 100 _ h3)
  generalize Machine.serveWaiting (Machine.handleFailures ons 100 ((deepFirst s2 (podsInUse s2)).foldl (Machine.evalPod ons) s2)) =
    s4 at h4
  have h5 := each_holds (f := fun s c => modChan s c fun ch => { ch with good := none, chatFail := none })
    (fun _ c hu => k.chan c _ hu) (listedChans s4) s4 h4
  generalize (each (listedChans s4) s4 fun s c => modChan s c fun ch => { ch with good := none, chatFail := none }) = s5 at h5
  have h6 := each_holds (f := fun s p => modPod s p fun q => { q with relHost := false, relEng := false, relLine := false })
    (fun _ p hu => k.pod p _ hu) (podsInUse s5) s5 h5
  generalize (each (podsInUse s5) s5 fun s p => modPod s p fun q => { q with
    relHost := false, relEng := false, relLine := false }) = s6 at h6
  have h7 : P (if (podsInUse s6).any fun p => (Machine.pod s6 p).queueWait then Machine.occPod s6 2 else s6) :=
    ite (k.occPod 2 h6) h6
  exact ite (k.occPod 5 h7) h7

/-! ## Discharge limits -/

theorem disBoundary (k : KeptAtStep5 P) (c b : Nat) (h : P s) : P (disBoundary s c b) := by
  unfold Machine.disBoundary
  refine ite ?_ h
  split
  · have raised := k.event _ 5 (k.dis c (fun d => { d with watch := some { ‹Watch› with sup := false } }) h)
    exact k.candidate _ _ _ _ _ _ (ite (k.pod _ _ raised) raised)
  · exact h

/-! ## A crash -/

theorem dropRail (k : KeptAtStep5 P) (c : Nat) (h : P s) : P (dropRail s c) :=
  ite (k.chan c _ (k.releaseRail c h)) (k.releaseRail c h)

theorem cutMargin (k : KeptAtStep5 P) (c : Nat) (h : P s) : P (cutMargin s c) := k.margin c _ (ite h (k.occPod 9 h))

theorem assertAtCrash (k : KeptAtStep5 P) (c : Nat) (h : P s) : P (assertAtCrash s c) := ite (k.dis c _ (k.assertOut c h)) h

theorem latchCrash (k : KeptAtStep5 P) (code src : Nat) (later entry : Bool) (h : P s) : P (latchCrash s code src later entry) := by
  obtain ⟨r, n, hr⟩ := abandonHusk_eq (Machine.setMode s .crash)
  have crashed : P (abandonHusk (Machine.setMode s .crash)) := by
    have set := k.setMode (m := .crash) rfl h
    rw [hr]
    exact k.notes _ r _ _ _ _ n _ rfl set
  unfold Machine.latchCrash
  exact k.crashReg _ (k.recs _ crashed)

theorem enterCrash (k : KeptAtStep5 P) (code src : Nat) (later entry : Bool) (h : P s) : P (enterCrash s code src later entry) := by
  rw [enterCrash_stages]
  refine k.event _ 0 (k.line _ (k.tacts _ ?_))
  exact each_holds (fun _ c hu => k.assertAtCrash c hu) _ _ <| each_holds (fun _ p hu => k.setPodSt p .crashed (k.pod p stopPod hu)) _ _ <|
    each_holds (fun _ c hu => k.cutMargin c hu) _ _ <| each_holds (fun _ c hu => k.dropRail c hu) _ _ <| k.latchCrash code src later entry h

theorem addLater (k : KeptAtStep5 P) (c : Nat × Nat) (h : P s) : P (addLater s c) := by
  have noted : P (laterFault s c.1 c.2) := k.candidate _ _ _ _ _ _ h
  unfold Machine.addLater
  dsimp only
  split
  · exact ite (k.notes _ _ _ _ _ _ _ _ rfl noted) noted
  · exact noted

theorem takeFirst (k : KeptAtStep5 P) (code src : Nat) (h : P s) : P (takeFirst s code src) := by
  unfold Machine.takeFirst
  dsimp only
  have named := k.recs (fun r => { r with cap := r.cap.map fun c => { c with
    cause := code, source := src, originator := !decide (code = 8)
    chatter := if 1 ≤ code ∧ code ≤ 3 then (Machine.chan (modCrash (Machine.addLater s (s.sup.crash.cause, s.sup.crash.source))
      fun k => { k with cause := code, source := src, originator := !decide (code = 8) }) src).chatter else 0
    podInfo := match podOfSource (modCrash (Machine.addLater s (s.sup.crash.cause, s.sup.crash.source))
      fun k => { k with cause := code, source := src, originator := !decide (code = 8) }) code src with
      | some p => p * 256 + c.pods.getD p 0 % 8
      | none => 0xFF00 } }) (k.crashReg (fun k => { k with cause := code, source := src, originator := !decide (code = 8) })
        (k.addLater (s.sup.crash.cause, s.sup.crash.source) h))
  refine ite named ?_
  split
  · exact k.line _ (k.crashReg _ (k.line _ named))
  · exact k.line _ named

theorem crash (k : KeptAtStep5 P) (l : List (Nat × Nat)) (h : P s) : P (crash s l) := by
  unfold Machine.crash
  split
  · exact h
  · split
    · exact each_holds (fun _ c hu => ite (k.takeFirst _ _ hu) (k.addLater c hu)) _ _ h
    · exact h
    · exact h
    · exact each_holds (fun _ c hu => k.addLater c hu) _ _ (k.enterCrash _ _ _ _ h)

/-! ## The margin servo and pips -/

theorem setCode (k : KeptAtStep5 P) (c : Nat) (code : Int) (h : P s) : P (setCode s c code) :=
  ite h (k.occPod 9 (k.margin c _ h))

theorem startReturn (k : KeptAtStep5 P) (c : Nat) (h : P s) : P (startReturn s c) := k.margin c _ h

theorem servoRest (k : KeptAtStep5 P) (c : Nat) (st : Servo) (h : P s) : P (servoRest s c st) :=
  ite h (k.event _ 27 (k.margin c _ h))

theorem servoStep (k : KeptAtStep5 P) (c : Nat) (h : P s) : P (servoStep s c) := by
  have timed := k.margin c (fun m => { m with rc := 0 }) h
  unfold Machine.servoStep
  dsimp only
  refine ite (k.margin c _ h) (ite ?_ ?_)
  · exact ite (k.event _ 27 (k.margin c _ (k.setCode c _ timed))) (k.setCode c _ timed)
  · split
    · exact k.servoRest c _ timed
    · exact ite (k.servoRest c _ timed) (ite (k.margin c _ (k.setCode c _ timed)) (k.setCode c _ timed))

theorem pipWave (k : KeptAtStep5 P) (c : Nat) (m : Margin) (o : PipOut) (f : Nat) (h : P s) : P (pipWave s c m o f) := by
  unfold Machine.pipWave
  dsimp only
  have stored : ∀ g, P { s with gal := g } := fun g => k.notes s s.recs s.image g s.ctrs s.now s.fresh s.causes rfl h
  exact ite (each_holds (fun _ _ hu => k.record _ hu) _ _ (k.record _ (stored _))) (stored _)

theorem pipResume (k : KeptAtStep5 P) (c : Nat) (h : P s) : P (pipResume s c) := by
  have coded := k.setCode c (Machine.margin s c).pipCode0 h
  have rested := k.margin c (fun m => { m with
    st := .reached, fromReached := false, base := [], caps := [], pipOut := false }) coded
  exact ite (ite (k.startReturn c rested) rested) (k.margin c _ coded)

theorem pipStep (k : KeptAtStep5 P) (c : Nat) (h : P s) : P (pipStep s c) := by
  unfold Machine.pipStep
  refine ite ?_ (ite ?_ (ite ?_ h))
  · exact k.pipResume c (k.event _ 28 (k.margin c _ h))
  · exact k.setCode c _ (k.margin c _ h)
  · exact k.pipResume c (k.pipWave _ _ _ _ (k.candidate _ _ _ _ _ _ (k.event _ 28 (k.margin c _ h))))

theorem marginEnd (k : KeptAtStep5 P) (c : Nat) (h : P s) : P (marginEnd s c) := by
  unfold Machine.marginEnd
  dsimp only
  refine ite h (ite (k.event _ 27 (k.margin c _ (ite h (k.occPod 9 h)))) (ite ?_ h))
  split
  · exact k.startReturn c h
  · exact k.startReturn c h
  · exact k.startReturn c h
  · exact h

theorem marginChannel (k : KeptAtStep5 P) (c : Nat) (h : P s) : P (marginChannel s c) := by
  have ended := k.marginEnd c (ite (c := pipping (Machine.margin s c) = true) (k.pipStep c h) h)
  unfold Machine.marginChannel
  dsimp only
  split
  · exact k.servoStep c ended
  · exact k.servoStep c ended
  · exact k.servoStep c ended
  · exact k.servoStep c ended
  · exact ended

/-! ## Step 5 as a whole -/

theorem evalStep (k : KeptAtStep5 P) (mismatch : Bool) (h : P s) : P (evalStep s mismatch) := by
  have limits : ∀ u, P u → P (each channels u fun s c => Machine.disBoundary s c (frame s)) := fun u hu =>
    each_holds (fun _ c hv => k.disBoundary c _ hv) _ _ hu
  have judged := limits _ (k.evalPods h)
  unfold Machine.evalStep
  dsimp only
  exact each_holds (fun _ c hu => k.marginChannel c hu) _ _ (k.crash _ (k.causes _ (ite (k.event _ 41 judged) judged)))

theorem evalNow (k : KeptAtStep5 P) (mismatch : Bool) (h : P s) : P (evalNow s mismatch) := ite (k.evalStep mismatch h) h

end KeptAtStep5

end Sys2Proof.Machine
end

section
/-!
SUPPORT. What the router and the records of a tick change (R463, R472, R484), part by part.
-/
namespace Sys2Proof.Machine

/-- The second state is the first one with other event bits, pending events, histories, pulses, records and counts. -/
def routedFrom (s t : State) : Prop := ∃ st p a b h c x g k w q, t = { s with
  sup := { s.sup with evStatus := st }, eng := { s.eng with pend := p }, canA := a, canB := b
  recs := { s.recs with history := h, cap := c }, pins := { s.pins with evoPulse := x }, gal := g, ctrs := k, now := w, evq := q }

theorem routedFrom_refl (s : State) : routedFrom s s := ⟨_, _, _, _, _, _, _, _, _, _, _, rfl⟩

theorem routedFrom_trans {s t u : State} (h1 : routedFrom s t) (h2 : routedFrom t u) : routedFrom s u := by
  obtain ⟨_, _, _, _, _, _, _, _, _, _, _, rfl⟩ := h1
  obtain ⟨_, _, _, _, _, _, _, _, _, _, _, rfl⟩ := h2
  exact ⟨_, _, _, _, _, _, _, _, _, _, _, rfl⟩

theorem routedFrom_each {α : Type} {f : State → α → State} (h : ∀ s x, routedFrom s (f s x)) (l : List α) (s : State) :
    routedFrom s (each l s f) :=
  each_rel routedFrom f (fun _ t x hp => routedFrom_trans hp (h t x)) l s s (routedFrom_refl s)

theorem routedFrom_record (s : State) (l : List Byte) : routedFrom s (record s l) := by
  obtain ⟨_, _, h⟩ := record_eq s l
  rw [h]
  exact ⟨_, _, _, _, _, _, _, _, _, _, _, rfl⟩

theorem routedFrom_raise (s : State) (e : Nat) : routedFrom s (raise s e) := ⟨_, _, _, _, _, _, _, _, _, _, _, rfl⟩

theorem routedFrom_routeEvent (s : State) (e : Nat) : routedFrom s (routeEvent s e) := by
  have engine : ∀ t, routedFrom t (markEngine t e) := by
    intro t
    unfold markEngine
    split <;> exact ⟨_, _, _, _, _, _, _, _, _, _, _, rfl⟩
  have port : ∀ t p b, routedFrom t (routePort t p b e) := by
    intro t p b
    unfold routePort
    split <;> cases p <;> exact ⟨_, _, _, _, _, _, _, _, _, _, _, rfl⟩
  have husk : ∀ t, routedFrom t (routeHusk t e) := by
    intro t
    unfold routeHusk
    split <;> exact ⟨_, _, _, _, _, _, _, _, _, _, _, rfl⟩
  have evo : ∀ t k, routedFrom t (routeEvo e t k) := by
    intro t k
    unfold routeEvo
    split <;> exact ⟨_, _, _, _, _, _, _, _, _, _, _, rfl⟩
  have stream : ∀ t, routedFrom t (routeStream t e) := by
    intro t
    unfold routeStream
    split
    · exact routedFrom_record _ _
    · exact routedFrom_refl t
  have status : routedFrom s (markStatus s e) := ⟨_, _, _, _, _, _, _, _, _, _, _, rfl⟩
  unfold routeEvent
  exact routedFrom_trans (routedFrom_trans (routedFrom_trans (routedFrom_trans (routedFrom_trans (routedFrom_trans status
    (engine _)) (port _ _ _)) (port _ _ _)) (husk _)) (routedFrom_each evo _ _)) (stream _)

theorem routedFrom_flush (s : State) : routedFrom s (flush s) := by
  have offered : ∀ t e, routedFrom t (offer t e) := by
    intro t e
    obtain ⟨c, w, h⟩ := bump_eq t 38 (0x40 + e) 1
    obtain ⟨c', w', h'⟩ := bump_eq { t with ctrs := c, now := w } 39 (0x40 + e) 1
    rw [offer, h, h']
    exact ⟨_, _, _, _, _, _, _, _, _, _, _, rfl⟩
  have captured : ∀ t, routedFrom t (captureTick t) := by
    intro t
    unfold captureTick
    split
    · split <;> exact ⟨_, _, _, _, _, _, _, _, _, _, _, rfl⟩
    · exact routedFrom_refl t
  have emptied : routedFrom s { s with evq := [] } := ⟨_, _, _, _, _, _, _, _, _, _, _, rfl⟩
  unfold flush
  refine routedFrom_trans (routedFrom_trans emptied ?_) (captured _)
  exact routedFrom_each (f := fun s e => offer (routeEvent s e) e)
    (fun t e => routedFrom_trans (routedFrom_routeEvent t e) (offered _ e)) _ _

theorem routedFrom_overflows (n : Nat) (s : State) : routedFrom s (overflows n s) := by
  induction n generalizing s with
  | zero => exact routedFrom_refl s
  | succ n ih =>
    unfold overflows
    split
    · exact routedFrom_refl s
    · have cleared : routedFrom s { s with now := { s.now with due := 0 } } := ⟨_, _, _, _, _, _, _, _, _, _, _, rfl⟩
      exact routedFrom_trans (routedFrom_trans (routedFrom_trans cleared (routedFrom_each (fun t _ => routedFrom_raise t 49) _ _))
        (routedFrom_flush _)) (ih _)

/-- The end of a tick, but for the reads that it completes. -/
theorem routedFrom_closes (s : State) : routedFrom s (overflows 4 (flush s)) :=
  routedFrom_trans (routedFrom_flush s) (routedFrom_overflows 4 _)

/-- What a new tick leaves: every reading that sees neither the router's parts, nor a SAMPLE that the tick has read, nor the time
and the notes. -/
theorem newTick_keeps {β : Type} (p : State → β) (hrouted : ∀ s t, routedFrom s t → p t = p s)
    (hsample : ∀ s x, p (wholeSample s x) = p s) (htwin : ∀ s v, p { s with twin := v } = p s)
    (htime : ∀ s t w, p { s with clk := { s.clk with time := t }, now := w } = p s) (s : State) (t : Nat) :
    p (newTick s t) = p (captureBalls s t) := by
  have closes : p (closeTick (captureBalls s t)) = p (captureBalls s t) := by
    unfold closeTick
    exact (each_keep p wholeSample hsample _ _).trans (hrouted _ _ (routedFrom_closes _))
  have settled : routedFrom (closeTick (captureBalls s t)) (tickOver s t) := ⟨_, _, _, _, _, _, _, _, _, _, _, rfl⟩
  obtain ⟨v, hv⟩ := bothCopies_eq s fun u => tickOver u t
  unfold newTick
  rw [hv]
  exact (htime _ _ _).trans ((htwin _ _).trans ((hrouted _ _ settled).trans closes))

end Sys2Proof.Machine
end

section
/-!
SUPPORT. What the opening of a frame keeps: the converters' frame, the line's FAULT mark, the last frame of BOOT with its entry to
STANDBY, and a run of the self-test that starts (R41, R100, R254, R360, R499).
-/
namespace Sys2Proof.Machine

/-- A property that the opening of a frame keeps in a mode that judges pods: besides the updates of step 5, a requester's urgent
status and a run of the self-test that starts. -/
structure KeptAtOpening (P : State → Prop) : Prop extends KeptAtStep5 P where
  urgent : ∀ s g src, P s → P (pendPlaced s g src)
  run : ∀ s, P s → P (startRun s true)

/-- The same in BOOT: besides, what an entry to STANDBY starts (R248, R332, R372, R374, R498). -/
structure KeptAtEntry (P : State → Prop) : Prop extends KeptAtOpening P where
  ports : ∀ s a b, P s → P { s with canA := a, canB := b }
  twi : ∀ s x, P s → P { s with twi := x }
  boot : ∀ s x, P s → P { s with boot := x }
  clk : ∀ s (x : Clock), x.time = s.clk.time → P s → P { s with clk := x }
  bist : ∀ s (x : Bist), x.run = s.bist.run → P s → P { s with bist := x }
  start : ∀ s, P s → P (wantStart s)

variable {P : State → Prop} {s : State}

theorem KeptAtOpening.convFrameStart (k : KeptAtOpening P) (g : Nat) (h : P s) : P (convFrameStart s g) := by
  unfold Machine.convFrameStart
  dsimp only
  split
  · exact k.count _ _ _ _ (k.conv g _ h)
  · split
    · exact k.urgent _ _ _ (k.conv g _ h)
    · exact k.conv g _ h

/-- A frame opens in a mode other than BOOT, in which no request is in service and no access waits. -/
theorem KeptAtOpening.openFrame (k : KeptAtOpening P) (hj : ∀ u, P u → u.odp.job = none) (hq : ∀ u, P u → u.hostQ = [])
    (hb : ∀ u, P u → P (bootStep u)) (h : P s) : P (openFrame s) := by
  have converted : P (if converting s then each converters s Machine.convFrameStart else s) :=
    KeptAtStep5.ite (each_holds (fun _ g hu => k.convFrameStart g hu) _ _ h) h
  have opened := k.run _ (hb _ (k.line (fun l => { l with faultFrame := l.low && l.fault }) converted))
  unfold Machine.openFrame
  refine KeptAtStep5.ite ?_ h
  dsimp only
  generalize startRun (bootStep (modLine (if converting s then each converters s Machine.convFrameStart else s)
    fun l => { l with faultFrame := l.low && l.fault })) true = u at opened
  have hodp : odpWord u = u := by simp [odpWord, hj u opened]
  have hhost : hostWord u = u := by simp [hostWord, hq u opened]
  rw [hodp, hhost]
  exact KeptAtStep5.ite (k.count _ _ _ _ opened) opened

/-- Outside BOOT the last reference-check frame is not awaited (R360). -/
theorem bootStep_serviceable (h : serviceable s.sup.mode = true) : bootStep s = s := by
  have : booting s = false := by
    cases hm : s.sup.mode <;> simp_all [booting, serviceable]
  simp [bootStep, this]

namespace KeptAtEntry

theorem announceBoth (k : KeptAtEntry P) (h : P s) : P (announceBoth s) := by
  obtain ⟨a, b, hab, -⟩ := announceBoth_eq s
  rw [hab]
  exact k.ports s a b h

theorem firstPoint (k : KeptAtEntry P) (h : P s) : P (firstPoint s) := k.bist s _ rfl h
theorem holdAtEntry (k : KeptAtEntry P) (h : P s) : P (holdAtEntry s) := k.recs _ h
theorem startLine (k : KeptAtEntry P) (h : P s) : P (startLine s) := by
  unfold Machine.startLine
  exact k.line _ h
theorem entryFault (k : KeptAtEntry P) (h : P s) : P (entryFault s) :=
  KeptAtStep5.ite (k.enterCrash _ _ _ _ (k.event _ 30 (k.line _ h))) h

theorem standbyEntry (k : KeptAtEntry P) (h : P s) : P (standbyEntry s) := by
  have announced := k.announceBoth (k.setMode (m := .standby) rfl h)
  unfold Machine.standbyEntry
  dsimp only
  generalize Machine.announceBoth (Machine.setMode s .standby) = u at announced
  have ready := k.clk { u with twi := { u.twi with ready := true } } { u.clk with standbyAt := u.clk.time } rfl (k.twi u _ announced)
  exact k.entryFault (k.startLine (k.start _ (k.holdAtEntry (k.firstPoint ready))))

theorem bootEnds (k : KeptAtEntry P) (h : P s) : P (bootEnds s) := by
  have checked := k.clk s { s.clk with degraded := false } rfl h
  have dated := k.sup { s with clk := { s.clk with degraded := false } } { s.sup with bootDone := s.clk.time } rfl rfl checked
  have timed := k.boot { s with clk := { s.clk with degraded := false }, sup := { s.sup with bootDone := s.clk.time } }
    { s.boot with bootTime := min (s.clk.time / 20000) 255 } dated
  have ended := k.bist { s with
      clk := { s.clk with degraded := false }
      sup := { s.sup with bootDone := s.clk.time }
      boot := { s.boot with bootTime := min (s.clk.time / 20000) 255 } } { s.bist with valid := true } rfl timed
  have torn : ∀ u cause r, P u → P (tornCandidate u cause r) := by
    intro u cause r hu
    unfold tornCandidate
    split
    · exact k.candidate _ _ _ _ _ _ hu
    · exact hu
  exact torn _ _ _ (torn _ _ _ (torn _ _ _ (k.standbyEntry (KeptAtStep5.ite (k.event _ 42 ended) ended))))

theorem bootStep (k : KeptAtEntry P) (h : P s) : P (bootStep s) := by
  have counted := k.boot s { s.boot with refFrames := s.boot.refFrames - 1 } h
  exact KeptAtStep5.ite (KeptAtStep5.ite (k.bootEnds counted) counted) h

end KeptAtEntry

end Sys2Proof.Machine
end

section
/-!
SUPPORT. What the fault-line unit does by itself keeps every property that step 5 keeps, where it is kept by a line command's
requests and by the status of a requester (R229 to R250).
-/
namespace Sys2Proof.Machine

variable {P : State → Prop} {s : State}

namespace KeptAtStep5

/-! ## The line cycle -/

theorem judgeWindow (k : KeptAtStep5 P) (i : Nat) (h : P s) : P (judgeWindow s i) := by
  have judged := k.line (fun l => { l with judged := setBit l.judged i }) h
  unfold Machine.judgeWindow
  dsimp only
  exact ite h (ite (ite (k.line _ judged) (ite judged (k.count _ _ _ _ (k.line _ judged)))) judged)

theorem changeRole (k : KeptAtStep5 P) (h : P s) : P (changeRole s) := by
  unfold Machine.changeRole
  dsimp only
  split
  · exact ite (k.count _ _ _ _ (k.line _ h)) h
  · exact ite (k.count _ _ _ _ (k.line _ h)) h
  · exact h

theorem endCycle (k : KeptAtStep5 P) (h : P s) : P (endCycle s) := by
  have windows : P (if isSynced s.sup.line then each (List.range 15) s Machine.judgeWindow else s) :=
    ite (each_holds (fun _ i hu => k.judgeWindow i hu) _ _ h) h
  unfold Machine.endCycle
  exact k.line _ (k.changeRole (k.line _ windows))

theorem passCycles (k : KeptAtStep5 P) (h : P s) : P (passCycles s) :=
  ite h (each_holds (fun _ _ hu => k.endCycle hu) _ _ h)

theorem passWindows (k : KeptAtStep5 P) (h : P s) : P (passWindows s) :=
  ite (each_holds (fun _ i hu => ite (k.judgeWindow i hu) hu) _ _ h) h

/-! ## The records of a frame -/

theorem frameRecords (k : KeptAtStep5 P) (f : Nat) (h : P s) : P (frameRecords s f) := by
  unfold Machine.frameRecords
  dsimp only
  split
  · exact each_holds (fun _ i hu => ite (k.record _ hu) hu) _ _ (k.record _ h)
  · exact k.record _ h

end KeptAtStep5

/-- A property that the line unit keeps in any tick: besides the updates of step 5, requests that a line command makes, a
requester's status, what the router handles, and a second copy. -/
structure KeptInTicks (P : State → Prop) : Prop extends KeptAtStep5 P where
  accept : ∀ s l, P s → P { s with accepted := l }
  request : ∀ s r f, P s → P (modReq s r f)
  flush : ∀ s, P s → P (flush s)
  twin : ∀ s v, P s → P { s with twin := v }

namespace KeptInTicks

/-! ## Pulses received -/

theorem align (k : KeptInTicks P) (e : Nat) (h : P s) : P (align s e) := by
  have counted : P (occLine s 5) := k.count _ _ _ _ h
  unfold Machine.align
  dsimp only
  split <;> exact k.line _ counted

theorem relisten (k : KeptInTicks P) (h : P s) : P (relisten s) := k.line _ (k.count _ _ _ _ h)

theorem syncPulse (k : KeptInTicks P) (e : Nat) (h : P s) : P (syncPulse s e) := by
  unfold Machine.syncPulse
  dsimp only
  split
  · exact h
  · exact k.align e h
  · exact KeptAtStep5.ite (k.align e h) (k.count _ _ _ _ h)
  · exact KeptAtStep5.ite (k.count _ _ _ _ (k.line _ h)) (k.relisten (k.count _ _ _ _ h))

theorem heartbeat (k : KeptInTicks P) (i : Nat) (h : P s) : P (heartbeat s i) := by
  have counted := k.count 40 2 1 1 (k.line (fun l => { l with seen := setBit l.seen i }) h)
  exact KeptAtStep5.ite (k.line _ counted) counted

theorem lineCommand (k : KeptInTicks P) (up : Bool) (h : P s) : P (lineCommand s up) := by
  unfold Machine.lineCommand
  split
  all_goals first
    | exact h
    | exact each_holds (fun u p hu => KeptAtStep5.ite (k.pod p _ (k.accept u _ hu)) (k.accept u _ hu)) _ _ h

theorem shortPulse (k : KeptInTicks P) (e : Nat) (h : P s) : P (shortPulse s e) := by
  unfold Machine.shortPulse
  dsimp only
  have cleared := k.line (fun l => { l with firstPulse := none }) h
  refine KeptAtStep5.ite h (KeptAtStep5.ite ?_ ?_)
  · exact KeptAtStep5.ite (k.lineCommand true cleared) (KeptAtStep5.ite (k.lineCommand false cleared)
      (KeptAtStep5.ite (k.line _ h) (k.count _ _ _ _ h)))
  · exact KeptAtStep5.ite (k.heartbeat _ h) (k.count _ _ _ _ h)

/-! ## FAULT -/

theorem discardCommand (k : KeptInTicks P) (code : Nat) (h : P s) : P (discardCommand s code) := by
  unfold Machine.discardCommand
  split
  · exact h
  · dsimp only
    refine k.line _ ?_
    split
    · exact k.request _ _ _ h
    · exact h

theorem cancelClearing (k : KeptInTicks P) (h : P s) : P (cancelClearing s) := by
  have noted : P (laterFault (raise s 30) 8 0xFF) := k.candidate _ _ _ _ _ _ (k.event _ 30 h)
  unfold Machine.cancelClearing
  exact k.line _ (k.crashReg _ noted)

theorem causeInCrash (k : KeptInTicks P) (c : Nat × Nat) (h : P s) : P (causeInCrash s c) :=
  KeptAtStep5.ite (k.takeFirst _ _ h) (k.addLater c h)

theorem recogniseFault (k : KeptInTicks P) (h : P s) : P (recogniseFault s) := by
  have known := k.discardCommand 5
    (k.count 40 2 6 1 (k.line (fun l => { l with fault := true, faultFrame := true, faultCycle := true }) h))
  unfold Machine.recogniseFault
  dsimp only
  change P (Machine.discardCommand (occLine (modLine s fun l => { l with fault := true, faultFrame := true, faultCycle := true }) 6) 5)
    at known
  generalize Machine.discardCommand (occLine (modLine s fun l => { l with fault := true, faultFrame := true, faultCycle := true }) 6) 5
    = u at known
  split
  · exact known
  · exact known
  · refine KeptAtStep5.ite (k.cancelClearing known) ?_
    have seen : P (if crashTick u then Machine.causeInCrash (raise u 30) (8, 0xFF) else u) :=
      KeptAtStep5.ite (k.causeInCrash _ (k.event _ 30 known)) known
    exact KeptAtStep5.ite (KeptAtStep5.ite (k.crashReg _ (k.line _ seen)) (k.line _ seen)) seen
  · exact k.crash _ (k.event _ 30 known)

theorem faultEnds (k : KeptInTicks P) (t : Nat) (h : P s) : P (faultEnds s t) := by
  have ended := k.line (fun l => { l with fault := false, faultEnd := t }) h
  unfold Machine.faultEnds
  dsimp only
  split
  · exact k.line _ ended
  · exact ended

theorem lowEnds (k : KeptInTicks P) (n : Nat) (h : P s) : P (lowEnds s n) := by
  have high := k.line (fun l => { l with low := false, wait := 0, rise := s.clk.time }) h
  unfold Machine.lowEnds
  dsimp only
  exact KeptAtStep5.ite (k.faultEnds _ high) (KeptAtStep5.ite (k.shortPulse _ high) (KeptAtStep5.ite (k.syncPulse _ high)
    (KeptAtStep5.ite (k.count _ _ _ _ high) high)))

/-! ## A tick of the receiver, the comparison of the copies, and the crash of a disagreement -/

theorem sampleFlt (k : KeptInTicks P) (h : P s) : P (sampleFlt s) := by
  unfold Machine.sampleFlt
  dsimp only
  exact KeptAtStep5.ite (KeptAtStep5.ite h (k.line _ h)) (KeptAtStep5.ite (k.line _ h)
    (KeptAtStep5.ite (k.line _ h) (k.lowEnds _ h)))

theorem sampleArb (k : KeptInTicks P) (h : P s) : P (sampleArb s) := by
  unfold Machine.sampleArb
  split
  · exact KeptAtStep5.ite (k.line _ h) h
  · exact h

theorem receive (k : KeptInTicks P) (h : P s) : P (receive s) :=
  have taken := k.sampleArb (k.sampleFlt h)
  KeptAtStep5.ite (k.recogniseFault taken) taken

theorem bothCopies (k : KeptInTicks P) {f : State → State} (h : P (f s)) : P (bothCopies s f) := by
  obtain ⟨v, hv⟩ := bothCopies_eq s f
  rw [hv]
  exact k.twin _ v h

theorem compareCopies (k : KeptInTicks P) (h : P s) : P (compareCopies s) := by
  unfold Machine.compareCopies
  split
  · exact h
  · next v _ =>
    dsimp only
    have handled := k.flush s h
    generalize Machine.flush s = u at handled
    refine KeptAtStep5.ite (k.twin _ _ handled) (KeptAtStep5.ite handled ?_)
    exact k.twin { u with sup := noteMismatch u.sup } (some { v with sup := noteMismatch v.sup }) (k.sup u _ rfl rfl handled)

theorem lockstep (k : KeptInTicks P) (h : P s) : P (lockstep s) := KeptAtStep5.ite h (k.crash _ (k.event _ 41 h))

theorem countWait (k : KeptInTicks P) (h : P s) : P (countWait s) := KeptAtStep5.ite (k.count _ _ _ _ h) h

end KeptInTicks

end Sys2Proof.Machine
end

section
/-!
SUPPORT. What closing a frame leaves, as one normal form of the state (R51, R69, R272, R459, R475), and readings that neither
step 5 nor the opening of the next frame changes.
-/
namespace Sys2Proof.Machine

/-! ## The state without what closing a frame changes -/

/-- A requester without its shadow, which a SAMPLE of the tick can fill. -/
def unshadowed (q : ReqState) : ReqState := { q with shadow := none }

/-- The state without what closing a frame can change: the time, the line unit, the margins, the event lines, the snapshots, the
history of raw values, and what a SAMPLE that the tick has read goes to. -/
def offClosing (s : State) : State := { unrouted s with
  clk := { s.clk with time := 0 }
  sup := { s.sup with evStatus := 0, line := Line.reset, aqHeld := 0, aqRes := 0, margins := [] }
  pins := { (unrouted s).pins with pev := [], podreq := 0 }
  bank0 := Sup.reset
  bank1 := Sup.reset
  bank2 := Sup.reset
  bankCur := 0
  recs := { (unrouted s).recs with frames := [], cap := none }
  eng := { (unrouted s).eng with w := [], z := false, n := false, read := none }
  odp := { s.odp with job := s.odp.job.map fun j => { j with data := [] } }
  twi := { s.twi with fetches := [] }
  reqA := unshadowed s.reqA
  reqB := unshadowed s.reqB
  reqT := unshadowed s.reqT
  reqE := unshadowed s.reqE }

/-- What a read of a SAMPLE can be given when its tick ends, part by part (R475). -/
theorem wholeSample_parts (s : State) (x : SampleRead) : ∃ a b t e j w z n d f, wholeSample s x = { s with
      reqA := { s.reqA with shadow := a }, reqB := { s.reqB with shadow := b }, reqT := { s.reqT with shadow := t }
      reqE := { s.reqE with shadow := e }, odp := { s.odp with job := j }
      eng := { s.eng with w := w, z := z, n := n, read := d }, twi := { s.twi with fetches := f } } ∧
    j.map (fun j => { j with data := [] }) = s.odp.job.map fun j => { j with data := [] } := by
  unfold wholeSample
  dsimp only
  split
  · next r _ =>
    split
    · split
      · cases r <;> exact ⟨_, _, _, _, _, _, _, _, _, _, rfl, rfl⟩
      · exact ⟨_, _, _, _, _, _, _, _, _, _, rfl, rfl⟩
    · exact ⟨_, _, _, _, _, _, _, _, _, _, rfl, rfl⟩
  · refine ⟨_, _, _, _, _, _, _, _, _, _, rfl, ?_⟩
    rw [Option.map_map]
    rfl
  · split <;> exact ⟨_, _, _, _, _, _, _, _, _, _, rfl, rfl⟩
  · exact ⟨_, _, _, _, _, _, _, _, _, _, rfl, rfl⟩
  · exact ⟨_, _, _, _, _, _, _, _, _, _, rfl, rfl⟩

theorem offClosing_wholeSample (s : State) (x : SampleRead) : offClosing (wholeSample s x) = offClosing s := by
  obtain ⟨a, b, t, e, j, w, z, n, d, f, h, hj⟩ := wholeSample_parts s x
  rw [h]
  simp only [offClosing, hj]
  rfl

theorem keepsOffClosing : KeptByClosing offClosing :=
  ⟨⟨fun _ => rfl, fun _ _ => rfl, fun _ _ _ => rfl, fun _ _ _ => rfl, fun _ _ _ _ _ => rfl, fun _ _ _ => rfl⟩,
    fun _ _ => rfl, offClosing_wholeSample⟩

/-- Closing a frame keeps every reading that this form of the state shows. -/
theorem closed_reads {β : Type} (p : State → β) (hp : ∀ s, p (offClosing s) = p s) (u : State) :
    p (closed (samplePodreq u)) = p u := by
  rw [← hp (closed _), keepsOffClosing.closed (fun _ _ _ => rfl), show offClosing (samplePodreq u) = offClosing u from rfl, hp]

/-! ## Readings that the rest of a boundary leaves alone -/

/-- A reading of what neither step 5 nor the opening of a frame changes. -/
structure SeenApart {β : Type} (p : State → β) : Prop where
  sup : ∀ s x, p { s with sup := x } = p s
  notes : ∀ s r i g k w n c, p { s with recs := r, image := i, gal := g, ctrs := k, now := w, fresh := n, causes := c } = p s
  event : ∀ s l, p { s with evq := l } = p s
  reqs : ∀ s a b t e, p { s with reqA := a, reqB := b, reqT := t, reqE := e } = p s
  tacts : ∀ s, p (discardTacts s) = p s
  bist : ∀ s b, p { s with bist := b } = p s

/-- A start of a run of the self-test stays with the self-test (R500). -/
theorem startRun_eq (s : State) (busy : Bool) : ∃ b, startRun s busy = { s with bist := b } := by
  unfold startRun
  split
  · split <;> exact ⟨_, rfl⟩
  · exact ⟨_, rfl⟩

variable {β : Type} {p : State → β}

theorem SeenApart.discard (k : SeenApart p) (s : State) (r : Requester) : p (discardReq s r) = p s := by
  obtain ⟨a, b, t, e, c, w, h⟩ := discardReq_eq s r
  rw [h]
  exact (k.notes { s with reqA := a, reqB := b, reqT := t, reqE := e } s.recs s.image s.gal c w s.fresh s.causes).trans
    (k.reqs s a b t e)

theorem SeenApart.urgent (k : SeenApart p) (s : State) (g : Nat) (src : UrgentSrc) : p (pendPlaced s g src) = p s := by
  obtain ⟨a, b, t, e, h⟩ := pendPlaced_eq s g src
  rw [h]
  exact k.reqs s a b t e

theorem SeenApart.run (k : SeenApart p) (s : State) : p (startRun s true) = p s := by
  obtain ⟨b, h⟩ := startRun_eq s true
  rw [h]
  exact k.bist s b

/-- A mode that judges pods, no request in service, no access that waits, and a reading. -/
def readsWhileOpen (p : State → β) (v : β) (s : State) : Prop :=
  p s = v ∧ serviceable s.sup.mode = true ∧ s.odp.job = none ∧ s.hostQ = []

theorem SeenApart.keptAtOpening (k : SeenApart p) (v : β) : KeptAtOpening (readsWhileOpen p v) := by
  have still : ∀ {s u : State}, p u = p s → u.sup.mode = s.sup.mode → u.odp = s.odp → u.hostQ = s.hostQ →
      readsWhileOpen p v s → readsWhileOpen p v u := by
    rintro s u hu hm ho hq ⟨hv, hs, hj, hw⟩
    exact ⟨hu.trans hv, by rw [hm]; exact hs, by rw [ho]; exact hj, hq.trans hw⟩
  exact
    { sup := fun s x _ hm => still (k.sup s x) hm rfl rfl
      mode := fun s m hm ⟨hv, _, hj, hw⟩ => ⟨(k.sup s _).trans hv, hm, hj, hw⟩
      notes := fun s r i g c w n l _ => still (k.notes s r i g c w n l) rfl rfl rfl
      event := fun s e => still (k.event s _) rfl rfl rfl
      discard := fun s r => by
        obtain ⟨a, b, t, e, c, w, h⟩ := discardReq_eq s r
        exact still (k.discard s r) (by rw [h]) (by rw [h]) (by rw [h])
      tacts := fun s => still (k.tacts s) rfl rfl rfl
      urgent := fun s g src => by
        obtain ⟨a, b, t, e, h⟩ := pendPlaced_eq s g src
        exact still (k.urgent s g src) (by rw [h]) (by rw [h]) (by rw [h])
      run := fun s => by
        obtain ⟨b, h⟩ := startRun_eq s true
        exact still (k.run s) (by rw [h]) (by rw [h]) (by rw [h]) }

theorem KeptAtStep5.autoClear {P : State → Prop} {s : State} (k : KeptAtStep5 P) (h : P s) : P (autoClear s) := by
  have cleared : P (beginClearing s true) := by
    unfold beginClearing
    exact k.line _ (k.crashReg _ h)
  exact KeptAtStep5.ite (k.crashReg _ cleared) h

/-- The rest of a boundary at which nothing waits leaves such a reading. -/
theorem SeenApart.opens (k : SeenApart p) {v : β} {c : State} (h : readsWhileOpen p v c) :
    readsWhileOpen p v (openFrame (evalNow (Machine.autoClear c) false)) :=
  have ko := k.keptAtOpening v
  ko.openFrame (fun _ hu => hu.2.2.1) (fun _ hu => hu.2.2.2)
    (fun u hu => by rw [bootStep_serviceable hu.2.1]; exact hu) (ko.evalNow false (ko.autoClear h))

/-! ## Properties that an opening in any mode keeps -/

theorem KeptAtEntry.and {P Q : State → Prop} (hp : KeptAtEntry P) (hq : KeptAtEntry Q) : KeptAtEntry fun s => P s ∧ Q s :=
  { sup := fun s x hl hm h => ⟨hp.sup s x hl hm h.1, hq.sup s x hl hm h.2⟩
    mode := fun s m hm h => ⟨hp.mode s m hm h.1, hq.mode s m hm h.2⟩
    notes := fun s r i g c w n l hw h => ⟨hp.notes s r i g c w n l hw h.1, hq.notes s r i g c w n l hw h.2⟩
    event := fun s e h => ⟨hp.event s e h.1, hq.event s e h.2⟩
    discard := fun s r h => ⟨hp.discard s r h.1, hq.discard s r h.2⟩
    tacts := fun s h => ⟨hp.tacts s h.1, hq.tacts s h.2⟩
    urgent := fun s g src h => ⟨hp.urgent s g src h.1, hq.urgent s g src h.2⟩
    run := fun s h => ⟨hp.run s h.1, hq.run s h.2⟩
    ports := fun s a b h => ⟨hp.ports s a b h.1, hq.ports s a b h.2⟩
    twi := fun s x h => ⟨hp.twi s x h.1, hq.twi s x h.2⟩
    boot := fun s x h => ⟨hp.boot s x h.1, hq.boot s x h.2⟩
    clk := fun s x ht h => ⟨hp.clk s x ht h.1, hq.clk s x ht h.2⟩
    bist := fun s x hr h => ⟨hp.bist s x hr h.1, hq.bist s x hr h.2⟩
    start := fun s h => ⟨hp.start s h.1, hq.start s h.2⟩ }

/-- A reading that an entry to STANDBY changes no more than step 5 does. -/
structure SeenAtEntry {β : Type} (p : State → β) : Prop extends SeenApart p where
  ports : ∀ s a b, p { s with canA := a, canB := b } = p s
  twi : ∀ s x, p { s with twi := x } = p s
  boot : ∀ s x, p { s with boot := x } = p s
  clk : ∀ s (x : Clock), x.time = s.clk.time → p { s with clk := x } = p s
  start : ∀ s, p (wantStart s) = p s

theorem SeenAtEntry.keptAtEntry (k : SeenAtEntry p) (v : β) : KeptAtEntry fun s => p s = v :=
  { sup := fun s x _ _ h => (k.sup s x).trans h
    mode := fun s _ _ h => (k.sup s _).trans h
    notes := fun s r i g c w n l _ h => (k.notes s r i g c w n l).trans h
    event := fun s _ h => (k.event s _).trans h
    discard := fun s r h => (k.discard s r).trans h
    tacts := fun s h => (k.tacts s).trans h
    urgent := fun s g src h => (k.urgent s g src).trans h
    run := fun s h => (k.run s).trans h
    ports := fun s a b h => (k.ports s a b).trans h
    twi := fun s x h => (k.twi s x).trans h
    boot := fun s x h => (k.boot s x).trans h
    clk := fun s x ht h => (k.clk s x ht).trans h
    bist := fun s x _ h => (k.bist s x).trans h
    start := fun s h => (k.start s).trans h }

/-- No request is in service and no access waits for the port. -/
def portRests (s : State) : Prop := (s.odp.job, s.hostQ) = (none, [])

theorem keepsPortRests : KeptAtEntry portRests :=
  SeenAtEntry.keptAtEntry (p := fun s => (s.odp.job, s.hostQ)) ⟨⟨fun _ _ => rfl, fun _ _ _ _ _ _ _ _ => rfl, fun _ _ => rfl,
    fun _ _ _ _ _ => rfl, fun _ => rfl, fun _ _ => rfl⟩, fun _ _ _ => rfl, fun _ _ => rfl, fun _ _ => rfl, fun _ _ _ => rfl,
    fun _ => rfl⟩ _

/-- An event that waits for the router goes on waiting. -/
theorem keepsEvent (e : Nat) : KeptAtEntry fun s => e ∈ s.evq :=
  { sup := fun _ _ _ _ h => h
    mode := fun _ _ _ h => h
    notes := fun _ _ _ _ _ _ _ _ _ h => h
    event := fun _ _ h => List.mem_append_left _ h
    discard := fun s r h => by
      obtain ⟨a, b, t, e, c, w, hd⟩ := discardReq_eq s r
      rw [hd]
      exact h
    tacts := fun _ h => h
    urgent := fun s g src h => by
      obtain ⟨a, b, t, e, hd⟩ := pendPlaced_eq s g src
      rw [hd]
      exact h
    run := fun s h => by
      obtain ⟨b, hd⟩ := startRun_eq s true
      rw [hd]
      exact h
    ports := fun _ _ _ h => h
    twi := fun _ _ h => h
    boot := fun _ _ h => h
    clk := fun _ _ _ h => h
    bist := fun _ _ _ h => h
    start := fun _ h => h }

/-- A frame opens, in any mode, where the port is at rest. -/
theorem KeptAtEntry.openFrame {P : State → Prop} {s : State} (k : KeptAtEntry P) (hr : portRests s) (h : P s) : P (openFrame s) := by
  have both := keepsPortRests.and k
  have rest : ∀ u, portRests u → u.odp.job = none ∧ u.hostQ = [] := fun u hu => Prod.mk.inj hu
  exact (both.toKeptAtOpening.openFrame (fun u hu => (rest u hu.1).1) (fun u hu => (rest u hu.1).2) (fun _ hu => both.bootStep hu)
    ⟨hr, h⟩).2

/-- The rest of a boundary at which nothing waits. -/
theorem KeptAtEntry.opens {P : State → Prop} {c : State} (k : KeptAtEntry P) (hr : portRests c) (h : P c) :
    P (Machine.openFrame (evalNow (Machine.autoClear c) false)) :=
  k.openFrame (keepsPortRests.evalNow false (keepsPortRests.autoClear hr)) (k.evalNow false (k.autoClear h))

/-- A boundary at which nothing waits, and what closing the frame leaves of what the statements read. -/
theorem boundary_open {s : State} {level : Pins} (hr : running (lastTick s level) = true)
    (hn : nothingAwaits (lastTick s level)) : ∃ c v,
      boundary s level = { openFrame (evalNow (Machine.autoClear (engineStep c)) false) with twin := v } ∧
      c = closed (samplePodreq (lastTick s level)) ∧ c.odp.job = none ∧ c.hostQ = [] ∧
      c.clk.time = ((lastTick s level).clk.time / 512 + 1) * 512 := by
  obtain ⟨v, hb⟩ := boundary_still hr hn
  refine ⟨_, v, hb, rfl, ?_, ?_, closed_time _⟩
  · have := closed_reads (fun s => s.odp.job.isNone) (fun s => by simp [offClosing]) (lastTick s level)
    rw [hn.2.1] at this
    exact Option.isNone_iff_eq_none.mp this
  · rw [closed_reads (fun s => s.hostQ) fun _ => rfl, hn.2.2.1]

end Sys2Proof.Machine
end

section
/-!
SUPPORT. The opening of a frame in which nothing is on its way, as one normal form of the state: step 5 and what the new frame
begins with change only what this form leaves out (R51, R100, R106, R204, R500).
-/
namespace Sys2Proof.Machine

/-- A requester without the status of its urgent requests. -/
def unplaced (q : ReqState) : ReqState := { q with urgentStat := [] }

/-- The state without what the opening of such a frame can change: the channels' reports, the pods' releases, the discharge
watches with their events and candidates, the converters' frame, the line's FAULT mark, and the start of a self-test run. -/
def offOpening (s : State) : State := { unrouted s with
  sup := { s.sup with
    evStatus := 0, chans := [], pods := [], dis := [], convs := [], line := { s.sup.line with faultFrame := false } }
  recs := { (unrouted s).recs with coal := [], mrg := 0, coalTotal := 0, lost := 0, lostTotal := 0, report := none, cap := none }
  bist := { s.bist with sched := none, run := none, saved := none, units := [] }
  reqA := unplaced s.reqA
  reqB := unplaced s.reqB
  reqT := unplaced s.reqT
  reqE := unplaced s.reqE }

theorem offOpening_of_unrouted {s t : State} (h : unrouted s = unrouted t) : offOpening s = offOpening t :=
  of_unrouted offOpening (fun _ => rfl) h

theorem offOpening_occ (s : State) (lo n code times : Nat) : offOpening (occ s lo n code times) = offOpening s :=
  offOpening_of_unrouted (by simp)

theorem offOpening_noteReport (s : State) (f : Nat) : offOpening (noteReport s f) = offOpening s := by
  unfold noteReport
  split <;> rfl

theorem offOpening_candidate (s : State) (kind cause source f d0 d1 : Nat) :
    offOpening (candidate s kind cause source f d0 d1) = offOpening s := by
  have counted : ∀ g code, (∀ s : State, offOpening (modRec s g) = offOpening s) →
      offOpening (noteReport (occNvm (modRec s g) code) f) = offOpening s := fun g code hg =>
    (offOpening_noteReport _ f).trans ((offOpening_occ _ _ _ _ _).trans (hg s))
  unfold candidate
  split
  · rfl
  · dsimp only
    split
    · exact counted _ _ fun _ => rfl
    · split
      · rfl
      · exact counted _ _ fun _ => rfl

theorem offOpening_disBoundary (s : State) (c b : Nat) : offOpening (disBoundary s c b) = offOpening s := by
  unfold disBoundary
  split
  · split
    · unfold disFault
      dsimp only
      refine (offOpening_candidate _ _ _ _ _ _ _).trans ?_
      split <;> rfl
    · rfl
  · rfl

theorem offOpening_pendPlaced (s : State) (g : Nat) (src : UrgentSrc) : offOpening (pendPlaced s g src) = offOpening s := by
  unfold pendPlaced
  split
  · next r =>
    split
    · cases r <;> rfl
    · rfl
  · rfl

theorem offOpening_convFrameStart (s : State) (g : Nat) : offOpening (convFrameStart s g) = offOpening s := by
  unfold convFrameStart
  dsimp only
  split
  · exact offOpening_occ _ _ _ _ _
  · split
    · exact offOpening_pendPlaced _ _ _
    · rfl

theorem offOpening_startRun (s : State) (busy : Bool) : offOpening (startRun s busy) = offOpening s := by
  unfold startRun
  split
  · split <;> rfl
  · rfl

/-- A new frame opens where no request is in service and no access waits. -/
theorem offOpening_openFrame {s : State} (hs : serviceable s.sup.mode = true) (hj : s.odp.job = none) (hq : s.hostQ = []) :
    offOpening (openFrame s) = offOpening s := by
  unfold openFrame
  split
  · dsimp only
    have converted : offOpening (if converting s then each converters s convFrameStart else s) = offOpening s := by
      split
      · exact each_keep offOpening _ offOpening_convFrameStart _ _
      · rfl
    generalize (if converting s then each converters s convFrameStart else s) = u at converted
    have hm : serviceable u.sup.mode = true := by
      rw [show u.sup.mode = s.sup.mode from congrArg (fun s => s.sup.mode) converted]
      exact hs
    rw [bootStep_serviceable (s := modLine u fun l => { l with faultFrame := l.low && l.fault }) hm]
    have marked : offOpening (startRun (modLine u fun l => { l with faultFrame := l.low && l.fault }) true) = offOpening s :=
      (offOpening_startRun _ _).trans converted
    generalize startRun (modLine u fun l => { l with faultFrame := l.low && l.fault }) true = w at marked
    have hodp : odpWord w = w := by
      have : w.odp.job = none := (congrArg (fun s => s.odp.job) marked).trans hj
      simp [odpWord, this]
    have hhost : hostWord w = w := by
      have : w.hostQ = [] := (congrArg (fun s => s.hostQ) marked).trans hq
      simp [hostWord, this]
    rw [hodp, hhost]
    unfold countWait
    split
    · exact (offOpening_occ _ _ _ _ _).trans marked
    · exact marked
  · rfl

/-- Step 5 of a device on which nothing is on its way changes nothing else. -/
theorem offOpening_evalNow {s : State} (h : podsRest s) (hm : s.sup.margins = []) (hc : s.causes = []) :
    offOpening (evalNow s false) = offOpening s := by
  unfold evalNow
  split
  · rw [evalStep_rest h hm hc]
    exact (each_keep offOpening _ (fun s c => offOpening_disBoundary s c (frame s)) _ _).trans
      (spent_keeps (fun _ _ _ => rfl) (fun _ _ _ => rfl) s)
  · rfl

/-- Both steps together. -/
theorem offOpening_opens {s : State} (h : podsRest s) (hm : s.sup.margins = []) (hc : s.causes = [])
    (hs : serviceable s.sup.mode = true) (hj : s.odp.job = none) (hq : s.hostQ = []) :
    offOpening (openFrame (evalNow s false)) = offOpening s := by
  have he := offOpening_evalNow h hm hc
  refine (offOpening_openFrame ?_ ?_ ?_).trans he
  · rw [show (evalNow s false).sup.mode = s.sup.mode from congrArg (fun s => s.sup.mode) he]
    exact hs
  · exact (congrArg (fun s => s.odp.job) he).trans hj
  · exact (congrArg (fun s => s.hostQ) he).trans hq

/-- Such an opening reads as the state before it in everything that the form shows. -/
theorem opens_reads {s : State} (h : podsRest s) (hm : s.sup.margins = []) (hc : s.causes = [])
    (hs : serviceable s.sup.mode = true) (hj : s.odp.job = none) (hq : s.hostQ = []) {β : Type} (p : State → β)
    (hp : ∀ s, p (offOpening s) = p s) : p (openFrame (evalNow s false)) = p s := by
  rw [← hp (openFrame _), offOpening_opens h hm hc hs hj hq, hp]

end Sys2Proof.Machine
end

section
/-!
SUPPORT. Time reaches the instant that a command names, as long as the device runs (R47, R50): what a tick begins with leaves the
power and the clock, unless an image's activation puts the device into reset.
-/
namespace Sys2Proof.Machine

/-- The device has come into reset, or neither the power nor the clock has changed. -/
def onTime (s t : State) : Prop := t.pwr.held = true ∨ t.pwr = s.pwr ∧ t.clk = s.clk

theorem onTime_of_steady {s t : State} (h : steady s t) : onTime s t :=
  h.imp id fun h => ⟨congrArg (·.1) h, congrArg (·.2.1) h⟩

theorem onTime_of_around {s t : State} (h : around t = around s) : onTime s t := onTime_of_steady (steady_of_around h)

theorem onTime_comp {s t u : State} (h1 : onTime s t) (h2 : onTime t u) : onTime s u :=
  h2.elim .inl fun ⟨hp, hc⟩ => h1.imp (fun ht => by rw [hp]; exact ht) fun ⟨hp', hc'⟩ => ⟨hp.trans hp', hc.trans hc'⟩

theorem onTime_refl (s : State) : onTime s s := .inr ⟨rfl, rfl⟩

/-- A device that still runs has kept its clock. -/
theorem onTime.clk {s t : State} (h : onTime s t) (hr : running t = true) : t.clk = s.clk := by
  refine (h.resolve_left fun hheld => ?_).2
  simp [running, hheld] at hr

/-! ## What a tick begins with -/

theorem onTime_passCycles (s : State) : onTime s (passCycles s) := by
  have k : KeptInTick fun s => (s.pwr, s.clk) :=
    ⟨fun _ => rfl, fun _ _ => rfl, fun _ _ _ => rfl, fun _ _ _ => rfl, fun _ _ _ _ _ => rfl, fun _ _ _ => rfl⟩
  have h := k.passCycles s
  exact .inr ⟨congrArg (·.1) h, congrArg (·.2) h⟩

theorem onTime_lockstep (s : State) : onTime s (lockstep s) := by
  unfold lockstep
  split
  · exact onTime_refl s
  · exact onTime_of_around (by simp)

theorem onTime_modTwi (s : State) (f : Twi → Twi) : onTime s (modTwi s f) := .inr ⟨rfl, rfl⟩

theorem onTime_twiFetch (s : State) (sub word : Nat) : onTime s (twiFetch s sub word) := by
  unfold twiFetch
  dsimp only
  split
  · exact onTime_comp (onTime_modTwi s _) (onTime_of_around (around_noteRead ..))
  · exact onTime_modTwi s _

theorem onTime_twiAccess (s : State) : onTime s (twiAccess s) := by
  have counted : ∀ f, onTime s (occTwi (modTwi s f) 6) := fun f =>
    onTime_comp (t := modTwi s f) (.inr ⟨rfl, rfl⟩) (onTime_of_around (around_occ _ _ _ _ _))
  unfold twiAccess
  split
  · next w r _ =>
    refine onTime_comp (counted fun t => { t with waiting := r }) (onTime_of_steady ?_)
    exact steady_of_eq (around_served _ _) (steady_writeCore ..)
  · unfold twiRead
    dsimp only
    split
    · exact onTime_refl s
    · exact onTime_comp (t := served (occTwi s 6) .twi)
        (onTime_of_around ((around_served _ _).trans (around_occ s _ _ _ _))) (onTime_twiFetch _ _ _)

theorem onTime_accessTick (s : State) : onTime s (accessTick s) := by
  unfold accessTick
  split
  · exact onTime_comp (t := modTwi s _) (.inr ⟨rfl, rfl⟩) (onTime_twiAccess _)
  · exact onTime_refl s

theorem steady_chunkWrite (s : State) (r : Requester) (bs : List Byte) : steady s (chunkWrite s r bs) :=
  steady_accessEffect s { req := r, op := .chunk bs, words := 1 }

theorem steady_accessWord (s : State) (r : Requester) (k n : Nat) (data : List Byte) (a : StoreOp) :
    steady s (accessWord s r k n data a).1 := by
  cases a with
  | read idx sub =>
    simp only [accessWord]
    split
    · exact steady_of_around ((around_noteRead ..).trans (around_readField ..))
    · exact steady_of_around rfl
  | write idx sub v => exact steady_ite (steady_writeField ..) (steady_of_around rfl)
  | chunk bs => exact steady_ite (steady_chunkWrite ..) (steady_of_around rfl)

theorem onTime_endJob (s : State) (j : OdpJob) : onTime s (endJob s j) := by
  have sent : ∀ (u : State) (p : Port) (l : List Byte) (c : Bool), around (respond u p l c) = around u := by
    intro u p l c
    cases p <;> rfl
  refine onTime_comp (t := { s with odp := { s.odp with job := none }, bankPin := none }) (.inr ⟨rfl, rfl⟩) ?_
  unfold endJob
  dsimp only
  split
  · exact onTime_of_around (each_keep around _ (fun u _ => sent u _ _ _) _ _)
  · exact onTime_of_around (sent _ _ _ _)

theorem onTime_odpWord (s : State) : onTime s (odpWord s) := by
  unfold odpWord
  split
  · exact onTime_refl s
  · next j _ =>
    split
    · exact onTime_endJob s j
    · next a rest _ =>
      split
      · exact onTime_refl s
      · dsimp only
        have word := onTime_of_steady (steady_of_eq (around_served s (portReq j.port))
          (steady_accessWord (served s (portReq j.port)) (portReq j.port) j.word (accessWords s a) j.data a))
        split
        · exact word
        · split
          · split
            · exact onTime_comp word (onTime_endJob _ _)
            · exact onTime_comp word (.inr ⟨rfl, rfl⟩)
          · split
            · exact onTime_comp word (onTime_endJob _ _)
            · exact onTime_comp word (.inr ⟨rfl, rfl⟩)

theorem onTime_hostWord (s : State) : onTime s (hostWord s) := by
  unfold hostWord
  split
  · exact onTime_refl s
  · next a rest _ =>
    split
    · exact onTime_comp (onTime_comp (t := { s with hostQ := rest }) (.inr ⟨rfl, rfl⟩) (onTime_of_steady (steady_portWord _ a)))
        (.inr ⟨rfl, rfl⟩)
    · exact onTime_refl s

theorem onTime_countWait (s : State) : onTime s (countWait s) := by
  obtain ⟨_, _, h⟩ := countWait_eq s
  rw [h]
  exact .inr ⟨rfl, rfl⟩

theorem onTime_tickStart (s : State) : onTime s (tickStart s) := by
  have crashed : ∀ u : State,
      onTime u (if u.sup.crash.lockNext then lockstep (modCrash u fun k => { k with lockNext := false }) else u) := by
    intro u
    split
    · exact onTime_comp (t := modCrash u _) (.inr ⟨rfl, rfl⟩) (onTime_lockstep _)
    · exact onTime_refl u
  unfold tickStart
  exact onTime_comp (onTime_comp (onTime_comp (onTime_comp (onTime_comp (onTime_passCycles s) (crashed _)) (onTime_accessTick _))
    (onTime_odpWord _)) (onTime_hostWord _)) (onTime_countWait _)

theorem onTime_beginTick (s : State) : onTime s (beginTick s) := by
  unfold beginTick
  split
  · exact onTime_comp (onTime_tickStart s) (onTime_of_around (around_bothCopies s tickStart))
  · exact onTime_refl s

/-! ## A tick passes -/

theorem passTo_time {s : State} {t : Nat} (h : running (passTo s t) = true) : (passTo s t).clk.time = t := by
  have kept := (onTime_beginTick (newTick (endTick s) t)).clk h
  exact congrArg (·.time) kept

theorem le_foldl_min {a x t : Nat} {l : List Nat} (hl : ∀ y ∈ l, a < y) (hx : a < x) (hxt : x ≤ t) :
    a < l.foldl min x ∧ l.foldl min x ≤ t := by
  induction l generalizing x with
  | nil => exact ⟨hx, hxt⟩
  | cons y r ih =>
    refine ih (fun z hz => hl z (List.mem_cons_of_mem _ hz)) ?_ ?_
    · exact Nat.lt_min.mpr ⟨hx, hl y List.mem_cons_self⟩
    · exact (Nat.min_le_left _ _).trans hxt

/-- The next instant lies ahead, and not behind the one that is to be reached. -/
theorem nextInstant_between {s : State} {t : Nat} (h : s.clk.time < t) :
    s.clk.time < nextInstant s t ∧ nextInstant s t ≤ t := by
  unfold nextInstant
  split
  · exact le_foldl_min (fun y hy => by simpa using (List.mem_filter.mp hy).2) h le_rfl
  · omega

theorem passUntil_stopped {s : State} (h : running s = false) (n t : Nat) : passUntil n s t = s := by
  cases n with
  | zero => rfl
  | succ n => simp [passUntil, h]

theorem passUntil_time {t : Nat} : ∀ (n : Nat) (s : State), running (passUntil n s t) = true → s.clk.time ≤ t →
    t - s.clk.time ≤ n → (passUntil n s t).clk.time = t := by
  intro n
  induction n with
  | zero => exact fun s _ hle hn => Nat.le_antisymm hle (Nat.le_of_sub_eq_zero (Nat.le_zero.mp hn))
  | succ n ih =>
    intro s hr hle hn
    unfold passUntil at hr ⊢
    split at hr
    · next hlt =>
      simp only [Bool.and_eq_true, decide_eq_true_eq] at hlt
      rw [if_pos (by simpa using hlt)]
      obtain ⟨hlo, hhi⟩ := nextInstant_between hlt.2
      by_cases hp : running (passTo s (nextInstant s t)) = true
      · have ht := passTo_time hp
        exact ih _ hr (by omega) (by omega)
      · rw [Bool.not_eq_true] at hp
        rw [passUntil_stopped hp, hp] at hr
        cases hr
    · next hlt =>
      rw [if_neg hlt]
      simp only [hr, Bool.true_and, decide_eq_true_eq] at hlt
      omega

theorem endTick_stopped {s : State} (h : running s = false) : endTick s = s := by simp [endTick, h]

/-- A device that still runs at the end of tick 511 has reached it. -/
theorem lastTick_time {s : State} {level : Pins} (hr : running (lastTick s level) = true) :
    (lastTick s level).clk.time = inFrame s 511 := by
  have kept := congrArg (fun a => (a.1, a.2.1)) (around_endTick hr)
  have hrun : running (advance s (inFrame s 511)) = true := by
    by_contra hn
    rw [Bool.not_eq_true] at hn
    unfold lastTick at hr
    generalize advance s (inFrame s 511) = a at hn hr
    have hlevel : running { a with pins := { a.pins with level := level } } = false := hn
    dsimp only at hr
    rw [endTick_stopped hlevel, hlevel] at hr
    cases hr
  have reached : (advance s (inFrame s 511)).clk.time = inFrame s 511 := by
    refine passUntil_time _ s hrun ?_ le_rfl
    simp only [inFrame, frame, frameOf]
    omega
  exact (congrArg (fun a => a.2.time) kept).trans reached

end Sys2Proof.Machine
end

section
/-!
SUPPORT. The samples of the debounced event lines at the end of a frame (R459, R460).
-/
namespace Sys2Proof.Machine

/-! ## The captured balls at the end of tick 511 -/

/-- No CLK_BUS edge lies between the last tick before one and the edge (R40, R441). -/
theorem captureBalls_edge {s : State} (h : s.clk.time % 4 = 3) :
    (captureBalls s (s.clk.time + 1)).pins.driven = s.pins.driven.take 3 := by
  have none : ((List.range 3).filterMap fun k => if k ≤ (s.clk.time + 1 - 1) / 4 ∧
      s.clk.time ≤ 4 * ((s.clk.time + 1 - 1) / 4 - k) ∧ 4 * ((s.clk.time + 1 - 1) / 4 - k) < s.clk.time + 1 then
        some (4 * ((s.clk.time + 1 - 1) / 4 - k)) else none) = [] := by
    rw [List.filterMap_eq_nil_iff]
    intro k _
    exact if_neg (by omega)
  simp only [captureBalls]
  rw [none]
  rfl

/-! ## What the samples look at -/

/-- The pins' levels, the last captures of the balls, and the event lines. -/
def pevPins (s : State) : Map Pev × Pins × List (Nat × Nat) := (s.pins.pev, s.pins.level, s.pins.driven.take 3)

/-- The tick that closes a frame leaves them. -/
theorem pevPins_newTick {s : State} (h : s.clk.time % 4 = 3) : pevPins (newTick s (s.clk.time + 1)) = pevPins s := by
  have began := newTick_keeps pevPins (fun s t hr => by obtain ⟨_, _, _, _, _, _, _, _, _, _, _, rfl⟩ := hr; rfl)
    (fun s x => by obtain ⟨_, _, _, _, _, _, _, h⟩ := wholeSample_eq s x; rw [h]; rfl) (fun _ _ => rfl) (fun _ _ _ => rfl)
    s (s.clk.time + 1)
  refine began.trans ?_
  show (s.pins.pev, s.pins.level, (captureBalls s (s.clk.time + 1)).pins.driven.take 3) = _
  rw [captureBalls_edge h, List.take_take]
  rfl

theorem keepsPevPins (v : Map Pev × Pins × List (Nat × Nat)) : KeptAtStep5 fun s => pevPins s = v :=
  { sup := fun _ _ _ _ h => h
    mode := fun _ _ _ h => h
    notes := fun _ _ _ _ _ _ _ _ _ h => h
    event := fun _ _ h => h
    discard := fun s r h => by
      obtain ⟨a, b, t, e, c, w, hd⟩ := discardReq_eq s r
      rw [hd]
      exact h
    tacts := fun _ h => h }

/-- The frame's tick 0, up to the samples of the event lines. -/
def beforePev (u : State) : State := passCycles (closeFrame (frameRecords (takeSnapshot (sampled u)) (frame u)) (frame u))

theorem closed_eq (u : State) : closed u = pevSample (beforePev u) := rfl

theorem beforePev_pins {u : State} (h : u.clk.time % 512 = 511) : pevPins (beforePev u) = pevPins u := by
  have time : (bothCopies u closeSup).clk.time = u.clk.time := by
    obtain ⟨v, hv⟩ := bothCopies_eq u closeSup
    rw [hv]
    rfl
  have next : inFrame u 512 = (bothCopies u closeSup).clk.time + 1 := by
    rw [time]
    simp only [inFrame, frame, frameOf]
    omega
  have k := keepsPevPins (pevPins u)
  have began : pevPins (newTick (bothCopies u closeSup) (inFrame u 512)) = pevPins u := by
    rw [next, pevPins_newTick (by rw [time]; omega)]
    obtain ⟨v, hv⟩ := bothCopies_eq u closeSup
    rw [hv]
    rfl
  have dumped : pevPins (dumpCapture (newTick (bothCopies u closeSup) (inFrame u 512)) (frame u + 1)) = pevPins u := began
  have taken : pevPins (takeSnapshot (sampled u)) = pevPins u := by
    have samples : pevPins (sampled u) = pevPins u := by
      unfold sampled samplePips
      exact (each_keep pevPins pipSample (fun _ _ => rfl) _ _).trans dumped
    unfold takeSnapshot
    split <;> exact samples
  unfold beforePev closeFrame
  exact k.passCycles (k.recs _ (k.frameRecords _ taken))

/-- What a sample of the line looks at. -/
def pevInputs (s : State) (n : Nat) := (pevOf s n, s.pins.level, s.pins.driven.take 3, s.sup.supply.banks, pevCfg s n, s.clk.time)

theorem drivenThen_take (s : State) :
    drivenThen s = (s.pins.driven.take 3).getD (if s.clk.time % 4 = 0 then 1 else 2) (0, 0) := by
  unfold drivenThen
  simp only [List.getD_eq_getElem?_getD, List.getElem?_take]
  split <;> simp

theorem pev_congr {s t : State} {n : Nat} (h : pevInputs s n = pevInputs t n) :
    pevDue s n = pevDue t n ∧ pevNext s n = pevNext t n ∧ pevSampled s n = pevSampled t n := by
  simp only [pevInputs, Prod.mk.injEq] at h
  obtain ⟨hof, hlevel, hdriven, hbanks, hcfg, htime⟩ := h
  have hpin : pevPin s n = pevPin t n := by rw [pevPin, pevPin, hcfg]
  have hgood : ∀ m, bankGood s m = bankGood t m := fun m => by rw [bankGood, bankGood, hbanks]
  have hthen : drivenThen s = drivenThen t := by rw [drivenThen_take, drivenThen_take, hdriven, htime]
  have hpinLevel : pinLevel s (pevPin s n) = pinLevel t (pevPin t n) := by
    rw [hpin, pinLevel, pinLevel, hthen, hgood, hlevel]
  have hdeb : pevDeb s n = pevDeb t n := by rw [pevDeb, pevDeb, hcfg]
  have hwants : ∀ r, pevWants s n r = pevWants t n r := fun r => by rw [pevWants, pevWants, hcfg]
  have hnext : pevNext s n = pevNext t n := by rw [pevNext, pevNext, hof, hpinLevel, hdeb]
  have hsampled : pevSampled s n = pevSampled t n := by rw [pevSampled, pevSampled, pevLive, pevLive, hcfg, hpin, hgood, hdeb]
  exact ⟨by rw [pevDue, pevDue, hsampled, hnext, hwants, hof], hnext, hsampled⟩

/-! ## The samples -/

/-- A loop keeps what each of its steps keeps, but for one element that it does not meet. -/
theorem each_without {α : Type} {f : State → α → State} {B : State → Prop} {x : α}
    (keep : ∀ s y, y ≠ x → B s → B (f s y)) : ∀ (l : List α) (s : State), x ∉ l → B s → B (each l s f) := by
  intro l
  induction l with
  | nil => exact fun _ _ h => h
  | cons y r ih =>
    intro s hx hs
    have hy : y ≠ x := fun h => hx (h ▸ List.mem_cons_self)
    exact ih _ (fun h => hx (List.mem_cons_of_mem _ h)) (keep s y hy hs)

/-- A loop whose step at one element makes something that no other step spoils makes it. -/
theorem each_once {α : Type} {f : State → α → State} {A B : State → Prop} {x : α} (before : ∀ s y, y ≠ x → A s → A (f s y))
    (makes : ∀ s, A s → B (f s x)) (after : ∀ s y, y ≠ x → B s → B (f s y)) :
    ∀ (l : List α) (s : State), l.Nodup → x ∈ l → A s → B (each l s f) := by
  intro l
  induction l with
  | nil => exact fun _ _ h => absurd h List.not_mem_nil
  | cons y r ih =>
    intro s hd hx hs
    obtain ⟨hy, hr⟩ := List.nodup_cons.mp hd
    by_cases h : y = x
    · subst h
      exact each_without after r _ hy (makes s hs)
    · exact ih _ hr ((List.mem_cons.mp hx).resolve_left (Ne.symm h)) (before s y h hs)

/-- One line's sample. -/
def pevStep (s : State) (n : Nat) : State :=
  if !pevSampled s n then s
  else if pevDue (tickBefore s) n then raise (setPev s n (pevNext (tickBefore s) n).1) (52 + n)
  else setPev s n (pevNext (tickBefore s) n).1

theorem pevSample_steps (s : State) : pevSample s = each (List.range 8) s pevStep := rfl

/-- A line whose event is due, as the samples find it. -/
def pevWaits (v : Pev) (n : Nat) (s : State) : Prop := pevDue (tickBefore s) n = true ∧ pevOf s n = v

/-- The event of a line has been raised, and its accepted level has changed. -/
def pevTaken (v : Pev) (n : Nat) (s : State) : Prop := 52 + n ∈ s.evq ∧ pevOf s n = { level := !v.level, cnt := 0 }

theorem pevOf_setPev (s : State) (m n : Nat) (v : Pev) : pevOf (setPev s m v) n = if n = m then v else pevOf s n :=
  get_put _ _ _ _ _

/-- A step leaves what the samples of the other lines look at, and only adds events. -/
theorem pevStep_other {s : State} {m n : Nat} (h : m ≠ n) :
    pevInputs (tickBefore (pevStep s m)) n = pevInputs (tickBefore s) n ∧ pevOf (pevStep s m) n = pevOf s n ∧
    ∀ e ∈ s.evq, e ∈ (pevStep s m).evq := by
  have other : ∀ v, pevOf (setPev s m v) n = pevOf s n := fun v => (pevOf_setPev s m n v).trans (if_neg (Ne.symm h))
  have inputs : ∀ v, pevInputs (tickBefore (setPev s m v)) n = pevInputs (tickBefore s) n := fun v =>
    congrArg (fun x => (x, (pevInputs (tickBefore s) n).2)) (other v)
  unfold pevStep
  split
  · exact ⟨rfl, rfl, fun _ he => he⟩
  · split
    · exact ⟨inputs _, other _, fun _ he => List.mem_append_left _ he⟩
    · exact ⟨inputs _, other _, fun _ he => he⟩

theorem pevNext_due {s : State} {n : Nat} (h : pevDue s n = true) :
    (pevNext s n).1 = { level := !(pevOf s n).level, cnt := 0 } := by
  simp only [pevDue, Bool.and_eq_true] at h
  obtain ⟨⟨-, hchange⟩, -⟩ := h
  unfold pevNext at hchange ⊢
  dsimp only at hchange ⊢
  split at hchange
  · cases hchange
  · next hne =>
    rw [if_neg hne]
    split at hchange
    · next hle =>
      rw [if_pos hle, Bool.eq_not_of_ne hne]
    · cases hchange

theorem pevStep_due {s : State} {n : Nat} (h : pevDue (tickBefore s) n = true) : pevTaken (pevOf s n) n (pevStep s n) := by
  have hs : pevSampled s n = true := by
    have : pevSampled (tickBefore s) n = true := by
      simp only [pevDue, Bool.and_eq_true] at h
      exact h.1.1
    exact this
  unfold pevStep
  rw [if_neg (by simp [hs]), if_pos h]
  refine ⟨by simp [raise], ?_⟩
  exact (pevOf_setPev s n n _).trans ((if_pos rfl).trans (pevNext_due h))

theorem pevSample_due {s : State} {n : Nat} (hn : n < 8) (h : pevDue (tickBefore s) n = true) :
    pevTaken (pevOf s n) n (pevSample s) := by
  rw [pevSample_steps]
  refine each_once (A := pevWaits (pevOf s n) n) ?_ ?_ ?_ _ s List.nodup_range (List.mem_range.mpr hn) ⟨h, rfl⟩
  · rintro u m hm ⟨hdue, hof⟩
    obtain ⟨hinputs, hother, -⟩ := pevStep_other (s := u) hm
    exact ⟨(pev_congr hinputs).1.trans hdue, hother.trans hof⟩
  · rintro u ⟨hdue, hof⟩
    rw [← hof]
    exact pevStep_due hdue
  · rintro u m hm ⟨hev, hof⟩
    obtain ⟨-, hother, hevents⟩ := pevStep_other (s := u) hm
    exact ⟨hevents _ hev, hother.trans hof⟩

/-- Closing a frame takes the samples of its last tick. -/
theorem closed_due {u : State} {n : Nat} (hn : n < 8) (ht : u.clk.time % 512 = 511) (h : pevDue u n = true) :
    pevTaken (pevOf u n) n (closed (samplePodreq u)) := by
  have pins := beforePev_pins (u := samplePodreq u) ht
  have outside : ((beforePev (samplePodreq u)).sup.supply, (beforePev (samplePodreq u)).dict) = (u.sup.supply, u.dict) := by
    have k : KeptInTick fun s : State => (s.sup.supply, s.dict) :=
      ⟨fun _ => rfl, fun _ _ => rfl, fun _ _ _ => rfl, fun _ _ _ => rfl, fun _ _ _ _ _ => rfl, fun _ _ _ => rfl⟩
    exact (k.pevSample _).symm.trans (closed_reads (fun s => (s.sup.supply, s.dict)) (fun _ => rfl) u)
  have time : (tickBefore (beforePev (samplePodreq u))).clk.time = u.clk.time := by
    have : (beforePev (samplePodreq u)).clk.time = (frame u + 1) * 512 :=
      (keepsTime.pevSample _).symm.trans (closed_time (samplePodreq u))
    simp only [tickBefore, this, frame, frameOf]
    omega
  rw [closed_eq]
  generalize beforePev (samplePodreq u) = x at pins outside time
  simp only [pevPins, Prod.mk.injEq] at pins outside
  obtain ⟨hpev, hlevel, hdriven⟩ := pins
  obtain ⟨hsupply, hdict⟩ := outside
  have hof : pevOf x n = pevOf u n := by
    rw [pevOf, hpev]
    rfl
  have inputs : pevInputs (tickBefore x) n = pevInputs u n := by
    have hof' : pevOf (tickBefore x) n = pevOf u n := hof
    have hcfg : pevCfg (tickBefore x) n = pevCfg u n := by
      show get x.dict _ _ = get u.dict _ _
      rw [hdict]
    simp only [pevInputs, Prod.mk.injEq]
    exact ⟨hof', hlevel, hdriven, congrArg Supply.banks hsupply, hcfg, time⟩
  rw [← hof]
  exact pevSample_due hn ((pev_congr inputs).1.trans h)

end Sys2Proof.Machine
end

section
/-!
SUPPORT. What the line cycle leaves of the line unit as a frame closes: the level, the FAULT and the
arbitration (R230, R244 to R246); and that no cause of a crash comes from it.
-/
namespace Sys2Proof.Machine

/-- The line unit without its cycle: the role, the pulses and the windows judged. -/
def lineHeld (s : State) : Line := { s.sup.line with
  age := 0, role := .stopped, judged := 0, misses := [], present := 0, seen := 0, hist := [], syncSeen := false, base := 0, cycle := 0
  faultCycle := false }

/-- What closing a frame leaves of the line unit and of the causes that the boundary takes. -/
def lineView (s : State) : Line × List (Nat × Nat) := (lineHeld s, s.causes)

theorem lineView_occLine (s : State) (c : Nat) : lineView (occLine s c) = lineView s := by
  obtain ⟨_, _, h⟩ := occ_eq s 40 2 c 1
  rw [occLine, h]
  rfl

theorem lineView_judgeWindow (s : State) (i : Nat) : lineView (judgeWindow s i) = lineView s := by
  unfold judgeWindow
  dsimp only
  split
  · rfl
  · split
    · split
      · rfl
      · split
        · rfl
        · exact lineView_occLine _ _
    · rfl

theorem lineView_changeRole (s : State) : lineView (changeRole s) = lineView s := by
  unfold changeRole
  dsimp only
  split
  · split
    · exact lineView_occLine _ _
    · rfl
  · split
    · exact lineView_occLine _ _
    · rfl
  · rfl

theorem lineView_endCycle (s : State) : lineView (endCycle s) = lineView s := by
  have judged : lineView (if isSynced s.sup.line then each (List.range 15) s judgeWindow else s) = lineView s := by
    split
    · exact each_keep lineView _ lineView_judgeWindow _ _
    · rfl
  exact (lineView_changeRole _).trans judged

theorem lineView_frameRecords (s : State) (f : Nat) : lineView (frameRecords s f) = lineView s := by
  have one : ∀ v l, lineView (record v l) = lineView v := by
    intro v l
    obtain ⟨_, _, h⟩ := record_eq v l
    rw [h]
    rfl
  unfold frameRecords
  dsimp only
  split
  · refine (each_keep lineView _ ?_ _ _).trans (one s _)
    intro v i
    split
    · exact one v _
    · rfl
  · exact one s _

theorem lineView_pevStep (s : State) (n : Nat) : lineView (pevStep s n) = lineView s := by
  unfold pevStep
  repeat' split
  all_goals rfl

theorem lineView_closed (u : State) : lineView (closed (samplePodreq u)) = lineView u := by
  have began : ∀ v t, lineView (newTick v t) = lineView v := newTick_keeps lineView
    (fun s t hr => by obtain ⟨_, _, _, _, _, _, _, _, _, _, _, rfl⟩ := hr; rfl)
    (fun s x => by obtain ⟨_, _, _, _, _, _, _, h⟩ := wholeSample_eq s x; rw [h]; rfl) (fun _ _ => rfl) (fun _ _ _ => rfl)
  have banks : ∀ v, lineView (takeSnapshot v) = lineView v := by
    intro v
    unfold takeSnapshot
    split <;> rfl
  have cycles : ∀ v, lineView (passCycles v) = lineView v := by
    intro v
    unfold passCycles
    split
    · rfl
    · exact each_keep lineView _ (fun v _ => lineView_endCycle v) _ _
  have closes : lineView (bothCopies (samplePodreq u) closeSup) = lineView u := by
    obtain ⟨v, hv⟩ := bothCopies_eq (samplePodreq u) closeSup
    rw [hv]
    rfl
  rw [closed_eq, pevSample_steps, each_keep lineView _ lineView_pevStep, beforePev, cycles]
  refine (lineView_frameRecords _ _).trans ((banks _).trans ?_)
  exact (each_keep lineView pipSample (fun _ _ => rfl) _ _).trans ((began _ _).trans closes)

end Sys2Proof.Machine
end

section
/-!
SUPPORT. Single effects of a boundary: the engine's start, the end of a WAITF, a debounced line, an automatic clear and the end of
BOOT (R41, R226, R332, R333, R360, R459).
-/
namespace Sys2Proof.Machine

/-- A command that names one effect of a boundary changes nothing where the effect is not due (log 13). -/
theorem atBoundary_idle {s : State} {due : State → Bool} (hr : running s = true) (hd : due s = false) :
    ∃ t, atBoundary s due = .next t ∧ unrouted t = unrouted s :=
  done_effect ((whenRunning_running hr _).trans (if_neg (by simp [hd]))) rfl

/-- Where it is due, the command is the boundary that closes the frame. -/
theorem atBoundary_due {s : State} {due : State → Bool} (hr : running s = true) (hd : due s = true) {u : State}
    (h : boundary s s.pins.level = u) : ∃ t, atBoundary s due = .next t ∧
    (∀ {β : Type} (p : State → β), (∀ s l, p { unrouted s with pending := l } = p s) → p t = p u) ∧
    ∀ e, shows t e ↔ u.sup.evStatus.testBit e = true ∨ e ∈ u.evq :=
  done_reads ((whenRunning_running hr _).trans ((if_pos hd).trans h))

/-! ## The engine's start (R332) -/

theorem engineStep_starts {c : State} (hd : startDue c = true) (ho : (act c 0x1800 1).testBit 0 = true)
    (hp : partDisabled c 2 = false) (hi : 0 < c.eng.intLen) :
    engineStep c = { c with eng := { freshEngine { c.eng with startReq := false } 0 false with stall := 1 } } := by
  have hst : c.eng.st = .halted ∨ c.eng.st = .trapped := by
    simp only [startDue, Bool.and_eq_true, decide_eq_true_eq] at hd
    exact hd.2
  have hw : c.eng.st ≠ .waitf := by obtain h | h := hst <;> simp [h]
  have he : startEntry c = some (0, false) := if_pos hi
  have hb : bit (engCtrl c) 0 = true := ho
  have hs : startEngine c = { c with eng := freshEngine { c.eng with startReq := false } 0 false } := by
    unfold startEngine
    rw [if_pos hd]
    dsimp only
    rw [if_pos (by simp [hb, hp]), he]
    rfl
  simp only [engineStep, hw, decide_false, Bool.false_and, Bool.false_eq_true, if_false, hd, Bool.false_or, if_true, hs]
  rfl

/-- What the start gives the engine. -/
def startView (s : State) : Nat × EngSt × PAddr × Bool × Map Word × List PAddr × Bool × Bool × Map InstrWord :=
  (s.clk.time, s.eng.st, s.eng.pc, s.eng.field, s.eng.w, s.eng.stack, s.eng.startReq, s.eng.ie, s.eng.prog)

theorem startView_apart : SeenApart startView :=
  ⟨fun _ _ => rfl, fun _ _ _ _ _ _ _ _ => rfl, fun _ _ => rfl, fun _ _ _ _ _ => rfl, fun _ => rfl, fun _ _ => rfl⟩

theorem engineMode_serviceable {m : Mode} (h : engineMode m = true) : serviceable m = true := by
  cases m <;> simp_all [engineMode, serviceable]

theorem boundary_starts {s : State} (hr : running s = true) (hd : startDue s = true)
    (hu : running (lastTick s s.pins.level) = true) (hn : nothingAwaits (lastTick s s.pins.level))
    (hdu : startDue (lastTick s s.pins.level) = true) (ho : (act (lastTick s s.pins.level) 0x1800 1).testBit 0 = true)
    (hp : partDisabled (lastTick s s.pins.level) 2 = false) (hi : 0 < (lastTick s s.pins.level).eng.intLen) :
    ∃ t, exec .engineStart s = .next t ∧ startView t = (((lastTick s s.pins.level).clk.time / 512 + 1) * 512, .running, 0, false,
      [], [], false, false, (lastTick s s.pins.level).eng.prog) := by
  obtain ⟨c, v, hb, hc, hj, hq, ht⟩ := boundary_open hu hn
  have reads : ∀ {β : Type} (p : State → β), (∀ s, p (offClosing s) = p s) → p c = p (lastTick s s.pins.level) := fun p hp => by
    rw [hc]
    exact closed_reads p hp _
  generalize lastTick s s.pins.level = u at *
  have hstart := engineStep_starts ((reads startDue fun _ => rfl).trans hdu) ((reads (fun s => (act s 0x1800 1).testBit 0) fun _ => rfl).trans ho)
    ((reads (fun s => partDisabled s 2) fun _ => rfl).trans hp) (by rw [reads (fun s => s.eng.intLen) fun _ => rfl]; exact hi)
  have hm : serviceable c.sup.mode = true := by
    rw [reads (fun s => s.sup.mode) fun _ => rfl]
    simp only [startDue, Bool.and_eq_true] at hdu
    exact engineMode_serviceable hdu.1.1.2
  have opened := startView_apart.opens (v := startView (engineStep c)) (c := engineStep c)
    ⟨rfl, by rw [hstart]; exact hm, by rw [hstart]; exact hj, by rw [hstart]; exact hq⟩
  obtain ⟨t, hx, view, -⟩ := atBoundary_due hr hd hb
  refine ⟨t, hx, (view startView fun _ _ => rfl).trans (opened.1.trans ?_)⟩
  rw [hstart]
  show (c.clk.time, _, _, _, _, _, _, _, c.eng.prog) = _
  rw [ht, reads (fun s => s.eng.prog) fun _ => rfl]
  rfl

/-! ## The event of a debounced line (R459) -/

/-- The engine's step at a boundary changes the engine, and counts. -/
theorem engineStep_eq (s : State) : ∃ e k w, engineStep s = { s with eng := e, ctrs := k, now := w } := by
  have started : ∀ t : State, ∃ e, startEngine t = { t with eng := e } := by
    intro t
    unfold startEngine
    repeat' split
    all_goals exact ⟨_, rfl⟩
  have woken : ∃ e k w, (if decide (s.eng.st = .waitf) && !engTested s then
      occEng (modEng s fun e => { e with st := .running, pc := nextPc e }) 1 1 else s) =
        { s with eng := e, ctrs := k, now := w } := by
    split
    · obtain ⟨k, w, h⟩ := occ_eq (modEng s fun e => { e with st := .running, pc := nextPc e }) 24 4 1 1
      exact ⟨_, k, w, h⟩
    · exact ⟨_, _, _, rfl⟩
  obtain ⟨e, k, w, hw⟩ := woken
  obtain ⟨e', he⟩ := started { s with eng := e, ctrs := k, now := w }
  unfold engineStep
  dsimp only
  rw [hw, he]
  split <;> exact ⟨_, k, w, rfl⟩

theorem boundary_samples {s : State} {n : Nat} (hn : n < 8) (hr : running s = true) (hd : pevDue s n = true)
    (hu : running (lastTick s s.pins.level) = true) (hw : nothingAwaits (lastTick s s.pins.level))
    (hdu : pevDue (lastTick s s.pins.level) n = true) :
    ∃ t, exec (.pinEventDebounced n) s = .next t ∧ t.clk.time = ((lastTick s s.pins.level).clk.time / 512 + 1) * 512 ∧
      shows t (52 + n) ∧ (pevOf t n).cnt = 0 ∧ (pevOf t n).level = !(pevOf (lastTick s s.pins.level) n).level := by
  obtain ⟨c, v, hb, hc, hj, hq, ht⟩ := boundary_open hu hw
  have h511 : (lastTick s s.pins.level).clk.time % 512 = 511 := by
    rw [lastTick_time hu]
    simp only [inFrame]
    omega
  have taken := closed_due hn h511 hdu
  rw [← hc] at taken
  obtain ⟨e, k, w, he⟩ := engineStep_eq c
  have seen : SeenAtEntry fun s => (s.clk.time, s.pins.pev) := ⟨⟨fun _ _ => rfl, fun _ _ _ _ _ _ _ _ => rfl, fun _ _ => rfl,
    fun _ _ _ _ _ => rfl, fun _ => rfl, fun _ _ => rfl⟩, fun _ _ _ => rfl, fun _ _ => rfl, fun _ _ => rfl,
    fun s x h => congrArg (fun t => (t, s.pins.pev)) h, fun _ => rfl⟩
  have opened := ((seen.keptAtEntry (c.clk.time, c.pins.pev)).and (keepsEvent (52 + n))).opens (c := engineStep c)
    (by rw [he]; exact Prod.ext hj hq) ⟨by rw [he], by rw [he]; exact taken.1⟩
  obtain ⟨t, hx, view, events⟩ := atBoundary_due (due := fun s => pevDue s n) hr hd hb
  have read := (view (fun s => (s.clk.time, s.pins.pev)) fun _ _ => rfl).trans opened.1
  refine ⟨t, hx, (congrArg (·.1) read).trans ht, (events _).mpr (.inr opened.2), ?_⟩
  have hof : pevOf t n = { level := !(pevOf (lastTick s s.pins.level) n).level, cnt := 0 } := by
    rw [← taken.2]
    exact congrArg (fun m => get m.2 Pev.reset n) read
  rw [hof]
  exact ⟨rfl, rfl⟩

/-! ## An automatic clear (R226) -/

/-- What an automatic clear at the next boundary asks for. -/
def clearReady (s : State) : Prop :=
  s.sup.mode = .crash ∧ s.recs.commitEnded = true ∧ s.sup.line.arb = .done ∧ s.sup.crash.clearing = false ∧
  (lineCfg s 4).testBit 0 = true ∧ s.sup.crash.autoUsed < lineCfg s 4 / 256 % 16 ∧
  s.sup.crash.time / 512 + 1 + lineCfg s 5 * 4096 ≤ s.clk.time / 512 + 1 ∧
  (∀ k ∈ [4, 5, 11, 12], s.sup.crash.cause ≠ k) ∧
  (∀ c, c < 96 → (chan s c).ovf = false) ∧ ∀ g, g < 8 → (conv s g).failA = false ∧ (conv s g).failB = false

/-- What the clear looks at, but for the time. -/
def clearView (s : State) := (s.sup.mode, s.sup.crash, s.recs.commitEnded, s.sup.line.arb, s.latched, s.sup.chans, s.sup.convs)

theorem conditionPersists_none {s : State} (hc : ∀ c, c < 96 → (chan s c).ovf = false)
    (hg : ∀ g, g < 8 → (conv s g).failA = false ∧ (conv s g).failB = false) : conditionPersists s = false := by
  have h1 : (channels.any fun c => (chan s c).ovf && offOvCrash s c) = false := by
    rw [List.any_eq_false]
    intro c hm
    simp [hc c (List.mem_range.mp hm)]
  have h2 : (converters.any fun g => (conv s g).failA || (conv s g).failB) = false := by
    rw [List.any_eq_false]
    intro g hm
    obtain ⟨ha, hb⟩ := hg g (List.mem_range.mp hm)
    simp [ha, hb]
  simp [conditionPersists, h1, h2]

/-- It is due at the boundary that opens the next frame. -/
theorem autoClearDue_ready {s t : State} (h : clearReady s) (hv : clearView t = clearView s)
    (ht : frame t = s.clk.time / 512 + 1) : autoClearDue t = true := by
  obtain ⟨hmode, hended, harb, hclearing, hbit, hused, htime, hcause, hchan, hconv⟩ := h
  simp only [clearView, Prod.mk.injEq] at hv
  obtain ⟨vmode, vcrash, vended, varb, vlatched, vchans, vconvs⟩ := hv
  have hcfg : ∀ n, lineCfg t n = lineCfg s n := fun n => by simp only [lineCfg, cfg, vlatched]
  have hpersists : conditionPersists t = false := conditionPersists_none
    (fun c hc => (congrArg (fun m => (get m Chan.reset c).ovf) vchans).trans (hchan c hc))
    (fun g hg => by rw [show conv t g = conv s g from congrArg (fun m => get m Conv.reset g) vconvs]; exact hconv g hg)
  have hrefusal : clearRefusal t = none := by
    simp [clearRefusal, vmode, vcrash, vended, arbEnded, arbBusy, varb, hmode, hclearing, harb, hended, hpersists]
  have hfield : fld (lineCfg s 4) 8 4 = lineCfg s 4 / 256 % 16 := by simp [fld, Nat.shiftRight_eq_div_pow]
  have hc4 := hcause 4 (by decide)
  have hc5 := hcause 5 (by decide)
  have hc11 := hcause 11 (by decide)
  have hc12 := hcause 12 (by decide)
  have hbit' : bit (lineCfg s 4) 0 = true := hbit
  simp only [autoClearDue, hrefusal, hcfg, vcrash, hfield, hbit', frameOf, ht, hused, htime, hc4, hc5, hc11, hc12]
  decide

/-- What the statement reads of the clear. -/
def clearedView (s : State) := (s.clk.time, s.sup.mode, s.sup.crash.clearing, s.sup.crash.auto, s.sup.crash.clearStat,
  s.sup.crash.autoUsed, s.sup.line.holding, s.sup.line.origHold)

theorem clearView_closed (u : State) : clearView (closed (samplePodreq u)) = clearView u := by
  have outside := closed_reads (fun s => (s.sup.mode, s.sup.crash, s.recs.commitEnded, s.latched, s.sup.chans, s.sup.convs))
    (fun _ => rfl) u
  have arb := congrArg (fun v => v.1.arb) (lineView_closed u)
  generalize closed (samplePodreq u) = c at outside arb
  simp only [Prod.mk.injEq] at outside
  obtain ⟨h1, h2, h3, h4, h5, h6⟩ := outside
  have h7 : c.sup.line.arb = u.sup.line.arb := arb
  simp only [clearView, h1, h2, h3, h4, h5, h6, h7]

/-- Closing a frame leaves a device on which nothing is on its way as it is. -/
theorem closed_calm {u : State} (h : calm u) :
    podsRest (closed (samplePodreq u)) ∧ (closed (samplePodreq u)).sup.margins = [] ∧ (closed (samplePodreq u)).causes = [] := by
  obtain ⟨hn, hm, -⟩ := id h
  refine ⟨podsRest_of_sup (podsRest_of_calm h) ?_ ?_, closed_margins (u := samplePodreq u) hm, ?_⟩
  · exact closed_reads (fun s => s.sup.chans) (fun _ => rfl) u
  · exact closed_reads (fun s => s.sup.pods) (fun _ => rfl) u
  · exact (congrArg (·.2) (lineView_closed u)).trans hn.1

/-- The clear of a boundary at which nothing else is on its way. -/
theorem opens_cleared {u c : State} (h : clearReady u) (hv : clearView c = clearView u) (hrest : podsRest c)
    (hm : c.sup.margins = []) (hc : c.causes = []) (hj : c.odp.job = none) (hq : c.hostQ = [])
    (ht : c.clk.time = (u.clk.time / 512 + 1) * 512) :
    clearedView (openFrame (evalNow (autoClear (engineStep c)) false)) =
      ((u.clk.time / 512 + 1) * 512, .crash, true, true, 1, u.sup.crash.autoUsed + 1, false, false) := by
  have mode : c.sup.mode = .crash := (congrArg (·.1) hv).trans h.1
  have used : c.sup.crash.autoUsed = u.sup.crash.autoUsed := congrArg (fun v => v.2.1.autoUsed) hv
  obtain ⟨e, k, w, he⟩ := engineStep_eq c
  have due : autoClearDue (engineStep c) = true := by
    rw [he]
    refine autoClearDue_ready h hv ?_
    show c.clk.time / 512 = _
    rw [ht]
    omega
  have clears : autoClear (engineStep c) =
      modCrash (beginClearing (engineStep c) true) fun k => { k with autoUsed := k.autoUsed + 1 } := if_pos due
  rw [clears, he, ← used, ← ht, ← mode]
  have hs : serviceable c.sup.mode = true := by
    rw [mode]
    rfl
  exact opens_reads (s := modCrash (beginClearing { c with eng := e, ctrs := k, now := w } true) fun k => { k with
    autoUsed := k.autoUsed + 1 }) (podsRest_of_sup hrest rfl rfl) hm hc hs hj hq clearedView fun _ => rfl

theorem boundary_clears {s : State} (hr : running s = true) (hd : clearReady s)
    (hu : running (lastTick s s.pins.level) = true) (hcalm : calm (lastTick s s.pins.level))
    (hdu : clearReady (lastTick s s.pins.level)) :
    ∃ t, exec .autoClear s = .next t ∧ clearedView t = (((lastTick s s.pins.level).clk.time / 512 + 1) * 512, .crash, true, true, 1,
      (lastTick s s.pins.level).sup.crash.autoUsed + 1, false, false) := by
  have hds : autoClearDue (atNext s) = true := by
    refine autoClearDue_ready hd rfl ?_
    simp only [frame, atNext, inFrame, frameOf]
    omega
  obtain ⟨c, v, hb, hc, hj, hq, ht⟩ := boundary_open hu hcalm.1
  obtain ⟨t, hx, view, -⟩ := atBoundary_due (due := fun s => autoClearDue (atNext s)) hr hds hb
  refine ⟨t, hx, (view clearedView fun _ _ => rfl).trans ?_⟩
  obtain ⟨hrest, hm, hcauses⟩ := closed_calm hcalm
  have hv := clearView_closed (lastTick s s.pins.level)
  rw [← hc] at hrest hm hcauses hv
  exact opens_cleared hdu hv hrest hm hcauses hj hq ht

/-! ## The end of BOOT (R41, R360, R374) -/

/-- What the statement reads of an entry to STANDBY from BOOT. -/
def bootView (s : State) := (s.clk.time, s.sup.bootDone, s.sup.mode, s.boot.refFrames, s.twi.ready, s.sup.line.role, s.sup.line.start,
  s.eng.startReq, s.canA.announce, s.canB.announce)

/-- The same with what lets the frame open. -/
def bootRest (s : State) := (bootView s, s.odp.job, s.hostQ)

theorem bootRest_tornCandidate (s : State) (cause : Nat) (r : Ring) :
    bootRest (tornCandidate s cause r) = bootRest s ∧ (25 ∈ s.evq → 25 ∈ (tornCandidate s cause r).evq) := by
  unfold tornCandidate
  split
  · next n q _ =>
    refine ⟨?_, fun h => (keepsEvent 25).candidate 5 cause 0 (frame s) n q h⟩
    obtain ⟨_, _, _, _, h⟩ := candidate_eq s 5 cause 0 (frame s) n q
    rw [h]
    rfl
  · exact ⟨rfl, id⟩

theorem bootEnds_enters {s : State} (hm : s.sup.mode = .boot) (hl : s.sup.line.low = false) :
    bootRest (bootEnds s) = ((s.clk.time, s.clk.time, .standby, s.boot.refFrames, true, .listening, s.clk.time, true,
      portOn s .a, portOn s .b), s.odp.job, s.hostQ) ∧ 25 ∈ (bootEnds s).evq := by
  have torn : ∀ u : State, bootRest (tornCandidates u) = bootRest u ∧ (25 ∈ u.evq → 25 ∈ (tornCandidates u).evq) := by
    intro u
    obtain ⟨k1, e1⟩ := bootRest_tornCandidate u 1 u.recs.kernel
    obtain ⟨k2, e2⟩ := bootRest_tornCandidate (tornCandidate u 1 u.recs.kernel) 2 (tornCandidate u 1 u.recs.kernel).recs.husk
    obtain ⟨k3, e3⟩ := bootRest_tornCandidate _ 3
      (tornCandidate (tornCandidate u 1 u.recs.kernel) 2 (tornCandidate u 1 u.recs.kernel).recs.husk).recs.summary
    exact ⟨k3.trans (k2.trans k1), fun h => e3 (e2 (e1 h))⟩
  have enters : ∀ (q : List Nat) (x : Boot) (y : Bist), bootRest (standbyEntry { s with
        clk := { s.clk with degraded := false }, sup := { s.sup with bootDone := s.clk.time }, boot := x, bist := y, evq := q }) =
        ((s.clk.time, s.clk.time, .standby, x.refFrames, true, .listening, s.clk.time, true,
          bit (act s 0x1C00 1) 7 && !bit (get y.part 0 3) 11, bit (act s 0x1C01 1) 7 && !bit (get y.part 0 4) 11), s.odp.job, s.hostQ) ∧
      25 ∈ (standbyEntry { s with
        clk := { s.clk with degraded := false }, sup := { s.sup with bootDone := s.clk.time }, boot := x, bist := y, evq := q }).evq := by
    intro q x y
    obtain ⟨l, _, _, _, _, _, _, _, xa, xb, heq, hrole, hstart, -, hxa, -, hxb⟩ := standbyEntry_eq (s := { s with
        clk := { s.clk with degraded := false }, sup := { s.sup with bootDone := s.clk.time }, boot := x, bist := y, evq := q })
      (.inr hm) hl
    rw [heq]
    refine ⟨?_, by simp⟩
    simp only [bootRest, bootView, hrole, hstart, hxa, hxb]
    rfl
  unfold bootEnds
  dsimp only
  refine ⟨(torn _).1.trans ?_, (torn _).2 ?_⟩
  · split
    · exact (enters (s.evq ++ [42]) _ _).1
    · exact (enters s.evq _ _).1
  · split
    · exact (enters (s.evq ++ [42]) _ _).2
    · exact (enters s.evq _ _).2

/-- What an end of BOOT at the next boundary asks for. -/
def bootReady (s : State) : Prop := s.sup.mode = .boot ∧ s.boot.hold = false ∧ s.boot.imageDone = true ∧ s.boot.refFrames = 1

/-- The last reference-check frame brings STANDBY. -/
theorem bootStep_enters {s : State} (h : bootReady s) (hl : s.sup.line.low = false) :
    bootRest (bootStep s) = ((s.clk.time, s.clk.time, .standby, 0, true, .listening, s.clk.time, true,
      portOn s .a, portOn s .b), s.odp.job, s.hostQ) ∧ 25 ∈ (bootStep s).evq := by
  obtain ⟨hm, hh, hi, hr⟩ := h
  have last : bootStep s = bootEnds { s with boot := { s.boot with refFrames := s.boot.refFrames - 1 } } := by
    unfold bootStep
    rw [if_pos (by simp [booting, hm, hh, hi])]
    exact if_pos (by simp [hr])
  have enters := bootEnds_enters (s := { s with boot := { s.boot with refFrames := s.boot.refFrames - 1 } }) hm hl
  rw [last]
  refine ⟨enters.1.trans ?_, enters.2⟩
  simp only [hr]
  rfl

/-- The opening of a frame with which BOOT ends. -/
theorem openFrame_enters {s : State} (hrun : running s = true) (h : bootReady s) (hl : s.sup.line.low = false)
    (hj : s.odp.job = none) (hq : s.hostQ = []) :
    bootView (openFrame s) = (s.clk.time, s.clk.time, .standby, 0, true, .listening, s.clk.time, true,
      portOn s .a, portOn s .b) ∧ 25 ∈ (openFrame s).evq := by
  have converted : ∃ m a b t e k w, (if converting s then each converters s convFrameStart else s) = { s with
      sup := { s.sup with convs := m }, reqA := a, reqB := b, reqT := t, reqE := e, ctrs := k, now := w } := by
    split
    · exact (convFrameStarts_eq s).1
    · exact ⟨_, _, _, _, _, _, _, rfl⟩
  obtain ⟨m, a, b, t, e, k, w, hconv⟩ := converted
  unfold openFrame
  rw [if_pos hrun, hconv]
  dsimp only
  have enters := bootStep_enters (s := modLine { s with
      sup := { s.sup with convs := m }, reqA := a, reqB := b, reqT := t, reqE := e, ctrs := k, now := w }
    fun l => { l with faultFrame := l.low && l.fault }) h hl
  generalize bootStep (modLine { s with
      sup := { s.sup with convs := m }, reqA := a, reqB := b, reqT := t, reqE := e, ctrs := k, now := w }
    fun l => { l with faultFrame := l.low && l.fault }) = u at enters
  obtain ⟨hview, hev⟩ := enters
  obtain ⟨x, hrun'⟩ := startRun_eq u true
  rw [hrun']
  have hodp : odpWord { u with bist := x } = { u with bist := x } := by
    have : u.odp.job = none := (congrArg (fun v => v.2.1) hview).trans hj
    simp [odpWord, this]
  have hhost : hostWord { u with bist := x } = { u with bist := x } := by
    have : u.hostQ = [] := (congrArg (fun v => v.2.2) hview).trans hq
    simp [hostWord, this]
  rw [hodp, hhost]
  obtain ⟨k', w', hcount⟩ := countWait_eq { u with bist := x }
  rw [hcount]
  exact ⟨(congrArg (·.1) hview), hev⟩

theorem boundary_boots {s : State} (hr : running s = true) (hd : bootReady s)
    (hu : running (lastTick s s.pins.level) = true) (hn : nothingAwaits (lastTick s s.pins.level))
    (hdu : bootReady (lastTick s s.pins.level)) (hl : (lastTick s s.pins.level).sup.line.low = false) :
    ∃ t next, next = ((lastTick s s.pins.level).clk.time / 512 + 1) * 512 ∧ exec .bootComplete s = .next t ∧
      bootView t = (next, next, .standby, 0, true, .listening, next, true, portOn (lastTick s s.pins.level) .a,
        portOn (lastTick s s.pins.level) .b) ∧ shows t 25 := by
  obtain ⟨c, v, hb, hc, hj, hq, ht⟩ := boundary_open hu hn
  have hds : (booting s && s.boot.imageDone && decide (s.boot.refFrames = 1)) = true := by
    obtain ⟨hm, hh, hi, hf⟩ := hd
    simp [booting, hm, hh, hi, hf]
  obtain ⟨t, hx, view, events⟩ := atBoundary_due
    (due := fun s => booting s && s.boot.imageDone && decide (s.boot.refFrames = 1)) hr hds hb
  have reads : ∀ {β : Type} (p : State → β), (∀ s, p (offClosing s) = p s) → p c = p (lastTick s s.pins.level) := fun p hp => by
    rw [hc]
    exact closed_reads p hp _
  have low : c.sup.line.low = (lastTick s s.pins.level).sup.line.low := by
    rw [hc]
    exact congrArg (fun v => v.1.low) (lineView_closed (lastTick s s.pins.level))
  generalize lastTick s s.pins.level = u at *
  have ready : bootReady c := by
    have h := reads (fun s => (s.sup.mode, s.boot)) fun _ => rfl
    simp only [Prod.mk.injEq] at h
    obtain ⟨h1, h2⟩ := h
    rw [bootReady, h1, h2]
    exact hdu
  obtain ⟨e, k, w, he⟩ := engineStep_eq c
  have still : evalNow (autoClear (engineStep c)) false = engineStep c := by
    have hm : (engineStep c).sup.mode = .boot := by
      rw [he]
      exact ready.1
    rw [autoClear_still (by rw [hm]; decide)]
    unfold evalNow
    exact if_neg (by simp [hm, serviceable])
  have opened := openFrame_enters (s := engineStep c) (by rw [he]; exact (reads running fun _ => rfl).trans hu) (by rw [he]; exact ready)
    (by rw [he]; exact low.trans hl) (by rw [he]; exact hj) (by rw [he]; exact hq)
  rw [still] at view events
  refine ⟨t, _, rfl, hx, (view bootView fun _ _ => rfl).trans (opened.1.trans ?_), (events _).mpr (.inr opened.2)⟩
  rw [he]
  show (c.clk.time, c.clk.time, _, _, _, _, c.clk.time, _, portOn c .a, portOn c .b) = _
  rw [ht, reads (fun s => portOn s .a) fun _ => rfl, reads (fun s => portOn s .b) fun _ => rfl]

end Sys2Proof.Machine
end

section
/-!
SUPPORT. The end of a WAITF: the boundary resumes the engine, tick 0 passes, and the next instruction runs in tick 1 (R333). What
the other blocks do in these ticks leaves the engine alone.
-/
namespace Sys2Proof.Machine

/-- The engine's state of execution, its memories, the time, and what waits for the store port. -/
def engineView (s : State) := (s.clk.time, s.eng.st, s.eng.pc, s.eng.w, s.eng.data, s.eng.prog, s.eng.stall, s.eng.busy, s.eng.rows,
  s.eng.ie, s.eng.skid, s.eng.field, s.odp.job, s.hostQ)

/-- The engine stands like that in a device that runs; no timed action is held, it is not under test, and the tick has read no
SAMPLE. -/
def engineStands (v : Nat × EngSt × PAddr × Map Word × Map Word × Map InstrWord × Nat × Nat × List EngRow × Bool × Option Nat ×
    Bool × Option OdpJob × List Access) (s : State) : Prop :=
  engineView s = v ∧ s.eng.tacts = [] ∧ engTested s = false ∧ s.now.samples = [] ∧ running s = true

/-- What SUPERVISE and the notes do leaves it. -/
theorem keepsEngine (v) : KeptAtStep5 (engineStands v) :=
  { sup := fun s x _ hm ⟨hv, ht, he, hs, hr⟩ => ⟨hv, ht, he, hs, by
      rw [← hr]
      simp only [running, hm]⟩
    mode := fun s m hm ⟨hv, ht, he, hs, hr⟩ => ⟨hv, ht, he, hs, by
      simp only [running, Bool.and_eq_true] at hr ⊢
      exact ⟨hr.1, by cases m <;> first | rfl | cases hm⟩⟩
    notes := fun s r i g c w n l hw ⟨hv, ht, he, hs, hr⟩ => ⟨hv, ht, he, hw.trans hs, hr⟩
    event := fun _ _ h => h
    discard := fun s r ⟨hv, ht, he, hs, hr⟩ => by
      have samples : (discardReq s r).now.samples = s.now.samples := by
        unfold discardReq
        dsimp only
        split
        · rfl
        · have set : ∀ q, (setReq s r q).now = s.now := fun q => by cases r <;> rfl
          split
          · rw [set]
          · exact (samples_occ _ _ _ _ _).trans (by rw [set])
      obtain ⟨a, b, t, e, c, w, hd⟩ := discardReq_eq s r
      rw [hd] at samples ⊢
      exact ⟨hv, ht, he, samples.trans hs, hr⟩
    tacts := fun _ ⟨hv, _, he, hs, hr⟩ => ⟨hv, rfl, he, hs, hr⟩ }

/-- So does what any tick brings. -/
theorem keepsEngineInTicks (v) : KeptInTicks (engineStands v) :=
  { toKeptAtStep5 := keepsEngine v
    accept := fun _ _ h => h
    request := fun s r f h => by cases r <;> exact h
    flush := fun s ⟨hv, ht, he, hs, hr⟩ => by
      have samples := samples_flush s
      obtain ⟨_, _, _, _, _, _, _, _, _, _, _, hf⟩ := routedFrom_flush s
      rw [hf] at samples ⊢
      exact ⟨hv, ht, he, samples.trans hs, hr⟩
    twin := fun _ _ h => h }

/-- And, where the engine runs, what a frame opens with. -/
theorem keepsEngineAtEntry {v} (hv : v.2.1 = .running) : KeptAtEntry (engineStands v) :=
  { toKeptAtStep5 := keepsEngine v
    urgent := fun s g src h => by
      obtain ⟨a, b, t, e, hd⟩ := pendPlaced_eq s g src
      rw [hd]
      exact h
    run := fun s ⟨hview, ht, he, hs, hr⟩ => by
      have hst : s.eng.st = .running := (congrArg (·.2.1) hview).trans hv
      unfold startRun
      split
      · next p t _ =>
        split
        · next hc =>
          simp only [Bool.and_eq_true] at hc
          have hp : p ≠ 2 := by
            rintro rfl
            simp [startCondition, hst] at hc
          refine ⟨hview, ht, ?_, hs, hr⟩
          show decide (p = 2) = false
          simp [hp]
        · exact ⟨hview, ht, he, hs, hr⟩
      · exact ⟨hview, ht, he, hs, hr⟩
    ports := fun _ _ _ h => h
    twi := fun _ _ h => h
    boot := fun _ _ h => h
    clk := fun s x htime ⟨hview, ht, he, hs, hr⟩ => ⟨by
      rw [← hview]
      exact congrArg (fun t => (t, (engineView s).2)) htime, ht, he, hs, hr⟩
    bist := fun s x hrun ⟨hview, ht, he, hs, hr⟩ => ⟨hview, ht, by
      rw [← he]
      simp only [engTested, testing, hrun], hs, hr⟩
    start := fun _ h => h }

/-! ## A tick -/

/-- The engine stands like that at a time, with so many ticks of delay, at a program address. -/
def runsAt (time : Nat) (pc : PAddr) (stall : Nat) (e : Eng) : State → Prop :=
  engineStands (time, .running, pc, e.w, e.data, e.prog, stall, 0, [], false, none, e.field, none, [])

variable {time stall : Nat} {pc : PAddr} {e : Eng} {s : State}

theorem runsAt_tactShare (h : runsAt time pc stall e s) : tactShare s = s := by
  obtain ⟨-, ht, -⟩ := h
  simp [tactShare, tactDue, ht, takeDue]

/-- The tick before the program goes on only ends the delay. -/
theorem runsAt_stalls (h : runsAt time pc 1 e s) : runsAt time pc 0 e (engineShare s) := by
  obtain ⟨hview, ht, he, hs, hr⟩ := h
  simp only [engineView, Prod.mk.injEq] at hview
  obtain ⟨htime, hst, hpc, hw, hdata, hprog, hstall, hbusy, hrows, hie, hskid, hfield, hjob, hq⟩ := hview
  have share : engineShare s = modEng s fun e => { e with stall := e.stall - 1 } := by
    simp [engineShare, he, hrows, hstall]
  rw [share]
  refine ⟨?_, ht, he, hs, hr⟩
  simp only [engineView, modEng, htime, hst, hpc, hw, hdata, hprog, hstall, hbusy, hrows, hie, hskid, hfield, hjob, hq]

theorem instrOf_nop : instrOf 0x04000000 = .nop := by decide

/-- The program's NOP is the command NOP. -/
theorem runInstr_nop {s t : State} (h : execNop s = .next t) : runInstr s .nop = t := by
  unfold runInstr
  dsimp only
  rw [h]

theorem nop_parts (s : State) :
    ticksOf s.eng .nop = 1 ∧ storeAccess .nop = false ∧ endInstr s .nop = runInstr s .nop := ⟨rfl, rfl, rfl⟩

theorem runTick_nop {s : State} (hc : current s = .nop) (hb : s.eng.busy = 0) : runTick s = runInstr s .nop := by
  obtain ⟨hticks, hstore, hends⟩ := nop_parts s
  unfold runTick
  rw [hc, hb]
  dsimp only
  rw [hticks, hstore, if_neg Bool.false_ne_true, if_pos (by decide), hends]

theorem runsAt_finish (h : runsAt time pc stall e s) (l : List Instr) :
    runsAt time pc stall e { s with causes := [], pending := l } := h

/-- What the command NOP does. -/
theorem execNop_eq (s : State) : execNop s = .next { flush (bothCopies s fun s =>
    if s.eng.rows = [] then instrEffect s (fun s => next s id) else if executing s then queueRow s (.instr .nop) else s) with
      causes := [], pending := s.pending } := rfl

/-- A NOP at the program address runs. -/
theorem runsAt_nop (h : runsAt time pc 0 e s) (hin : inRegion e pc = true) (hn : get e.prog 0 pc.toNat = 0x04000000) :
    runsAt time (pc + 1) 0 e (engineShare s) := by
  obtain ⟨hview, ht, he, hs, hr⟩ := h
  simp only [engineView, Prod.mk.injEq] at hview
  obtain ⟨htime, hst, hpc, hw, hdata, hprog, hstall, hbusy, hrows, hie, hskid, hfield, hjob, hq⟩ := hview
  have hirq : irqDue s = false := by simp [irqDue, interruptible, hie]
  have hexec : canExecute s := ⟨by simp [executing, hr, hst, he], hrows, by rw [hpc, ← hin, inRegion, inRegion, hfield], hskid, hirq⟩
  have hcur : current s = .nop := by
    unfold current
    rw [hprog, hpc, hn, instrOf_nop]
  have share : engineShare s = runInstr s .nop := by
    have hdue : recogniseDue s = s := by simp [recogniseDue, hirq]
    have hport : (s.now.engPort && storeAccess (current s) && decide (s.eng.busy = 0)) = false := by
      rw [hcur, (nop_parts s).2.1]
      simp
    unfold engineShare
    rw [if_neg (by simp [he]), hrows]
    dsimp only
    rw [if_neg (by omega), hst]
    dsimp only
    rw [hport, hdue, if_neg (by decide)]
    exact runTick_nop hcur hbusy
  have k := keepsEngineInTicks (time, .running, pc + 1, e.w, e.data, e.prog, 0, 0, [], false, none, e.field, none, [])
  have moved : runsAt time (pc + 1) 0 e (modEng (idle s) fun e => { e with pc := nextPc (idle s).eng }) := by
    refine ⟨?_, ht, he, hs, hr⟩
    simp only [engineView, modEng, idle, nextPc, htime, hst, hpc, hw, hdata, hprog, hstall, hrows, hie, hskid, hfield, hjob, hq]
  have effect : runsAt time (pc + 1) 0 e (next (idle s) id) := by
    unfold next goto
    exact k.count 24 4 1 1 moved
  rw [share, runInstr_nop (execNop_eq s)]
  refine runsAt_finish (k.flush _ (k.bothCopies ?_)) s.pending
  rw [instr_of_canExecute hexec]
  exact effect

/-- A new tick has read no SAMPLE, and keeps the view but for its time. -/
theorem engineStands_newTick {v} (h : engineStands v s) (t : Nat) : engineStands (t, v.2) (newTick s t) := by
  obtain ⟨hview, ht, he, hs, hr⟩ := h
  have reads : ∀ {β : Type} (p : State → β), (∀ s, p (unrouted s) = p s) →
      p (newTick s t) = p { s with clk := { s.clk with time := t } } := fun p hp =>
    of_unrouted p hp (t := { s with clk := { s.clk with time := t } }) (unrouted_newTick s t hs)
  refine ⟨?_, ?_, ?_, rfl, ?_⟩
  · rw [reads engineView fun _ => rfl, ← hview]
    rfl
  · exact (reads (fun s => s.eng.tacts) fun _ => rfl).trans ht
  · exact (reads engTested fun _ => rfl).trans he
  · exact (reads running fun _ => rfl).trans hr

/-- A tick whose engine share is known begins the next one. -/
theorem runsAt_passTo {pc' : PAddr} {stall' : Nat} (h : runsAt time pc stall e s) (h16 : (time + 1) % 512 ≠ 16)
    (share : ∀ u, runsAt time pc stall e u → runsAt time pc' stall' e (engineShare u)) :
    runsAt (time + 1) pc' stall' e (passTo s (time + 1)) := by
  have k := keepsEngineInTicks (time, .running, pc, e.w, e.data, e.prog, stall, 0, [], false, none, e.field, none, [])
  have k' := keepsEngineInTicks (time, .running, pc', e.w, e.data, e.prog, stall', 0, [], false, none, e.field, none, [])
  have k'' := keepsEngineInTicks (time + 1, .running, pc', e.w, e.data, e.prog, stall', 0, [], false, none, e.field, none, [])
  have ended : runsAt time pc' stall' e (endTick s) := by
    have windows := k.passWindows (k.receive h)
    unfold endTick
    rw [if_pos h.2.2.2.2]
    refine k'.compareCopies (k'.bothCopies ?_)
    unfold tickWork
    rw [runsAt_tactShare windows]
    exact share _ windows
  have began : runsAt (time + 1) pc' stall' e (newTick (endTick s) (time + 1)) := engineStands_newTick ended (time + 1)
  unfold passTo beginTick
  generalize newTick (endTick s) (time + 1) = u at began
  rw [if_pos began.2.2.2.2]
  refine k''.bothCopies ?_
  have cycles := k''.passCycles began
  have crashed : runsAt (time + 1) pc' stall' e (if (passCycles u).sup.crash.lockNext then
      lockstep (modCrash (passCycles u) fun k => { k with lockNext := false }) else passCycles u) :=
    KeptAtStep5.ite (k''.lockstep (k''.crashReg _ cycles)) cycles
  unfold tickStart
  dsimp only
  generalize (if (passCycles u).sup.crash.lockNext then
      lockstep (modCrash (passCycles u) fun k => { k with lockNext := false }) else passCycles u) = w at crashed
  have hview := crashed.1
  simp only [engineView, Prod.mk.injEq] at hview
  obtain ⟨htime, -, -, -, -, -, -, -, -, -, -, -, hjob, hq⟩ := hview
  have h1 : accessTick w = w := by simp [accessTick, htime, h16]
  have h2 : odpWord w = w := by simp [odpWord, hjob]
  have h3 : hostWord w = w := by simp [hostWord, hq]
  rw [h1, h2, h3]
  exact k''.countWait crashed

/-! ## The boundary -/

/-- The frame closes, and the view stands but for the time. -/
theorem engineStands_closed {v} {u : State} (h : engineStands v u) :
    engineStands ((frame u + 1) * 512, v.2) (closed (samplePodreq u)) := by
  have k := keepsEngine v
  have next : inFrame (samplePodreq u) 512 = (frame u + 1) * 512 := by
    simp only [inFrame]
    show frame u * 512 + 512 = _
    omega
  have k' := keepsEngine ((frame u + 1) * 512, v.2)
  have counted : engineStands v (bothCopies (samplePodreq u) closeSup) := by
    refine (keepsEngineInTicks v).bothCopies ?_
    unfold closeSup
    exact k.line _ (k.sup (samplePodreq u) _ rfl rfl h)
  have began := engineStands_newTick counted ((frame u + 1) * 512)
  rw [closed_eq, pevSample_steps, beforePev, sampled, next]
  generalize newTick (bothCopies (samplePodreq u) closeSup) ((frame u + 1) * 512) = w at began
  have dumped : ∀ f, engineStands ((frame u + 1) * 512, v.2) (dumpCapture w f) := fun _ => began
  have sampled : ∀ f, engineStands ((frame u + 1) * 512, v.2) (samplePips (dumpCapture w f)) := fun f => by
    unfold samplePips
    refine each_holds (fun s c hu => ?_) _ _ (dumped f)
    unfold pipSample
    exact k'.margin c _ hu
  have banked : ∀ s, engineStands ((frame u + 1) * 512, v.2) s → engineStands ((frame u + 1) * 512, v.2) (takeSnapshot s) := by
    intro s hs
    unfold takeSnapshot
    split <;> exact hs
  refine each_holds (fun s n hs => ?_) _ _ (k'.passCycles ?_)
  · unfold pevStep
    exact KeptAtStep5.ite hs (KeptAtStep5.ite hs hs)
  · unfold closeFrame
    exact k'.recs _ (k'.frameRecords _ (banked _ (sampled _)))

/-- A WAITF ends with its boundary, and the instruction behind it waits for tick 1. -/
theorem engineStep_resumes {c : State} {d : Eng} (h : engineStands (time, .waitf, pc, d.w, d.data, d.prog, c.eng.stall, 0, [], false, none,
    d.field, none, []) c) : runsAt time (pc + 1) 1 d (engineStep c) := by
  obtain ⟨hview, ht, he, hs, hr⟩ := h
  simp only [engineView, Prod.mk.injEq] at hview
  obtain ⟨htime, hst, hpc, hw, hdata, hprog, -, hbusy, hrows, hie, hskid, hfield, hjob, hq⟩ := hview
  have wake : (decide (c.eng.st = .waitf) && !engTested c) = true := by simp [hst, he]
  have woken : runsAt time (pc + 1) c.eng.stall d (occEng (modEng c fun e => { e with st := .running, pc := nextPc e }) 1 1) := by
    refine (keepsEngine _).count 24 4 1 1 ?_
    refine ⟨?_, ht, he, hs, hr⟩
    simp only [engineView, modEng, nextPc, htime, hpc, hw, hdata, hprog, hbusy, hrows, hie, hskid, hfield, hjob, hq]
  unfold engineStep
  dsimp only
  rw [wake, if_pos rfl]
  generalize occEng (modEng c fun e => { e with st := .running, pc := nextPc e }) 1 1 = u at woken
  obtain ⟨hview', ht', he', hs', hr'⟩ := woken
  have hst' : u.eng.st = .running := congrArg (·.2.1) hview'
  have started : startEngine u = u := by simp [startEngine, startDue, hst']
  rw [started, Bool.true_or, if_pos rfl]
  refine ⟨?_, ht', he', hs', hr'⟩
  simp only [engineView, Prod.mk.injEq] at hview'
  obtain ⟨h1, h2, h3, h4, h5, h6, -, h8, h9, h10, h11, h12, h13, h14⟩ := hview'
  simp only [engineView, modEng, h1, h2, h3, h4, h5, h6, h8, h9, h10, h11, h12, h13, h14]

/-- A boundary at which nothing waits ends the WAITF of an engine that stands in one. -/
theorem boundary_resumes {s : State} {level : Pins} (hu : running (lastTick s level) = true) (hn : nothingAwaits (lastTick s level))
    (hst : (lastTick s level).eng.st = .waitf) (he : engTested (lastTick s level) = false) (hie : (lastTick s level).eng.ie = false)
    (hskid : (lastTick s level).eng.skid = none) (ht : (lastTick s level).eng.tacts = []) (hb : (lastTick s level).eng.busy = 0)
    (hrows : (lastTick s level).eng.rows = []) (hs : (lastTick s level).now.samples = []) :
    runsAt (((lastTick s level).clk.time / 512 + 1) * 512) ((lastTick s level).eng.pc + 1) 1 (lastTick s level).eng
      (boundary s level) := by
  obtain ⟨v, hbound⟩ := boundary_still hu hn
  rw [hbound]
  generalize lastTick s level = u at *
  obtain ⟨-, hj, hq, -⟩ := hn
  have stands : engineStands (u.clk.time, .waitf, u.eng.pc, u.eng.w, u.eng.data, u.eng.prog, u.eng.stall, 0, [], false, none,
      u.eng.field, none, []) u := by
    refine ⟨?_, ht, he, hs, hu⟩
    simp only [engineView, hst, hb, hrows, hie, hskid, hj, hq]
  have closes := engineStands_closed stands
  have resumed : runsAt ((u.clk.time / 512 + 1) * 512) (u.eng.pc + 1) 1 u.eng (engineStep (closed (samplePodreq u))) := by
    refine engineStep_resumes ?_
    have hstall : (closed (samplePodreq u)).eng.stall = u.eng.stall := congrArg (·.2.2.2.2.2.2.1) closes.1
    rw [hstall]
    exact closes
  have rest : portRests (engineStep (closed (samplePodreq u))) := by
    have parts := resumed.1
    simp only [engineView, Prod.mk.injEq] at parts
    obtain ⟨-, -, -, -, -, -, -, -, -, -, -, -, hjob, hwait⟩ := parts
    exact Prod.ext hjob hwait
  exact (keepsEngineInTicks _).twin _ v ((keepsEngineAtEntry rfl).opens rest resumed)

/-- Two ticks of an engine that has been resumed bring its next instruction, a NOP. -/
theorem runsAt_two {s : State} {d : Eng} (h : runsAt time pc 1 d s) (h512 : time % 512 = 0) (hin : inRegion d pc = true)
    (hn : get d.prog 0 pc.toNat = 0x04000000) : runsAt (time + 2) (pc + 1) 0 d (advance s (inFrame s 2)) := by
  have steps : ∀ {t stall : Nat} {u : State} {n limit : Nat}, runsAt t pc stall d u → t < limit →
      passUntil (n + 1) u limit = passUntil n (passTo u (t + 1)) limit := by
    intro t stall u n limit hu hlt
    obtain ⟨hview, -, he, -, hr⟩ := hu
    have htime : u.clk.time = t := congrArg (·.1) hview
    have hst : u.eng.st = .running := congrArg (·.2.1) hview
    have moves : still u = false := by simp [still, he, hst]
    have next : nextInstant u limit = t + 1 := by simp [nextInstant, moves, htime]
    show (if running u && decide (u.clk.time < limit) then passUntil n (passTo u (nextInstant u limit)) limit else u) = _
    rw [hr, htime, next]
    simp [hlt]
  have htime : s.clk.time = time := congrArg (·.1) h.1
  have first : runsAt (time + 1) pc 0 d (passTo s (time + 1)) := runsAt_passTo h (by omega) fun _ => runsAt_stalls
  have second : runsAt (time + 2) (pc + 1) 0 d (passTo (passTo s (time + 1)) (time + 2)) :=
    runsAt_passTo first (by omega) fun _ hu => runsAt_nop hu hin hn
  have goal : inFrame s 2 = time + 2 := by
    simp only [inFrame, frame, frameOf, htime]
    omega
  have all : advance s (inFrame s 2) = passTo (passTo s (time + 1)) (time + 2) := by
    unfold advance
    rw [goal, htime, show time + 2 - time = 2 by omega, steps h (by omega), steps first (by omega)]
    rfl
  rw [all]
  exact second

end Sys2Proof.Machine
end

section
/-!
The boundaries that start the engine and let it go on (R41, R226, R332, R333, R341, R360, R374, R459).
-/
namespace Sys2Proof.Machine

/-- What WAITF_RESUME does: the boundary and tick 1 (R333). -/
def resumeEffect (s : State) : State := whenRunning s fun s =>
  if decide (s.eng.st = .waitf) && !engTested s then
    let t := boundary s s.pins.level
    if running t then advance t (inFrame t 2) else t
  else s

theorem waitf_resumes {s : State} (hr : running s = true) (hst : s.eng.st = .waitf) (ht : engTested s = false) {time : Nat}
    {pc : PAddr} {d : Eng} (hb : runsAt time pc 1 d (boundary s s.pins.level)) (h512 : time % 512 = 0) (hin : inRegion d pc = true)
    (hn : get d.prog 0 pc.toNat = 0x04000000) : ∃ t, exec .waitfResume s = .next t ∧ t.clk.time = time + 2 ∧
      t.eng.st = .running ∧ t.eng.pc = pc + 1 ∧ t.eng.w = d.w ∧ t.eng.data = d.data ∧ t.eng.prog = d.prog := by
  have ended := runsAt_two hb h512 hin hn
  have hrun := hb.2.2.2.2
  generalize hbound : boundary s s.pins.level = b at hrun ended
  have effect : resumeEffect s = advance b (inFrame b 2) := by
    refine (whenRunning_running hr _).trans ((if_pos (by simp [hst, ht])).trans ?_)
    dsimp only
    rw [hbound, if_pos hrun]
  obtain ⟨t, hx, view, -⟩ := done_reads (f := resumeEffect) effect
  refine ⟨t, hx, ?_⟩
  have read := (view engineView fun _ _ => rfl).trans ended.1
  simp only [engineView, Prod.mk.injEq] at read
  obtain ⟨h1, h2, h3, h4, h5, h6, -⟩ := read
  exact ⟨h1, h2, h3, h4, h5, h6⟩

/-- Settles O56, effect by effect: each is the boundary of a device on which nothing else waits. -/
theorem boundariesStartAndResume : Obligations.BoundariesStartAndResume := by
  unfold Obligations.BoundariesStartAndResume
  intro s n hr
  refine ⟨?_, atBoundary_idle hr, ?_, ?_, ?_, atBoundary_idle (due := fun s => pevDue s n) hr, ?_, ?_, ?_⟩
  · rintro hd ⟨hu, hn⟩ hdu ho hp hi
    obtain ⟨t, hx, view⟩ := boundary_starts hr hd hu hn hdu ho hp hi
    simp only [startView, Prod.mk.injEq] at view
    obtain ⟨h1, h2, h3, h4, h5, h6, h7, h8, h9⟩ := view
    exact ⟨t, hx, h1, h2, h3, h4, h5, h6, h7, h8, h9⟩
  · rintro hst ht ⟨hu, hn⟩ - hstu htu hie hskid htacts hb hrows hs hin hprog
    have resumed := boundary_resumes hu hn hstu htu hie hskid htacts hb hrows hs
    obtain ⟨t, hx, h1, h2, h3, h4⟩ := waitf_resumes hr hst ht resumed (by omega) hin hprog
    refine ⟨t, hx, h1, h2, h3.trans ?_, h4⟩
    rw [BitVec.add_assoc]
    rfl
  · intro hst
    exact done_effect ((whenRunning_running hr _).trans (if_neg (by simp [hst]))) rfl
  · rintro hn8 hd ⟨hu, hn⟩ hdu
    exact boundary_samples hn8 hr hd hu hn hdu
  · rintro _ hd ⟨hu, -⟩ hcalm hdu
    obtain ⟨t, hx, view⟩ := boundary_clears hr hd hu hcalm hdu
    simp only [clearedView, Prod.mk.injEq] at view
    obtain ⟨h1, h2, h3, h4, h5, h6, h7, h8⟩ := view
    exact ⟨t, hx, h1, h2, h3, h4, h5, h6, h7, h8⟩
  · rintro ⟨hm, hh, hi⟩ hf ⟨hu, hn⟩ ⟨hmu, hhu, hiu⟩ hfu hl
    obtain ⟨t, next, hnext, hx, view, hev⟩ := boundary_boots hr ⟨hm, hh, hi, hf⟩ hu hn ⟨hmu, hhu, hiu, hfu⟩ hl
    subst hnext
    simp only [bootView, Prod.mk.injEq] at view
    obtain ⟨h1, h2, h3, h4, h5, h6, h7, h8, h9, h10⟩ := view
    exact ⟨t, hx, h1, h2, h3, h4, h5, h6, h7, h8, hev, fun p => by cases p <;> assumption⟩
  · intro h
    refine atBoundary_idle hr ?_
    by_contra hdue
    simp only [Bool.not_eq_false, booting, Bool.and_eq_true, Bool.not_eq_true', decide_eq_true_eq] at hdue
    obtain ⟨⟨⟨hm, hh⟩, hi⟩, hf⟩ := hdue
    exact h.elim (fun hb => hb ⟨hm, hh, hi⟩) fun hn => hn hf

end Sys2Proof.Machine
end

section
/-!
SUPPORT. A reset that a boundary's one request begins (R51, R156, R369), and what it does to a summary write in progress.
-/
namespace Sys2Proof.Machine

/-! ## A boundary with one request -/

/-- Step 4 with one request that the line has not brought handles it. -/
theorem requestStep_one {s : State} {q : Request} (h : s.accepted = [q]) (hsrc : q.src ≠ .line) (f : Nat) :
    requestStep s f = handleRequest { s with accepted := [] } q := by
  have before : decide (q.src = .line) = false := decide_eq_false hsrc
  simp [requestStep, h, inOrder, insertReq, mirrorCommand, before]

/-- A boundary at which one request waits and nothing else: the frame closes, the engine's step comes, then the request, the pods
and the new frame. -/
theorem boundary_asked {s : State} {level : Pins} {q : Request} (hr : running (lastTick s level) = true)
    (hn : nothingAwaits { lastTick s level with accepted := [] }) (ha : (lastTick s level).accepted = [q]) (hsrc : q.src ≠ .line)
    (hm : (lastTick s level).sup.mode ≠ .crash) : ∃ e k w v,
      let c := closed (samplePodreq (lastTick s level))
      boundary s level = { openFrame (evalNow (handleRequest { c with eng := e, ctrs := k, now := w, accepted := [] } q) false) with
        twin := v } := by
  obtain ⟨v, hb⟩ := boundary_eq hr
  have awaits := keepsAwaiting.closed (fun _ _ _ => rfl) (samplePodreq (lastTick s level))
  have sets := fun r => (keepsSets r).closed (fun _ _ _ => by cases r <;> rfl) (samplePodreq (lastTick s level))
  have mode := closed_reads (fun s => s.sup.mode) (fun _ => rfl) (lastTick s level)
  refine (?_ : ∃ e k w, boundary s level = _).imp fun e => Exists.imp fun k => Exists.imp fun w h => ⟨v, h⟩
  rw [hb]
  generalize closed (samplePodreq (lastTick s level)) = c at awaits sets mode
  generalize lastTick s level = u at *
  obtain ⟨-, -, -, -, hsets, hlatched, hlock, hclear, hopen⟩ := hn
  simp only [awaiting, Prod.mk.injEq] at awaits
  obtain ⟨clatched, cdict, cacc, ccrash, cdis⟩ := awaits
  have unlocked : c.sup.crash.lockNext = false := (congrArg (·.lockNext) ccrash).trans hlock
  have latched : c.latched = c.dict := clatched.trans (hlatched.trans cdict.symm)
  have unset : ∀ r, (req c r).sets = [] := fun r => (sets r).trans (Eq.trans (by cases r <;> rfl) (hsets r))
  obtain ⟨e, k, w, he⟩ := engineStep_eq c
  refine ⟨e, k, w, ?_⟩
  rw [unlocked, clearLockNext_still unlocked, commitStep_still unset latched, he,
    openCrashWatches_still (s := { c with eng := e, ctrs := k, now := w })
      fun n => (congrArg (fun d => (get d Dis.reset n).opening) cdis).trans (hopen n),
    leaveCrash_still (s := { c with eng := e, ctrs := k, now := w }) ((congrArg (·.clearing) ccrash).trans hclear),
    autoClear_still (s := { c with eng := e, ctrs := k, now := w }) (by rw [← mode] at hm; exact hm)]
  unfold requestsAndPods
  rw [if_neg Bool.false_ne_true,
    requestStep_one (s := { c with eng := e, ctrs := k, now := w }) (q := q) (cacc.trans ha) hsrc]

/-- A device that a boundary's request has put into reset does no more at that boundary. -/
theorem openFrame_held {s : State} (h : s.pwr.held = true) : openFrame (evalNow s false) = s := by
  have stands : running s = false := by simp [running, h]
  rw [evalNow, stands, Bool.false_and, if_neg Bool.false_ne_true, openFrame, stands, if_neg Bool.false_ne_true]

/-! ## A summary write that a reset cuts -/

/-- The NVM after a reset of a device that writes a summary record, and nothing else, leaves its slot open (log 19). -/
theorem enterReset_cutsSummary {s : State} {w : Nat × Nat × Nat} (hc : s.recs.commit = .idle) (hh : s.recs.huskBusy = none)
    (hs : s.recs.sumBusy = some w) (hi : s.image.chunk = none) (k : Nat) :
    (enterReset s k).recs.nvm = nvmPut s.recs.nvm (sumAddr s.recs.summary.next)
      ((List.range 32).map fun i => Config.tornByte s.fresh (sumAddr s.recs.summary.next + i)) := by
  simp [enterReset, resetState, recsAfterReset, cutWrites, tornChunk, cutWrite, store, setNvm, Rec.reset, hc, hh, hs, hi]

theorem enterReset_held (s : State) (k : Nat) : (enterReset s k).pwr.held = true := by
  have open' : ∀ (t : State) (a n : Nat), (cutWrite t a n).pwr = t.pwr := fun _ _ _ => rfl
  have cut : ∀ t : State, (cutWrites t).pwr = t.pwr := fun t => by
    unfold cutWrites
    dsimp only
    repeat' split
    all_goals simp only [open']
  have torn : ∀ t : State, (tornChunk t).pwr = t.pwr := fun t => by
    unfold tornChunk
    split <;> rfl
  simp [enterReset, resetState, cut, torn]

/-- Its first byte is the open one. -/
theorem enterReset_cutsSummary_byte {s : State} {w : Nat × Nat × Nat} (hc : s.recs.commit = .idle) (hh : s.recs.huskBusy = none)
    (hs : s.recs.sumBusy = some w) (hi : s.image.chunk = none) (k : Nat) :
    nvmByte (enterReset s k).recs.nvm (sumAddr s.recs.summary.next) = Config.tornByte s.fresh (sumAddr s.recs.summary.next) := by
  rw [enterReset_cutsSummary hc hh hs hi, nvmByte_nvmPut]
  simp

/-- MODE_REQ 6 in STANDBY begins the reset (R369). -/
theorem handleRequest_reset {s : State} {r : Requester} {t : Nat} (hp : s.pwr.held = false) (hm : s.sup.mode = .standby) :
    handleRequest s { ask := .mode 6, src := .port r, time := t } = enterReset s causeHost := by
  simp [handleRequest, modeRequest, hp, hm]

/-! ## The counterexample -/

/-- A byte that is not the one that a reset leaves in the first summary slot. -/
def otherByte : Byte := if Config.tornByte 0 (sumAddr 0) = 0 then 1 else 0

theorem tornByte_ne_otherByte : Config.tornByte 0 (sumAddr 0) ≠ otherByte := by
  unfold otherByte
  split
  · next h => rw [h]; decide
  · next h => exact h

/-- A device in STANDBY, in tick 511 of its first frame: it writes a summary record over a slot that holds a byte, and the
MODE_REQ of a reset waits for the boundary. -/
def resetsAmidSummary (b : Byte) : State :=
  Tests.withRec (fun r => { r with sumBusy := some (1, 2, 4), nvm := [(sumAddr 0, b)] }) (Tests.wanting .standby 6 id)

theorem resetsAmidSummary_lastTick (b : Byte) :
    lastTick (resetsAmidSummary b) (resetsAmidSummary b).pins.level = resetsAmidSummary b := by
  have rests : tickRests (resetsAmidSummary 0) := by
    unfold tickRests accessRests lineRests
    decide
  exact Tests.lastTick_rests (resetsAmidSummary b) rfl rests

/-- The boundary leaves another byte in the slot than before. -/
theorem resetsAmidSummary_boundary (b : Byte) : let s := resetsAmidSummary b
    nvmByte (boundary s s.pins.level).recs.nvm (sumAddr 0) = Config.tornByte 0 (sumAddr 0) := by
  intro s
  have still := resetsAmidSummary_lastTick b
  have outside := closed_reads (fun s => (s.pwr.held, s.sup.mode, s.recs.commit, s.recs.huskBusy, s.recs.sumBusy, s.recs.nvm,
    s.recs.summary.next, s.image.chunk, s.fresh)) (fun _ => rfl) s
  obtain ⟨e, k, w, v, hb⟩ := boundary_asked (s := s) (level := s.pins.level)
    (q := { ask := .mode 6, src := .port .canb, time := 300 }) (by rw [still]; rfl)
    (by rw [still]; exact (Tests.wit_mode_calm .standby 6).1) (by rw [still]; rfl) nofun (by rw [still]; exact nofun)
  rw [hb, still]
  generalize closed (samplePodreq s) = c at outside
  simp only [Prod.mk.injEq] at outside
  obtain ⟨hheld, hmode, hcommit, hhusk, hsum, hnvm, hnext, hchunk, hfresh⟩ := outside
  rw [handleRequest_reset (s := { c with eng := e, ctrs := k, now := w, accepted := [] }) hheld hmode, openFrame_held (enterReset_held _ _)]
  have byte := enterReset_cutsSummary_byte (s := { c with eng := e, ctrs := k, now := w, accepted := [] }) hcommit hhusk hsum hchunk
    causeHost
  have first : sumAddr c.recs.summary.next = sumAddr 0 := congrArg sumAddr hnext
  have fresh : c.fresh = 0 := hfresh
  simpa only [first, fresh] using byte

/-- Refutes O55: a reset by MODE_REQ 6 in STANDBY cuts a summary write in progress and leaves its slot open (log 19), and the
statement, which excepts an image chunk alone, asks that the NVM stay as it was. -/
theorem not_boundariesOpenTheNextFrame : ¬ Obligations.BoundariesOpenTheNextFrame := by
  unfold Obligations.BoundariesOpenTheNextFrame
  intro h
  have still := resetsAmidSummary_lastTick otherByte
  obtain ⟨-, -, -, resets⟩ := h.2 (resetsAmidSummary otherByte) (resetsAmidSummary otherByte).pins.level .canb 6 300 rfl
    (by rw [still]; rfl) (by rw [still]; exact Tests.wit_mode_calm .standby 6) (by rw [still]; rfl) (by rw [still]; decide)
    (by rw [still]; rfl)
  obtain ⟨t, ht, -, -, -, -, -, -, hnvm, -⟩ := (resets rfl).1 (Or.inl (by rw [still]; rfl))
  rw [still] at hnvm
  have kept : t.recs.nvm = [(sumAddr 0, otherByte)] := hnvm rfl
  obtain ⟨t', ht', reads, -⟩ := done_reads (s := resetsAmidSummary otherByte) (f := fun s => whenRunning s fun s =>
    boundary s (resetsAmidSummary otherByte).pins.level) (whenRunning_running rfl _)
  have same : t' = t := Host.Outcome.next.inj (ht'.symm.trans ht)
  have byte := reads (fun s => nvmByte s.recs.nvm (sumAddr 0)) fun _ _ => rfl
  rw [same, kept, resetsAmidSummary_boundary] at byte
  exact tornByte_ne_otherByte byte.symm

end Sys2Proof.Machine
end

section
/-!
SUPPORT. What a write does rests neither on the queue of commands nor on the note that the engine has run in the present tick: a write
of a state that differs in these two alone leaves states that do so too (R15, R58, R80).
-/
namespace Sys2Proof.Machine

/-- The state with another note of the engine's run and another queue. -/
def restamp (b : Bool) (l : List Instr) (s : State) : State := { s with now := { s.now with ran := b }, pending := l }

section
variable (b : Bool) (l : List Instr) (s : State)

/-- Every other part of the state, and what the writes read of it. -/
@[simp] theorem restamp_parts : (restamp b l s).sup = s.sup ∧ (restamp b l s).recs = s.recs ∧ (restamp b l s).eng = s.eng ∧
    (restamp b l s).clk = s.clk ∧ (restamp b l s).dict = s.dict ∧ (restamp b l s).image = s.image ∧
    (restamp b l s).pins = s.pins ∧ (restamp b l s).bist = s.bist ∧ (restamp b l s).ctrs = s.ctrs ∧
    (restamp b l s).boot = s.boot ∧ (restamp b l s).pwr = s.pwr ∧ (restamp b l s).fresh = s.fresh :=
  ⟨rfl, rfl, rfl, rfl, rfl, rfl, rfl, rfl, rfl, rfl, rfl, rfl⟩

@[simp] theorem restamp_reads : (∀ c, chan (restamp b l s) c = chan s c) ∧ (∀ p, pod (restamp b l s) p = pod s p) ∧
    (∀ c, margin (restamp b l s) c = margin s c) ∧ (∀ c, dis (restamp b l s) c = dis s c) ∧
    (∀ g, conv (restamp b l s) g = conv s g) ∧ (∀ i j, act (restamp b l s) i j = act s i j) ∧
    (∀ c, disCfg (restamp b l s) c = disCfg s c) ∧ (∀ n, disOut (restamp b l s) n = disOut s n) ∧
    (∀ c x, podOfSource (restamp b l s) c x = podOfSource s c x) ∧ (∀ c, partner (restamp b l s) c = partner s c) ∧
    frame (restamp b l s) = frame s ∧ galCtrl (restamp b l s) = galCtrl s :=
  ⟨fun _ => rfl, fun _ => rfl, fun _ => rfl, fun _ => rfl, fun _ => rfl, fun _ _ => rfl, fun _ => rfl, fun _ => rfl, fun _ _ => rfl,
    fun _ => rfl, rfl, rfl⟩

/-- The plain updates leave them alone. -/
@[simp] theorem restamp_updates :
    (∀ f, modEng (restamp b l s) f = restamp b l (modEng s f)) ∧ (∀ f, modRec (restamp b l s) f = restamp b l (modRec s f)) ∧
    (∀ f, modImage (restamp b l s) f = restamp b l (modImage s f)) ∧ (∀ f, modLine (restamp b l s) f = restamp b l (modLine s f)) ∧
    (∀ f, modCrash (restamp b l s) f = restamp b l (modCrash s f)) ∧ (∀ f, modBist (restamp b l s) f = restamp b l (modBist s f)) ∧
    (∀ c v, setConv (restamp b l s) c v = restamp b l (setConv s c v)) ∧
    (∀ c f, modConv (restamp b l s) c f = restamp b l (modConv s c f)) ∧
    (∀ c f, modChan (restamp b l s) c f = restamp b l (modChan s c f)) ∧
    (∀ c f, modDis (restamp b l s) c f = restamp b l (modDis s c f)) ∧
    (∀ c f, modMargin (restamp b l s) c f = restamp b l (modMargin s c f)) ∧
    (∀ p f, modPod (restamp b l s) p f = restamp b l (modPod s p f)) ∧
    (∀ k v, setField (restamp b l s) k v = restamp b l (setField s k v)) ∧
    (∀ n x, setBall (restamp b l s) n x = restamp b l (setBall s n x)) ∧
    (∀ m, setNvm (restamp b l s) m = restamp b l (setNvm s m)) ∧
    (∀ e, raise (restamp b l s) e = restamp b l (raise s e)) ∧ ∀ a x, accept (restamp b l s) a x = restamp b l (accept s a x) :=
  ⟨fun _ => rfl, fun _ => rfl, fun _ => rfl, fun _ => rfl, fun _ => rfl, fun _ => rfl, fun _ _ => rfl, fun _ _ => rfl, fun _ _ => rfl,
    fun _ _ => rfl, fun _ _ => rfl, fun _ _ => rfl, fun _ _ => rfl, fun _ _ => rfl, fun _ => rfl, fun _ => rfl, fun _ _ => rfl⟩

@[simp] theorem restamp_ite (c : Prop) [Decidable c] (t : State) :
    (if c then restamp b l s else restamp b l t) = restamp b l (if c then s else t) := (apply_ite (restamp b l) c s t).symm

theorem each_restamp {α : Type} {f : State → α → State} (h : ∀ s x, f (restamp b l s) x = restamp b l (f s x)) (xs : List α) :
    ∀ s, each xs (restamp b l s) f = restamp b l (each xs s f) := by
  unfold each
  induction xs with
  | nil => exact fun _ => rfl
  | cons x xs ih => exact fun s => (congrArg (List.foldl f · xs) (h s x)).trans (ih (f s x))

theorem bump_restamp (k code n : Nat) : bump (restamp b l s) k code n = restamp b l (bump s k code n) := by
  unfold bump
  rw [← restamp_ite]
  rfl

@[simp] theorem occ_restamp (lo n code times : Nat) : occ (restamp b l s) lo n code times = restamp b l (occ s lo n code times) :=
  each_restamp b l (fun s i => bump_restamp b l s (lo + i) code times) _ s

@[simp] theorem setReq_restamp (r : Requester) (q : ReqState) : setReq (restamp b l s) r q = restamp b l (setReq s r q) := by
  cases r <;> rfl

@[simp] theorem req_restamp (r : Requester) : req (restamp b l s) r = req s r := by
  cases r <;> rfl

@[simp] theorem modReq_restamp (r : Requester) (f : ReqState → ReqState) :
    modReq (restamp b l s) r f = restamp b l (modReq s r f) := by
  cases r <;> rfl

/-! ## A crash (R29 to R31, R217, R252) -/

@[simp] theorem noteReport_restamp (f : Nat) : noteReport (restamp b l s) f = restamp b l (noteReport s f) := by
  simp only [noteReport, restamp_parts, restamp_updates]
  split <;> rfl

@[simp] theorem candidate_restamp (kind cause source f d0 d1 : Nat) :
    candidate (restamp b l s) kind cause source f d0 d1 = restamp b l (candidate s kind cause source f d0 d1) := by
  unfold candidate
  simp only [restamp_parts, restamp_updates, occNvm, occ_restamp, noteReport_restamp, restamp_ite]
  rfl

theorem laterFault_restamp (c x : Nat) : laterFault (restamp b l s) c x = restamp b l (laterFault s c x) :=
  candidate_restamp ..

theorem addLater_restamp (k : Nat × Nat) : addLater (restamp b l s) k = restamp b l (addLater s k) := by
  unfold addLater
  rw [laterFault_restamp]
  simp only [restamp_parts]
  split
  · split <;> rfl
  · rfl

theorem takeFirst_restamp (code x : Nat) : takeFirst (restamp b l s) code x = restamp b l (takeFirst s code x) := by
  unfold takeFirst
  simp only [addLater_restamp, crashLine, restamp_parts, restamp_reads, restamp_updates]
  split
  · rfl
  · split <;> rfl

theorem causeInCrash_restamp (k : Nat × Nat) : causeInCrash (restamp b l s) k = restamp b l (causeInCrash s k) := by
  unfold causeInCrash
  rw [takeFirst_restamp, addLater_restamp, restamp_ite]
  rfl

theorem record_restamp (x : List Byte) : record (restamp b l s) x = restamp b l (record s x) := by
  unfold record
  simp only [← restamp_ite]
  rfl

theorem discardReq_restamp (r : Requester) : discardReq (restamp b l s) r = restamp b l (discardReq s r) := by
  unfold discardReq
  simp only [req_restamp, setReq_restamp, occDict, occ_restamp, restamp_ite]

theorem discardReqs_restamp : each requesters (restamp b l s) discardReq = restamp b l (each requesters s discardReq) :=
  each_restamp b l (fun t r => discardReq_restamp b l t r) requesters s

theorem setMode_restamp (m : Mode) : setMode (restamp b l s) m = restamp b l (setMode s m) := by
  have left : ∀ u : State, (if bit (galCtrl (restamp b l u)) 1 then record (restamp b l u)
        (bytes 1 0xA2 ++ bytes 1 (modeCode s.sup.mode * 16 + modeCode m) ++ bytes 6 u.clk.time) else restamp b l u) =
      restamp b l (if bit (galCtrl u) 1 then record u
        (bytes 1 0xA2 ++ bytes 1 (modeCode s.sup.mode * 16 + modeCode m) ++ bytes 6 u.clk.time) else u) := by
    intro u
    simp only [restamp_reads, record_restamp, restamp_ite]
  have mode : (restamp b l s).sup.mode = s.sup.mode := rfl
  unfold setMode
  rw [mode]
  by_cases h : s.sup.mode = m
  · rw [if_pos h, if_pos h]
  · rw [if_neg h, if_neg h]
    dsimp only
    rw [← discardReqs_restamp, ← left]
    by_cases standby : s.sup.mode = .standby
    · rw [if_pos standby, if_pos standby, standby]
      rfl
    · by_cases service : s.sup.mode = .service
      · rw [if_neg standby, if_neg standby, if_pos service, if_pos service]
        rfl
      · rw [if_neg standby, if_neg standby, if_neg service, if_neg service]
        rfl

theorem releaseRail_restamp (c : Nat) : releaseRail (restamp b l s) c = restamp b l (releaseRail s c) := by
  unfold releaseRail
  simp only [restamp_reads, restamp_updates]
  split
  · split <;> rfl
  · rfl

theorem dropRail_restamp (c : Nat) : dropRail (restamp b l s) c = restamp b l (dropRail s c) := by
  unfold dropRail
  simp only [releaseRail_restamp, restamp_reads, restamp_updates, restamp_ite]

theorem cutMargin_restamp (c : Nat) : cutMargin (restamp b l s) c = restamp b l (cutMargin s c) := by
  unfold cutMargin
  simp only [restamp_reads, occPod, occ_restamp, restamp_ite, restamp_updates]

theorem setPodSt_restamp (p : Nat) (st : PodSt) : setPodSt (restamp b l s) p st = restamp b l (setPodSt s p st) := by
  unfold setPodSt
  simp only [restamp_reads, restamp_updates, occPod, occ_restamp, restamp_ite]

theorem assertAtCrash_restamp (c : Nat) : assertAtCrash (restamp b l s) c = restamp b l (assertAtCrash s c) := by
  have closes : ∀ t x, closeWatch (restamp b l t) x = restamp b l (closeWatch t x) := fun _ _ => rfl
  have sets : ∀ t n v, setDisOut (restamp b l t) n v = restamp b l (setDisOut t n v) := fun _ _ _ => rfl
  have owner : ∀ t, disOwner (restamp b l t) c = disOwner t c := fun _ => rfl
  unfold assertAtCrash assertOut asserted
  simp only [restamp_reads, closes, restamp_ite, restamp_updates, sets, owner]

theorem abandonHusk_restamp : abandonHusk (restamp b l s) = restamp b l (abandonHusk s) := by
  have torn : ∀ a r k c, storeTorn (restamp b l s) a r k c = restamp b l (storeTorn s a r k c) := fun _ _ _ _ => rfl
  unfold abandonHusk
  simp only [restamp_parts, torn, restamp_updates]
  split
  · rfl
  · rfl

theorem enterCrash_restamp (code x : Nat) (later entry : Bool) :
    enterCrash (restamp b l s) code x later entry = restamp b l (enterCrash s code x later entry) := by
  have before : prior (restamp b l s) = prior s := rfl
  have line : ∀ t o n, crashLine (restamp b l t) o n = restamp b l (crashLine t o n) := fun _ _ _ => rfl
  have tacts : ∀ t, discardTacts (restamp b l t) = restamp b l (discardTacts t) := fun _ => rfl
  have seen : ∀ t v, capture (restamp b l t) v code x later = capture t v code x later := fun _ _ => rfl
  have margins : ∀ t, activeMargins (restamp b l t) = activeMargins t := fun _ => rfl
  have pods : ∀ t, podsInUse (restamp b l t) = podsInUse t := fun _ => rfl
  have rails := fun t => each_restamp b l (f := dropRail) (fun u c => dropRail_restamp b l u c) channels t
  have cuts := fun xs t => each_restamp b l (f := cutMargin) (fun u c => cutMargin_restamp b l u c) xs t
  have stops := fun xs t => each_restamp b l (f := fun s p => setPodSt (modPod s p stopPod) p .crashed)
    (fun u p => setPodSt_restamp b l (modPod u p stopPod) p .crashed) xs t
  have asserts := fun t => each_restamp b l (f := assertAtCrash) (fun u c => assertAtCrash_restamp b l u c) channels t
  unfold enterCrash
  simp only [before, restamp_parts, restamp_reads, setMode_restamp, abandonHusk_restamp, restamp_updates, seen, rails, margins, cuts,
    pods, stops, asserts, tacts, line]

theorem crash_restamp (causes : List (Nat × Nat)) : crash (restamp b l s) causes = restamp b l (crash s causes) := by
  have later := fun xs t => each_restamp b l (f := addLater) (fun u k => addLater_restamp b l u k) xs t
  have taken := fun xs t => each_restamp b l (f := causeInCrash) (fun u k => causeInCrash_restamp b l u k) xs t
  unfold crash
  split
  · rfl
  · simp only [restamp_parts, enterCrash_restamp, later, taken]
    split <;> rfl

end

end Sys2Proof.Machine
end

section
/-!
SUPPORT. The writes of the store, on a state with another note of the engine's run and another queue (R15, R58, R80).
-/
namespace Sys2Proof.Machine

section
variable (b : Bool) (l : List Instr) (s : State)

theorem stage_restamp (r : Requester) (k v : Nat) : stage (restamp b l s) r k v = restamp b l (stage s r k v) := by
  unfold stage
  simp only [req_restamp, setReq_restamp, occDict, occ_restamp, restamp_ite]

theorem commitWrite_restamp (r : Requester) (v : Nat) : commitWrite (restamp b l s) r v = restamp b l (commitWrite s r v) := by
  unfold commitWrite
  simp only [req_restamp, setReq_restamp, restamp_ite]

theorem rwWrite_restamp (r : Requester) (k v : Nat) : rwWrite (restamp b l s) r k v = restamp b l (rwWrite s r k v) := by
  unfold rwWrite
  split
  · rw [← restamp_ite]
    rfl
  · rfl

theorem holdMask_restamp (k : Nat) : holdMask (restamp b l s) k = restamp b l (holdMask s k) := by
  unfold holdMask
  simp only [← restamp_ite]
  rfl

theorem modeAsk_restamp (r : Requester) (keyed : Bool) (v : Nat) :
    modeAsk (restamp b l s) r keyed v = restamp b l (modeAsk s r keyed v) := by
  unfold modeAsk
  simp only [modReq_restamp, restamp_updates, restamp_ite]

theorem urgentStat_restamp (g : Nat) (src : UrgentSrc) (code : Nat) :
    urgentStat (restamp b l s) g src code = restamp b l (urgentStat s g src code) := by
  unfold urgentStat
  split
  · exact modReq_restamp ..
  · rfl

theorem reorder_restamp (g : Nat) (u : Urgent) :
    reorder (restamp b l s) g u = (restamp b l (reorder s g u).1, (reorder s g u).2) := by
  unfold reorder
  simp only [restamp_reads, restamp_updates, urgentStat_restamp, restamp_ite]
  split
  · split <;> rfl
  · rfl

theorem assign_restamp (g k : Nat) (u : Urgent) : assign (restamp b l s) g k u = restamp b l (assign s g k u) := by
  unfold assign
  simp only [restamp_reads, restamp_updates, occConv, occ_restamp, urgentStat_restamp, restamp_ite]

theorem urgentWrite_restamp (r : Requester) (g e : Nat) : urgentWrite (restamp b l s) r g e = restamp b l (urgentWrite s r g e) := by
  have room : aqAdmits (restamp b l s) = aqAdmits s := rfl
  unfold urgentWrite recognise
  simp only [room, restamp_parts, reorder_restamp, assign_restamp, urgentStat_restamp, occPod, occ_restamp, restamp_ite]

theorem lineCmd_restamp (r : Requester) (up : Bool) : lineCmd (restamp b l s) r up = restamp b l (lineCmd s r up) := by
  have refused : ∀ code, refuseCommand (restamp b l s) r code = restamp b l (refuseCommand s r code) := by
    intro code
    unfold refuseCommand
    simp only [modReq_restamp, restamp_parts, restamp_updates, restamp_ite]
  unfold lineCmd
  simp only [restamp_parts, refused, modReq_restamp, restamp_updates, restamp_ite]

theorem crashCmd_restamp (r : Requester) : crashCmd (restamp b l s) r = restamp b l (crashCmd s r) := by
  have now : crashTick (restamp b l s) = crashTick s := rfl
  unfold crashCmd
  simp only [restamp_parts, now, crash_restamp, restamp_ite]
  split <;> rfl

theorem clearCrash_restamp : clearCrash (restamp b l s) = restamp b l (clearCrash s) := by
  have refusal : clearRefusal (restamp b l s) = clearRefusal s := rfl
  unfold clearCrash
  rw [refusal]
  split <;> rfl

theorem haltEngine_restamp : haltEngine (restamp b l s) = restamp b l (haltEngine s) := rfl

theorem engineCommand_restamp (v : Nat) : engineCommand (restamp b l s) v = restamp b l (engineCommand s v) := by
  have tested : engTested (restamp b l s) = engTested s := rfl
  have stops : willBeStopped (restamp b l s) = willBeStopped s := rfl
  have off : partDisabled (restamp b l s) 2 = partDisabled s 2 := rfl
  unfold engineCommand wantStart
  simp only [tested, stops, off, restamp_parts, haltEngine_restamp, restamp_updates, restamp_ite]

theorem counterClear_restamp (k v : Nat) : counterClear (restamp b l s) k v = restamp b l (counterClear s k v) := by
  unfold counterClear
  simp only [← restamp_ite]
  rfl

theorem outWrite_restamp (r : Requester) (n k v : Nat) : outWrite (restamp b l s) r n k v = restamp b l (outWrite s r n k v) := by
  have edge : untilEdge (restamp b l s) n = restamp b l (untilEdge s n) := by
    unfold untilEdge
    rw [← restamp_ite]
    rfl
  unfold outWrite
  simp only [restamp_reads, edge, restamp_ite, rwWrite_restamp]

theorem lockWrite_restamp (r : Requester) (half : Bool) (v : Nat) :
    lockWrite (restamp b l s) r half v = restamp b l (lockWrite s r half v) := by
  unfold lockWrite
  rw [modReq_restamp, req_restamp, ← restamp_ite, ← restamp_ite]
  rfl

theorem progWrite_restamp (r : Requester) (v : Nat) : progWrite (restamp b l s) r v = restamp b l (progWrite s r v) := by
  unfold progWrite progStep
  simp only [req_restamp, restamp_updates, modReq_restamp]

theorem progClear_restamp (v : Nat) : progClear (restamp b l s) v = restamp b l (progClear s v) := by
  unfold progClear
  simp only [restamp_updates, restamp_ite]

theorem testNow_restamp (v : Nat) : testNow (restamp b l s) v = restamp b l (testNow s v) := by
  unfold testNow
  simp only [restamp_updates, restamp_ite]

theorem imageChunk_restamp (bs : List Byte) : imageChunk (restamp b l s) bs = restamp b l (imageChunk s bs) := by
  unfold imageChunk
  simp only [restamp_parts, restamp_updates, restamp_ite]

theorem violation_restamp : violation (restamp b l s) = restamp b l (violation s) := occ_restamp ..

theorem imageKeyed_restamp (keyed : Bool) (sub v : Nat) :
    imageKeyed (restamp b l s) keyed sub v = restamp b l (imageKeyed s keyed sub v) := by
  unfold imageKeyed
  simp only [restamp_parts, violation_restamp, restamp_updates, restamp_ite]

/-- A reset drops the note of the engine's run and leaves the queue. -/
theorem enterReset_restamp (k : Nat) : ∃ b', enterReset (restamp b l s) k = restamp b' l (enterReset s k) := by
  have torn : ∀ t, tornChunk (restamp b l t) = restamp b l (tornChunk t) := by
    intro t
    unfold tornChunk
    simp only [restamp_parts]
    split <;> rfl
  have cut : ∀ t a n, cutWrite (restamp b l t) a n = restamp b l (cutWrite t a n) := fun _ _ _ => rfl
  have slot : ∀ t x, commitSlot (restamp b l t) x = commitSlot t x := fun _ _ => rfl
  have cuts : ∀ t, cutWrites (restamp b l t) = restamp b l (cutWrites t) := by
    intro t
    unfold cutWrites
    simp only [restamp_parts, cut, slot]
    split <;> simp only [restamp_parts, cut, restamp_ite]
  have resets : ∀ t, resetState (restamp b l t) = restamp Now.reset.ran l (resetState t) := fun _ => rfl
  refine ⟨Now.reset.ran, ?_⟩
  unfold enterReset
  rw [← resets, ← cuts, ← torn]
  rfl

theorem imageCommand_restamp (keyed : Bool) (v : Nat) :
    ∃ b', imageCommand (restamp b l s) keyed v = restamp b' l (imageCommand s keyed v) := by
  have hold : inHoldNow (restamp b l s) = inHoldNow s := rfl
  unfold imageCommand
  simp only [restamp_parts, hold]
  split
  · refine ⟨b, ?_⟩
    unfold imageBegin
    simp only [restamp_reads, restamp_parts, restamp_updates, restamp_ite]
  · refine ⟨b, ?_⟩
    unfold imageVerify
    simp only [restamp_parts, restamp_updates, restamp_ite]
  · split
    · exact enterReset_restamp b l s causeImage
    · exact ⟨b, violation_restamp b l s⟩
  · exact ⟨b, rfl⟩
  · exact ⟨b, rfl⟩

/-- A write's effect leaves the queue, and reads neither it nor the note of the engine's run. -/
theorem writeEffect_restamp (r : Requester) (h : KeyState × Bool × Bool) (o : Obj) (f : Field) (idx sub v : Nat) :
    ∃ b', writeEffect (restamp b l s) r h o f idx sub v = restamp b' l (writeEffect s r h o f idx sub v) := by
  unfold writeEffect
  dsimp only
  split
  case h_16 =>
    split
    · exact imageCommand_restamp b l s _ v
    · refine ⟨b, ?_⟩
      simp only [imageKeyed_restamp, imageChunk_restamp, holdMask_restamp, rwWrite_restamp, stage_restamp]
      repeat' split
      all_goals rfl
  all_goals refine ⟨b, ?_⟩
  all_goals
    simp only [holdMask_restamp, rwWrite_restamp, stage_restamp, modeAsk_restamp, commitWrite_restamp, clearCrash_restamp,
      violation_restamp, urgentWrite_restamp, lineCmd_restamp, crashCmd_restamp, engineCommand_restamp, progWrite_restamp,
      progClear_restamp, counterClear_restamp, outWrite_restamp, lockWrite_restamp, testNow_restamp, keyWrite, podAsk, marginAsk,
      marginStat, selectView, modReq_restamp, restamp_parts, restamp_updates, restamp_ite]
    repeat' split
  all_goals rfl

/-- A write of a field does so too. -/
theorem writeField_restamp (r : Requester) (fp : Bool) (idx sub v : Nat) :
    ∃ b', writeField (restamp b l s) r fp idx sub v = restamp b' l (writeField s r fp idx sub v) := by
  have held : heldKey (restamp b l s) r = heldKey s r := by cases r <;> rfl
  have allowed : ∀ t o f, writeAllowed (restamp b l t) r fp o f sub = writeAllowed t r fp o f sub := by
    intro t o f
    cases r <;> rfl
  unfold writeField disarm
  simp only [held, modReq_restamp, allowed]
  split
  · split
    · exact writeEffect_restamp ..
    · exact ⟨b, violation_restamp ..⟩
  · exact ⟨b, violation_restamp ..⟩

end

/-- A write of a field leaves the queue of commands. -/
theorem pending_writeField (s : State) (r : Requester) (fp : Bool) (idx sub v : Nat) :
    (writeField s r fp idx sub v).pending = s.pending := by
  obtain ⟨b, h⟩ := writeField_restamp s.now.ran s.pending s r fp idx sub v
  rw [show restamp s.now.ran s.pending s = s from rfl] at h
  rw [h]
  rfl

/-- It does the same whether the engine has run in the present tick or not. -/
theorem writeField_ran (s : State) (b : Bool) (r : Requester) (fp : Bool) (idx sub v : Nat) :
    unrouted (writeField { s with now := { s.now with ran := b } } r fp idx sub v) = unrouted (writeField s r fp idx sub v) := by
  obtain ⟨b', h⟩ := writeField_restamp b s.pending s r fp idx sub v
  have stamped : unrouted (restamp b' s.pending (writeField s r fp idx sub v)) =
      { unrouted (writeField s r fp idx sub v) with pending := s.pending } := rfl
  refine (congrArg unrouted h).trans (stamped.trans ?_)
  rw [← pending_writeField s r fp idx sub v]
  rfl

end Sys2Proof.Machine
end

section
/-!
SUPPORT. Reads of the store: what word 0 leaves in the shadow (R73, R338), and what a DRD brings into its register (R74, R318, R320).
-/
namespace Sys2Proof.Machine

/-- A counter's SAMPLE is noted for the end of its tick, and nothing else changes (R475). -/
theorem noteSample_eq (s : State) (idx sub : Nat) (place : SamplePlace) : ∃ w, noteSample s idx sub place = { s with now := w } := by
  unfold noteSample
  split
  · split <;> exact ⟨_, rfl⟩
  · exact ⟨_, rfl⟩

@[simp] theorem unrouted_noteSample (s : State) (idx sub : Nat) (place : SamplePlace) :
    unrouted (noteSample s idx sub place) = unrouted s := by
  obtain ⟨w, h⟩ := noteSample_eq s idx sub place
  rw [h]
  rfl

@[simp] theorem unrouted_noteRead (s : State) (r : Requester) (fp : Bool) (idx sub : Nat) (place : SamplePlace) :
    unrouted (noteRead s r fp idx sub place) = unrouted s := by
  unfold noteRead
  repeat' split
  all_goals simp

/-- What a read of word 0 of a field of several words leaves in the shadow. -/
def shadowed (s : State) (r : Requester) (key v n : Nat) : State :=
  modReq s r fun q => { q with shadow := some { key := key, val := v, words := n } }

theorem unrouted_progStep {s t : State} (h : unrouted s = unrouted t) (r : Requester) :
    unrouted (progStep s r) = unrouted (progStep t r) := by
  have step : ∀ u : State, unrouted (progStep u r) = progStep (unrouted u) r := by
    intro u
    cases r <;> rfl
  rw [step, step, h]

/-- A read of a field that the requester may read: its value, and what it leaves (R73, R338). -/
theorem readField_reads {s : State} {r : Requester} {fp : Bool} {idx sub : Nat} {o : Obj} {f : Field} (ho : objOf idx = some o)
    (hf : fieldOf idx sub = some f) (hm : mayRead s r fp o f = true) : (readField s r fp idx sub).2 = fieldValue s r o f idx sub ∧
      unrouted (readField s r fp idx sub).1 = unrouted
        (let t := if 1 < f.words then shadowed s r (keyOf idx sub) (fieldValue s r o f idx sub) f.words else s
         if o = .engProg ∧ sub = 2 then progStep t r else t) := by
  unfold readField
  simp only [ho, hf, hm, Bool.not_true, Bool.false_eq_true, if_false]
  refine ⟨trivial, ?_⟩
  split
  · exact unrouted_progStep (unrouted_noteSample ..) r
  · exact unrouted_noteSample ..

/-- The command of a read of word 0 of a field of several words. -/
theorem presentRead_next {s : State} {r : Requester} {idx sub : Nat} {o : Obj} {f : Field} (ha : mayAccess s r = true)
    (ht : turn s r = true) (ho : objOf idx = some o) (hf : fieldOf idx sub = some f) (hw : 1 < f.words)
    (hm : mayRead (served s r) r (!isHost r && (served s r).eng.field) o f = true) :
    ∃ t, done s (fun s => presentRead s r idx sub) = .next t ∧ unrouted t = { unrouted
      (let t := shadowed (served s r) r (keyOf idx sub) (fieldValue (served s r) r o f idx sub) f.words
       if o = .engProg ∧ sub = 2 then progStep t r else t) with pending := s.pending } := by
  refine ⟨_, rfl, (unrouted_done rfl).trans ?_⟩
  obtain ⟨-, left⟩ := readField_reads ho hf hm
  have word : ¬ f.words ≤ 0 := by omega
  have effect : presentRead s r idx sub =
      (readField (served s r) r (!isHost r && (served s r).eng.field) idx sub).1 := by
    unfold presentRead
    rw [access_turn ha ht (.inr (le_refl 1))]
    simp [accessEffect, readCore, ho, hf, hm, word]
  rw [effect, left, if_pos hw]

/-! ## DRD -/

/-- What a read of one word answers, and what it leaves, of a field that the requester may read: word 0 is read from the field, and a
later one from the shadow of that field (R73, R74). -/
theorem readCore_first {s : State} {r : Requester} {fp : Bool} {idx sub : Nat} {o : Obj} {f : Field} (ho : objOf idx = some o)
    (hf : fieldOf idx sub = some f) (hm : mayRead s r fp o f = true) (hw : 0 < f.words) :
    (readCore s r fp idx sub 0).2 = fieldValue s r o f idx sub / 65536 ^ (f.words - 1) % 65536 ∧
      (readCore s r fp idx sub 0).1 = (readField s r fp idx sub).1 := by
  obtain ⟨value, -⟩ := readField_reads ho hf hm
  have word : ¬ f.words ≤ 0 := by omega
  simp [readCore, ho, hf, hm, word, wordOf, value]

theorem readCore_later {s : State} {r : Requester} {fp : Bool} {idx sub k : Nat} {o : Obj} {f : Field} {h : Shadow}
    (ho : objOf idx = some o) (hf : fieldOf idx sub = some f) (hm : mayRead s r fp o f = true) (hk : k < f.words) (h0 : 0 < k)
    (hs : (req s r).shadow = some h) (hkey : h.key = keyOf idx sub) :
    readCore s r fp idx sub k = (s, h.val / 65536 ^ (h.words - 1 - k) % 65536) := by
  have word : ¬ f.words ≤ k := by omega
  have later : k ≠ 0 := by omega
  simp [readCore, ho, hf, hm, word, later, hs, hkey, wordOf]

/-- The engine after a DRD that has read a word: the word in rd, with Z and N (R318). -/
def drdRegs (rd : Fin 16) (v : Nat) (e : Eng) : Eng :=
  setReg (withFlags e (v == 0) (decide (32768 ≤ v)) e.c e.v) rd (BitVec.ofNat 16 v)

theorem result_word (e : Eng) (rd : Fin 16) {v : Nat} (hv : v < 65536) : result e rd (BitVec.ofNat 16 v) = drdRegs rd v e := by
  have zero : decide (BitVec.ofNat 16 v = 0) = (v == 0) := by
    have iff : BitVec.ofNat 16 v = 0 ↔ v = 0 := by
      rw [← BitVec.toNat_inj, BitVec.toNat_ofNat, Nat.mod_eq_of_lt hv]
      rfl
    rw [decide_eq_decide.mpr iff]
    rfl
  have sign : (BitVec.ofNat 16 v).msb = decide (32768 ≤ v) := by
    rw [BitVec.msb_eq_decide, BitVec.toNat_ofNat, Nat.mod_eq_of_lt hv]
  unfold result setZN drdRegs withFlags
  rw [zero, sign]

theorem unrouted_drdEnd {s u : State} (h : unrouted s = unrouted u) (rd : Fin 16) {v : Nat} (hv : v < 65536) :
    unrouted (drdEnd rd v s) = unrouted { u with eng := { drdRegs rd v u.eng with pc := u.eng.pc + 1 } } := by
  have ends : unrouted (drdEnd rd v s) =
      { unrouted s with eng := { drdRegs rd v (unrouted s).eng with pc := (unrouted s).eng.pc + 1 } } := by
    unfold drdEnd next
    rw [unrouted_occEng, unrouted_goto, result_word _ rd hv]
    rfl
  rw [ends, h]
  rfl

/-- A DRD that the engine can execute and that finds the port free reads its word and ends in the same tick. -/
theorem drd_next {s : State} (h : canExecute s) (hp : portReady s = true) (rd ra : Fin 16) (imm : Word) :
    let x := readCore (served (idle s) .eng) .eng s.eng.field imm.toNat ((reg s.eng ra).toNat / 256) ((reg s.eng ra).toNat % 256)
    x.2 < 65536 → ∀ u : State, u.pending = s.pending → unrouted x.1 = unrouted u →
      ∃ t, exec (.drd rd ra imm) s = .next t ∧
        unrouted t = unrouted { u with eng := { drdRegs rd x.2 u.eng with pc := u.eng.pc + 1 } } := by
  intro x hx u hu hleft
  have runs : portInstr s (.drd rd ra imm) (drd rd ra imm) = drd rd ra imm (idle s) := by
    rw [portInstr, if_pos ⟨h.2.1, hp⟩, instrEffect_of_canExecute h]
  refine done_next s _ (fun s => portInstr s (.drd rd ra imm) (drd rd ra imm)) ?_ hu
  dsimp only
  rw [runs]
  have same : (drdRead (idle s) ra imm) = x := rfl
  unfold drd
  rw [same]
  dsimp only
  refine unrouted_drdEnd (Eq.trans ?_ hleft) rd hx
  unfold drdNote
  dsimp only
  split
  · exact unrouted_noteRead ..
  · rfl

end Sys2Proof.Machine
end

section
/-!
SUPPORT. The engine's writes by DWR (R77, R320), and the words of a write of several (R80).
-/
namespace Sys2Proof.Machine

/-! ## DWR -/

/-- A DWR that the engine can execute and that finds the port free has its effect and ends in the same tick. -/
theorem dwr_runs {s : State} (h : canExecute s) (hp : portReady s = true) (rd ra : Fin 16) (imm : Word) :
    portInstr s (.dwr rd ra imm) (dwr rd ra imm) = occEng (next (writeCore (served (idle s) .eng) .eng s.eng.field imm.toNat
      ((reg s.eng ra).toNat / 256) ((reg s.eng ra).toNat % 256) (reg s.eng rd).toNat) id) 3 1 := by
  rw [portInstr, if_pos ⟨h.2.1, hp⟩, instrEffect_of_canExecute h]
  obtain ⟨c, w, hs⟩ := served_eq (idle s) .eng
  unfold dwr dwrEnd
  rw [hs]
  rfl

/-- What an instruction that completes in sequence leaves of the state behind its effect. -/
theorem unrouted_seq {s u : State} (h : unrouted s = unrouted u) : unrouted (occEng (next s id) 3 1) =
    unrouted { u with eng := { u.eng with pc := u.eng.pc + 1 } } := by
  have seq : unrouted (occEng (next s id) 3 1) =
      { unrouted s with eng := { (unrouted s).eng with pc := (unrouted s).eng.pc + 1 } } := by
    unfold next
    rw [unrouted_occEng, unrouted_goto]
    rfl
  rw [seq, h]
  rfl

/-- The service of the engine's word does not look at whether the engine has run in the tick. -/
theorem served_ran (s : State) (b : Bool) :
    served { s with now := { s.now with ran := b } } .eng = { served s .eng with now := { (served s .eng).now with ran := b } } := by
  have count := occ_restamp b s.pending s 29 1 3 1
  obtain ⟨c, w, hc⟩ := occ_eq s 29 1 3 1
  rw [hc] at count
  unfold served
  simp only [occDict, hc, show occ { s with now := { s.now with ran := b } } 29 1 3 1 =
    restamp b s.pending { s with ctrs := c, now := w } from count]
  rfl

/-- A write of one word to a field that counts one is the write of the field. -/
theorem writeCore_one {s : State} {r : Requester} {fp : Bool} {idx sub v : Nat} (hn : widthNow s idx sub = 1) :
    writeCore s r fp idx sub 0 v = writeField s r fp idx sub v := if_pos (.inl ⟨hn, rfl⟩)

/-- The command of the engine's write of a field of one word. -/
theorem present_engine {s : State} {idx sub v : Nat} (hrows : s.eng.rows = []) (ha : mayAccess s .eng = true)
    (hp : portReady s = true) (hn : widthNow s idx sub = 1) (hv : v < 65536) :
    present s .eng idx sub v = writeField (served s .eng) .eng s.eng.field idx sub v := by
  have turns : turn s .eng = true := by simp [turn, isHost, hp, hrows]
  have small : v % 65536 ^ 1 = v := by omega
  have field : (served s .eng).eng.field = s.eng.field := by
    obtain ⟨c, w, hs⟩ := served_eq s .eng
    rw [hs]
  unfold present
  rw [hn, access_turn ha turns (.inr (le_refl 1)), small]
  unfold accessEffect
  rw [show (!isHost Requester.eng) = true from rfl, Bool.true_and, field]

/-- DWR of a field of one word is the engine's write of that field. -/
theorem dwr_write {s : State} (h : canExecute s) (ha : mayAccess s .eng = true) (hp : portReady s = true) {rd ra : Fin 16}
    {imm : Word} (hk : (reg s.eng ra).toNat % 256 = 0) (hn : widthNow s imm.toNat ((reg s.eng ra).toNat / 256) = 1) : ∃ t u,
    exec (.dictionaryWrite .eng imm.toNat ((reg s.eng ra).toNat / 256) (reg s.eng rd).toNat) (engineAt s s.eng.pc id) = .next u ∧
    exec (.dwr rd ra imm) s = .next t ∧ unrouted t = unrouted { u with eng := { u.eng with pc := u.eng.pc + 1 } } := by
  have runs := dwr_runs h hp rd ra imm
  have at' : idle s = { engineAt s s.eng.pc id with now := { (engineAt s s.eng.pc id).now with ran := true } } := rfl
  rw [hk, writeCore_one (by rw [widthNow_served]; exact hn), at', served_ran] at runs
  have written := present_engine (s := engineAt s s.eng.pc id) (idx := imm.toNat) (sub := (reg s.eng ra).toNat / 256) h.2.1 ha hp hn
    (reg s.eng rd).isLt
  have queue := pending_writeField (served (engineAt s s.eng.pc id) .eng) .eng s.eng.field imm.toNat
    ((reg s.eng ra).toNat / 256) (reg s.eng rd).toNat
  have ran := writeField_ran (served (engineAt s s.eng.pc id) .eng) true .eng s.eng.field imm.toNat
    ((reg s.eng ra).toNat / 256) (reg s.eng rd).toNat
  have served_pending : (served (engineAt s s.eng.pc id) .eng).pending = s.pending := by
    obtain ⟨c, w, hs⟩ := served_eq (engineAt s s.eng.pc id) .eng
    rw [hs]
    rfl
  have field : (engineAt s s.eng.pc id).eng.field = s.eng.field := rfl
  rw [field] at written
  generalize writeField (served (engineAt s s.eng.pc id) .eng) .eng s.eng.field imm.toNat ((reg s.eng ra).toNat / 256)
    (reg s.eng rd).toNat = W at written queue ran
  obtain ⟨u, hu, hleft⟩ := done_next (engineAt s s.eng.pc id) W
    (fun x => present x .eng imm.toNat ((reg s.eng ra).toNat / 256) (reg s.eng rd).toNat) (congrArg unrouted written)
    (queue.trans served_pending)
  obtain ⟨t, ht, hend⟩ := done_next s { W with eng := { W.eng with pc := W.eng.pc + 1 } }
    (fun x => portInstr x (.dwr rd ra imm) (dwr rd ra imm)) ((congrArg unrouted runs).trans (unrouted_seq ran))
    (queue.trans served_pending)
  refine ⟨t, u, hu, ht, hend.trans ?_⟩
  have seq : ∀ x : State, unrouted { x with eng := { x.eng with pc := x.eng.pc + 1 } } =
      { unrouted x with eng := { (unrouted x).eng with pc := (unrouted x).eng.pc + 1 } } := fun _ => rfl
  rw [seq, seq, hleft]

/-- DWR of word 0 of a wider field opens a gather (R77). -/
theorem dwr_gather {s : State} (h : canExecute s) (hp : portReady s = true) {rd ra : Fin 16} {imm : Word}
    (hk : (reg s.eng ra).toNat % 256 = 0) (hn : 1 < widthNow s imm.toNat ((reg s.eng ra).toNat / 256))
    (hkey : ¬ (imm.toNat = 0x1F00 ∧ (reg s.eng ra).toNat / 256 = 10)) : ∃ t, exec (.dwr rd ra imm) s = .next t ∧
    unrouted t = unrouted (engineAt (modReq (afterWrite s .eng) .eng fun q => { q with
      gather := some { key := imm.toNat * 256 + (reg s.eng ra).toNat / 256, words := [(reg s.eng rd).toNat] } }) (s.eng.pc + 1) id) := by
  have runs := dwr_runs h hp rd ra imm
  generalize hsub : (reg s.eng ra).toNat / 256 = sub at hn hkey runs ⊢
  have lt : sub < 256 := by
    have := (reg s.eng ra).isLt
    omega
  have field : (fieldOf imm.toNat sub).isNone = false := by
    cases hf : fieldOf imm.toNat sub with
    | some f => rfl
    | none =>
      have one : widthNow s imm.toNat sub = 1 := by
        unfold widthNow widthOf
        rw [hf]
        split
        · split <;> rfl
        · rfl
      omega
  have wide : ¬ (widthNow (served (idle s) .eng) imm.toNat sub = 1 ∧ 0 = 0 ∨ (fieldOf imm.toNat sub).isNone = true) := by
    rw [field, widthNow_served]
    have same : widthNow (idle s) imm.toNat sub = widthNow s imm.toNat sub := rfl
    rintro (⟨one, -⟩ | no)
    · omega
    · cases no
  have other : keyOf imm.toNat sub ≠ keyOf 0x1F00 10 := by
    unfold keyOf
    omega
  rw [hk] at runs
  unfold writeCore at runs
  dsimp only at runs
  rw [if_neg wide, if_pos rfl] at runs
  unfold gatherWord at runs
  rw [if_neg other] at runs
  obtain ⟨c, w, hs⟩ := served_eq (idle s) .eng
  rw [hs] at runs
  exact done_next s _ (fun x => portInstr x (.dwr rd ra imm) (dwr rd ra imm)) ((congrArg unrouted runs).trans (unrouted_seq rfl)) rfl

end Sys2Proof.Machine
end

section
/-!
SUPPORT. The words of a write of several: one a tick, the first as the write comes to the port, the others as ticks begin (R80).
-/
namespace Sys2Proof.Machine

/-- A write of several words that the port takes leaves a count and the words that wait (R80). -/
theorem present_more {s : State} {r : Requester} {idx sub v : Nat} (ha : mayAccess s r = true) (ht : turn s r = true)
    (hn : 1 < widthNow s idx sub) (hr : r ≠ .twi) :
    let waits : Access :=
      { req := r, op := .write idx sub (v % 65536 ^ widthNow s idx sub), words := widthNow s idx sub - 1 }
    unrouted (present s r idx sub v) = unrouted (if isHost r then { s with hostQ := [waits] }
      else { s with eng := { s.eng with rows := [.access waits] } }) := by
  unfold present access
  dsimp only
  generalize widthNow s idx sub = n at hn ⊢
  rw [if_neg hr, if_pos ha]
  unfold turn at ht
  cases host : isHost r
  · rw [host] at ht
    simp only [Bool.false_eq_true, if_false, Bool.and_eq_true, List.isEmpty_iff] at ht ⊢
    obtain ⟨ready, rows⟩ := ht
    unfold engAccess
    rw [if_pos ⟨rows, ready⟩, portWord_more ha hn]
    obtain ⟨c, w, hs⟩ := served_eq s r
    simp only [hs]
    rw [modEng, rows]
    rfl
  · rw [host] at ht
    simp only [if_true, Bool.and_eq_true, List.isEmpty_iff] at ht ⊢
    obtain ⟨ready, empty⟩ := ht
    have free := ready
    simp only [portReady, portFree, Bool.and_eq_true, Bool.not_eq_true'] at free
    obtain ⟨⟨⟨-, eng⟩, fired⟩, -⟩ := free
    unfold hostAccess
    simp only [empty, eng, fired, Bool.or_self, Bool.false_eq_true, if_false, if_true, List.nil_append]
    unfold hostWord
    dsimp only
    rw [if_pos (show portReady { s with hostQ := [_] } = true from ready), portWord_more (s := { s with hostQ := [] })
      (a := { req := r, op := .write idx sub (v % 65536 ^ n), words := n }) ha hn]
    obtain ⟨c, w, hs⟩ := served_eq { s with hostQ := [] } r
    dsimp only
    rw [hs]
    rfl

/-! ## The tick of a device that is at rest but for a waiting access -/

theorem tactDue_still {s : State} (h : still { s with hostQ := [] } = true) : tactDue s = false := by
  simp only [still, Bool.and_eq_true, Bool.or_eq_true] at h
  obtain ⟨⟨⟨⟨⟨tested | ⟨⟨⟨-, none⟩, -⟩, -⟩, -⟩, -⟩, -⟩, -⟩, -⟩ := h
  · have : engTested s = true := tested
    simp [tactDue, this]
  · have : s.eng.tacts = [] := List.isEmpty_iff.mp none
    simp [tactDue, this, takeDue]

theorem engineShare_still {s : State} (h : still { s with hostQ := [] } = true) : engineShare s = s := by
  simp only [still, Bool.and_eq_true, Bool.or_eq_true, decide_eq_true_eq] at h
  obtain ⟨⟨⟨⟨⟨tested | ⟨⟨⟨stands, -⟩, stall⟩, rows⟩, -⟩, -⟩, -⟩, -⟩, -⟩ := h
  · have : engTested s = true := tested
    simp [engineShare, this]
  · have none : s.eng.rows = [] := List.isEmpty_iff.mp rows
    have still : s.eng.stall = 0 := stall
    unfold engineShare
    split
    · rfl
    · obtain st | st := stands <;> simp [none, still, (st : s.eng.st = _)]

/-- Such a tick passes with the next word of the access (R80). -/
theorem unrouted_passTick_waits {s : State} (hr : running s = true) (hs : still { s with hostQ := [] } = true)
    (ha : accessRests s) (hl : lineRests s) (h15 : s.clk.time % 512 ≠ 15) :
    unrouted (passTick s) = unrouted (hostWord (newTick s (s.clk.time + 1))) := by
  have share := engineShare_still hs
  have tact := tactDue_still hs
  simp only [still, Bool.and_eq_true, Bool.not_eq_true', Option.isNone_iff_eq_none] at hs
  obtain ⟨⟨⟨⟨⟨-, job⟩, -⟩, lock⟩, twin⟩, -⟩ := hs
  obtain ⟨-, -, -, -, -, cycle⟩ := id hl
  exact unrouted_passTick (endTick_alike hr twin ((tickWork_engine hl tact).trans share) twin) rfl ha.1
    { cycle := cycle, lock := lock, access := fun h => absurd h h15, job := job } hr

/-- The port is ready as such a tick begins. -/
theorem portReady_newTick {s : State} (hs : s.now.samples = []) (h : servePort s = none ∨ s.clk.time % 512 ≠ 31) :
    portReady (newTick s (s.clk.time + 1)) = true := by
  have left : unrouted (newTick s (s.clk.time + 1)) = unrouted { s with clk := { s.clk with time := s.clk.time + 1 } } :=
    unrouted_newTick s _ hs
  have blind : ∀ x : State, servePort (unrouted x) = servePort x := by
    intro x
    unfold servePort
    congr 1
    funext p
    cases p <;> rfl
  have serve : servePort (newTick s (s.clk.time + 1)) = servePort s := (of_unrouted servePort blind left).trans rfl
  have time : (newTick s (s.clk.time + 1)).clk.time = s.clk.time + 1 := of_unrouted (fun s => s.clk.time) (fun _ => rfl) left
  have free : portFree (newTick s (s.clk.time + 1)) = true := rfl
  rw [portReady, free, Bool.true_and, Bool.not_eq_true']
  unfold odpWaits
  obtain h | h := h
  · rw [serve, h]
    exact Bool.and_false _
  · refine (Bool.and_eq_false_iff).mpr (.inl (decide_eq_false fun he => ?_))
    unfold odpInstant at he
    split at he
    · have := Option.some.inj he
      simp only [inFrame, frame, frameOf, time] at this
      omega
    · cases he

/-- A tick in which the first of the waiting accesses takes a word: the words that remain wait, and the last one has the write's
effect (R80). -/
theorem step_waits {s : State} {r : Requester} {idx sub v k : Nat} {rest : List Access} (hm : mayAccess s r = true)
    (hh : isHost r = true) (hq : s.hostQ = { req := r, op := .write idx sub v, words := k } :: rest) (hp : s.pending = [])
    (hr : running s = true) (hlast : s.clk.time % 512 ≠ 511) (hs : still { s with hostQ := [] } = true) (ha : accessRests s)
    (hl : lineRests s) (h31 : servePort s = none ∨ s.clk.time % 512 ≠ 31) (h15 : s.clk.time % 512 ≠ 15) :
    let u := newTick s (s.clk.time + 1)
    ∃ t, step s = .next t ∧
      (1 < k → unrouted t = unrouted { u with hostQ := { req := r, op := .write idx sub v, words := k - 1 } :: rest }) ∧
      (k = 1 → unrouted t = unrouted (writeField (served { u with hostQ := rest } r) r false idx sub v)) := by
  obtain ⟨t, ht, left⟩ := step_tick hp hr hlast
  refine ⟨t, ht, ?_⟩
  have ready := portReady_newTick ha.1 h31
  have tick : unrouted (newTick s (s.clk.time + 1)) = unrouted { s with clk := { s.clk with time := s.clk.time + 1 } } :=
    unrouted_newTick s _ ha.1
  rw [unrouted_passTick_waits hr hs ha hl h15] at left
  have queue : (newTick s (s.clk.time + 1)).hostQ = _ := (of_unrouted (fun s => s.hostQ) (fun _ => rfl) tick).trans hq
  have access : mayAccess (newTick s (s.clk.time + 1)) r = true := (of_unrouted (mayAccess · r) (fun _ => rfl) tick).trans hm
  have pending : (newTick s (s.clk.time + 1)).pending = [] := (of_unrouted (fun s => s.pending) (fun _ => rfl) tick).trans hp
  generalize newTick s (s.clk.time + 1) = u at left ready queue access pending
  unfold hostWord at left
  rw [queue] at left
  dsimp only at left
  rw [if_pos ready] at left
  have served_pending : (served { u with hostQ := rest } r).pending = [] := by
    obtain ⟨c, w, hs⟩ := served_eq { u with hostQ := rest } r
    rw [hs]
    exact pending
  refine ⟨fun hk => ?_, fun hk => ?_⟩
  · rw [portWord_more (s := { u with hostQ := rest }) (a := { req := r, op := .write idx sub v, words := k }) access hk] at left
    obtain ⟨c, w, hs⟩ := served_eq { u with hostQ := rest } r
    rw [hs] at left
    rw [left, ← pending]
    rfl
  · subst hk
    rw [portWord_last (s := { u with hostQ := rest }) (a := { req := r, op := .write idx sub v, words := 1 }) access (le_refl 1)] at left
    unfold accessEffect at left
    dsimp only at left
    rw [hh, Bool.not_true, Bool.false_and] at left
    have kept := pending_writeField (served { u with hostQ := rest } r) r false idx sub v
    rw [served_pending] at kept
    rw [left, ← kept]
    rfl

end Sys2Proof.Machine
end

section
namespace Sys2Proof.Machine

/-! ## Reads and the engine's accesses -/

/-- A read of word 0 of a field of several words, by the object it reads (R73, R338). -/
theorem word0_next {s : State} {r : Requester} {idx sub : Nat} {o : Obj} {f : Field} (ha : mayAccess s r = true)
    (ht : turn s r = true) (ho : objOf idx = some o) (hf : fieldOf idx sub = some f) (hw : 1 < f.words)
    (hm : mayRead (served s r) r (!isHost r && (served s r).eng.field) o f = true) :
    let shadow : Shadow := { key := idx * 256 + sub, val := fieldValue (served s r) r o f idx sub, words := f.words }
    (o ≠ .engProg → ∃ t, exec (.word0ShadowRead r idx sub) s = .next t ∧ unrouted t = unrouted
      { modReq (served s r) r (fun q => { q with shadow := some shadow }) with pending := s.pending }) ∧
    (idx = 0x1801 → sub = 2 → ∃ t, exec (.engineProgDataRead r) s = .next t ∧ unrouted t = unrouted
      { modReq (served s r) r (fun q => { q with
          shadow := some shadow
          progAddr := if q.progAddr = 0x1FFF then 0x1000 else q.progAddr + 1 }) with pending := s.pending }) := by
  obtain ⟨t, ht', left⟩ := presentRead_next ha ht ho hf hw hm
  refine ⟨fun hne => ?_, fun hi hs => ?_⟩
  · rw [if_neg fun h => hne h.1] at left
    exact ⟨t, ht', left⟩
  · subst hi hs
    have prog : o = .engProg := Option.some.inj (ho.symm.trans rfl)
    rw [if_pos ⟨prog, rfl⟩] at left
    refine ⟨t, ht', left.trans ?_⟩
    cases r <;> rfl

/-- What a DRD of a word gives (R74, R320). -/
theorem drd_reads {s : State} (h : canExecute s) (hp : portReady s = true) {rd ra : Fin 16} {imm : Word} {sub k : Nat}
    (hsub : (reg s.eng ra).toNat / 256 = sub) (hk : (reg s.eng ra).toNat % 256 = k) (v : Nat) (u : State)
    (hu : u.pending = s.pending) (hword : (readCore (served (idle s) .eng) .eng s.eng.field imm.toNat sub k).2 = v % 65536)
    (hleft : unrouted (readCore (served (idle s) .eng) .eng s.eng.field imm.toNat sub k).1 = unrouted (engineAt u s.eng.pc id)) :
    ∃ t, exec (.drd rd ra imm) s = .next t ∧ unrouted t = unrouted (engineAt u (s.eng.pc + 1) fun e =>
      setReg (withFlags e (v % 65536 == 0) (decide (32768 ≤ v % 65536)) e.c e.v) rd (BitVec.ofNat 16 v)) := by
  have reads := drd_next h hp rd ra imm
  rw [hsub, hk] at reads
  obtain ⟨t, ht, hend⟩ := reads (by rw [hword]; omega) _ (show (engineAt u s.eng.pc id).pending = s.pending from hu) hleft
  refine ⟨t, ht, hend.trans ?_⟩
  have small : BitVec.ofNat 16 (v % 65536) = BitVec.ofNat 16 v := by
    apply BitVec.eq_of_toNat_eq
    simp
  rw [hword]
  unfold drdRegs
  rw [small]
  rfl

theorem unrouted_shadowed {s t : State} (h : unrouted s = unrouted t) (key v n : Nat) :
    unrouted (shadowed s .eng key v n) = unrouted (shadowed t .eng key v n) := by
  have step : ∀ u : State, unrouted (shadowed u .eng key v n) = shadowed (unrouted u) .eng key v n := fun _ => rfl
  rw [step, step, h]

/-- An instruction that finds the port taken, or another one before it, waits for its turn (R80). -/
theorem done_queues {s : State} {i : Instr} {f : State → State} (h : f s = queueRow s (.instr i)) : ∃ t, done s f = .next t ∧
    unrouted t = unrouted { s with eng := { s.eng with rows := s.eng.rows ++ [.instr i] } } :=
  done_next s _ f (congrArg unrouted h) rfl

theorem portInstr_taken {s : State} (he : executing s = true) (hp : portReady s = false) (i : Instr) (op : State → State) :
    portInstr s i op = queueRow s (.instr i) := by
  rw [portInstr, hp, if_neg (by simp), if_pos he]

/-- Settles O21: the accesses of requesters and of the engine by the words that the port serves; a write does not look at whether
the engine has run in the tick (`writeField_ran`). -/
theorem readsAndEngineAccesses : Obligations.ReadsAndEngineAccesses := by
  unfold Obligations.ReadsAndEngineAccesses
  refine ⟨?_, ?_, ?_, ?_, ?_⟩
  · intro s r idx sub o f w ha ht ho hf hw hm
    exact word0_next ha ht ho hf hw hm
  · intro s rd ra imm o f h hp sub k idx ho hf hm hlt hprog reads counted value
    have may : mayRead (served (idle s) .eng) .eng s.eng.field o f = true := by
      obtain ⟨c, w, hs⟩ := served_eq (idle s) .eng
      rw [hs]
      exact hm
    have unserved : unrouted (served (idle s) .eng) = unrouted (engineAt s s.eng.pc id) := (unrouted_served _ _).trans rfl
    have word := fun (h0 : 0 < f.words) => readCore_first (s := served (idle s) .eng) ho hf may h0
    obtain ⟨-, field⟩ := readField_reads (s := served (idle s) .eng) ho hf may
    rw [if_neg fun hc => hprog hc.1] at field
    refine ⟨fun h1 => ?_, fun hk h1 => ?_, fun h0 x hs hkey => ?_⟩
    · have hk : k = 0 := by omega
      obtain ⟨gives, leaves⟩ := word (by omega)
      rw [if_neg (by omega)] at field
      rw [h1, Nat.sub_self, pow_zero, Nat.div_one] at gives
      exact drd_reads h hp rfl hk value s rfl gives ((congrArg unrouted leaves).trans (field.trans unserved))
    · obtain ⟨gives, leaves⟩ := word (by omega)
      rw [if_pos h1] at field
      exact drd_reads h hp rfl hk _ _ rfl gives
        ((congrArg unrouted leaves).trans (field.trans (unrouted_shadowed unserved _ _ _)))
    · have shadow : (req (served (idle s) .eng) .eng).shadow = some x := by
        obtain ⟨c, w, hc⟩ := served_eq (idle s) .eng
        rw [hc]
        exact hs
      have later := readCore_later (s := served (idle s) .eng) ho hf may hlt h0 shadow hkey
      exact drd_reads h hp rfl rfl _ s rfl (congrArg (·.2) later) ((congrArg (unrouted ·.1) later).trans unserved)
  · intro s rd ra imm h ha hp sub k v
    exact ⟨fun hk hn => dwr_write h ha hp hk hn, fun hk hn hkey => dwr_gather h hp hk hn hkey⟩
  · intro s r idx sub v x
    refine ⟨rfl, rfl, rfl, fun hm => ⟨fun ht hn hr => ?_, ?_⟩⟩
    · exact done_next s _ (fun s => present s r idx sub v) (present_more hm ht hn hr) (by split <;> rfl)
    · intro k rest hh hq hp hr hlast hs ha hl u h31 h15
      exact step_waits hm hh hq hp hr hlast hs ha hl h31 h15
  · intro s rd ra imm he
    refine ⟨?_, fun hrows => ?_⟩
    · rintro hp i (rfl | rfl)
      · exact done_queues (portInstr_taken he hp _ _)
      · exact done_queues (portInstr_taken he hp _ _)
    · exact done_queues ((if_neg hrows).trans (if_pos he))

end Sys2Proof.Machine
end

section
/-!
SUPPORT. The instructions of a program: what they leave outside the engine, and that the program does what the commands do (R318,
R335).
-/
namespace Sys2Proof.Machine

/-! ## What an instruction leaves outside the engine -/

/-- Everything outside the engine and its requester's registers, but for events and counts, with the second copy and the reads of
the tick. -/
def beyondEngine (s : State) := ({ unrouted s with eng := Eng.reset, reqE := ReqState.reset }, s.twin, s.now.samples)

@[simp] theorem beyondEngine_modEng (s : State) (f : Eng → Eng) : beyondEngine (modEng s f) = beyondEngine s := rfl

@[simp] theorem beyondEngine_raise (s : State) (e : Nat) : beyondEngine (raise s e) = beyondEngine s := rfl

@[simp] theorem beyondEngine_stopEngine (s : State) (st : EngSt) : beyondEngine (stopEngine s st) = beyondEngine s := rfl

@[simp] theorem beyondEngine_haltEngine (s : State) : beyondEngine (haltEngine s) = beyondEngine s := by
  rw [haltEngine, beyondEngine_modEng, beyondEngine_stopEngine]

@[simp] theorem beyondEngine_discardFieldTacts (s : State) : beyondEngine (discardFieldTacts s) = beyondEngine s := rfl

@[simp] theorem beyondEngine_occ (s : State) (lo n code times : Nat) : beyondEngine (occ s lo n code times) = beyondEngine s := by
  have samples := samples_occ s lo n code times
  obtain ⟨c, w, h⟩ := occ_eq s lo n code times
  rw [h] at samples ⊢
  unfold beyondEngine
  rw [samples]
  rfl

@[simp] theorem beyondEngine_goto (s : State) (a : PAddr) (f : Eng → Eng) : beyondEngine (goto s a f) = beyondEngine s := by
  simp [goto]

@[simp] theorem beyondEngine_next (s : State) (f : Eng → Eng) : beyondEngine (next s f) = beyondEngine s := beyondEngine_goto ..

theorem beyondEngine_ite (c : Prop) [Decidable c] (a b : State) :
    beyondEngine (if c then a else b) = if c then beyondEngine a else beyondEngine b := apply_ite beyondEngine c a b

@[simp] theorem beyondEngine_trap (s : State) (cause : Nat) : beyondEngine (trap s cause) = beyondEngine s := by
  simp [trap, beyondEngine_ite]

@[simp] theorem beyondEngine_jump (s : State) (a : PAddr) (f : Eng → Eng) : beyondEngine (jump s a f) = beyondEngine s := by
  simp [jump, beyondEngine_ite]

theorem beyondEngine_intOnly {s : State} {op : State → State} (h : beyondEngine (op s) = beyondEngine s) :
    beyondEngine (intOnly s op) = beyondEngine s := by
  simp [intOnly, beyondEngine_ite, h]

@[simp] theorem beyondEngine_takeIrq (s : State) : beyondEngine (takeIrq s) = beyondEngine s := by
  simp [takeIrq, beyondEngine_ite]

/-- One instruction leaves what its operation leaves. -/
theorem beyondEngine_instrEffect {op : State → State} (h : ∀ u, beyondEngine (op u) = beyondEngine u) (s : State) :
    beyondEngine (instrEffect s op) = beyondEngine s := by
  have recognised : beyondEngine (recogniseDue s) = beyondEngine s := by
    unfold recogniseDue
    split <;> rfl
  have skids : ∀ u v : State, beyondEngine (skidStep u v) = beyondEngine v := by
    intro u v
    unfold skidStep
    split
    · split <;> simp
    · rfl
  unfold instrEffect
  split
  · dsimp only
    rw [skids]
    split
    · exact (h _).trans recognised
    · exact (beyondEngine_trap _ _).trans recognised
  · rfl

theorem twin_of_beyondEngine {s t : State} (h : beyondEngine t = beyondEngine s) : t.twin = s.twin := congrArg (·.2.1) h

theorem samples_of_beyondEngine {s t : State} (h : beyondEngine t = beyondEngine s) : t.now.samples = s.now.samples :=
  congrArg (·.2.2) h

/-- A reading that sees neither the engine, nor what events and counts change, is the same. -/
theorem of_beyondEngine {β : Type} (p : State → β) (hp : ∀ s, p { unrouted s with eng := Eng.reset, reqE := ReqState.reset } = p s)
    {s t : State} (h : beyondEngine t = beyondEngine s) : p t = p s := by
  rw [← hp t, ← hp s]
  exact congrArg p (congrArg (·.1) h)

/-- The command of an instruction, in a device whose copies agree. -/
theorem beyondEngine_instr {s : State} (ht : s.twin = none) (i : Instr) {op : State → State}
    (h : ∀ u, beyondEngine (op u) = beyondEngine u) : ∃ t, instr s i op = .next t ∧ beyondEngine t = beyondEngine s := by
  refine ⟨_, rfl, ?_⟩
  rw [bothCopies_alike s _ ht]
  have effect : beyondEngine (if s.eng.rows = [] then instrEffect s op else if executing s then queueRow s (.instr i) else s) =
      beyondEngine s := by
    split
    · exact beyondEngine_instrEffect h s
    · split <;> rfl
  have pending : (if s.eng.rows = [] then instrEffect s op else if executing s then queueRow s (.instr i) else s).pending =
    s.pending := of_beyondEngine (fun s => s.pending) (fun _ => rfl) effect
  generalize (if s.eng.rows = [] then instrEffect s op else if executing s then queueRow s (.instr i) else s) = u at effect pending
  refine Eq.trans ?_ effect
  have samples := samples_flush u
  have twin := twin_flush u
  have left := unrouted_flush u
  unfold beyondEngine
  refine Prod.ext ?_ (Prod.ext twin samples)
  show ({ unrouted { flush u with causes := [], pending := s.pending } with eng := Eng.reset, reqE := ReqState.reset } : State) = _
  rw [unrouted_withPending, left, ← pending]
  rfl

/-! ## The instructions that a program word spells -/

/-- The engine's instructions, ILLEGAL among them. -/
def programInstr (i : Instr) : Bool :=
  match i with
  | .illegal => true
  | i => (engineWord i).isSome

/-- Every word of the program memory spells one of them (R317 to R319). -/
theorem programInstr_instrOf (w : InstrWord) : programInstr (instrOf w) = true := by
  unfold instrOf alone rr ri
  beta_reduce
  repeat' split
  all_goals rfl

/-- The program runs an instruction without a store access as its command does, and it leaves everything outside the engine. -/
theorem runInstr_exec {s : State} {i : Instr} (ht : s.twin = none) (hp : programInstr i = true) (hs : storeAccess i = false) :
    ∃ t, exec i s = .next t ∧ runInstr s i = t ∧ beyondEngine t = beyondEngine s := by
  have answers : ∀ {i j : Instr} {op : State → State}, exec i s = instr s j op →
      runInstr s i = (match instr s j op with | .next t => t | _ => s) → (∀ u, beyondEngine (op u) = beyondEngine u) →
      ∃ t, exec i s = .next t ∧ runInstr s i = t ∧ beyondEngine t = beyondEngine s := by
    intro i j op hexec hrun hop
    obtain ⟨t, hj, hb⟩ := beyondEngine_instr ht j hop
    rw [hexec, hrun, hj]
    exact ⟨t, rfl, rfl, hb⟩
  cases i
  case illegal => exact answers rfl rfl fun u => beyondEngine_trap u 1
  case nop | add | sub | and | or | xor | shl | shr | asr | mul | mulh | cmp | ldi | addi | andi | ori | xori | cmpi | shli
      | shri | timeFrameLow | timeFrameHigh | timeTick =>
    exact answers rfl rfl fun u => beyondEngine_next u _
  case halt | sigA | sigB | waitf | waite => exact answers rfl rfl fun u => by simp
  case ld | st | b | call | jr | fret => exact answers rfl rfl fun u => by simp [beyondEngine_ite]
  case ei | di | fcall => exact answers rfl rfl fun u => beyondEngine_intOnly (by simp)
  case reti | getev => exact answers rfl rfl fun u => beyondEngine_intOnly (by simp [beyondEngine_ite])
  case ret =>
    refine answers rfl rfl fun u => ?_
    split
    · simp
    · simp [beyondEngine_ite]
  case tact =>
    refine answers rfl rfl fun u => ?_
    dsimp only
    simp [occPod, occEng, beyondEngine_ite]
  case drd | dwr => cases hs
  all_goals cases hp

end Sys2Proof.Machine
end

section
/-!
SUPPORT. A tick in which the engine runs its program and nothing else has a share (R50, R80, R321, R335).
-/
namespace Sys2Proof.Machine

/-- The engine runs its program in the present tick, which is not the last of its frame, and nothing else is at hand. -/
structure ProgramTick (s : State) : Prop where
  pending : s.pending = []
  runs : executing s = true
  inFrame : s.clk.time % 512 ≠ 511
  rows : s.eng.rows = []
  stall : s.eng.stall = 0
  irq : irqDue s = false
  tact : tactDue s = false
  job : s.odp.job = none
  host : s.hostQ = []
  lock : s.sup.crash.lockNext = false
  twin : s.twin = none
  fired : s.now.fired = false
  engPort : s.now.engPort = false
  access : accessRests s
  line : lineRests s

namespace ProgramTick

variable {s : State}

theorem running (h : ProgramTick s) : Machine.running s = true ∧ s.eng.st = .running ∧ engTested s = false := by
  have runs := h.runs
  simp only [executing, Bool.and_eq_true, decide_eq_true_eq, Bool.not_eq_true'] at runs
  exact ⟨runs.1.1, runs.1.2, runs.2⟩

/-- The program's tick is the whole work of such a tick. -/
theorem tickWork (h : ProgramTick s) : Machine.tickWork s = runTick s := by
  obtain ⟨-, st, tested⟩ := h.running
  have recognised : recogniseDue s = s := by
    unfold recogniseDue
    rw [h.irq, if_neg Bool.false_ne_true]
  rw [tickWork_engine h.line h.tact]
  unfold engineShare
  rw [tested, if_neg Bool.false_ne_true, h.rows]
  dsimp only
  rw [h.stall, if_neg (Nat.lt_irrefl 0), st]
  dsimp only
  rw [h.engPort, Bool.false_and, Bool.false_and, if_neg Bool.false_ne_true, recognised]

/-- A step passes the tick with what the program's share leaves, where that lies in the engine and its registers. -/
theorem step_next (h : ProgramTick s) (hk : beyondEngine (runTick s) = beyondEngine s) : ∃ t, step s = .next t ∧
    unrouted t = unrouted { runTick s with clk := { s.clk with time := s.clk.time + 1 } } := by
  obtain ⟨hr, -, -⟩ := h.running
  obtain ⟨t, ht, left⟩ := step_tick h.pending hr h.inFrame
  refine ⟨t, ht, left.trans ?_⟩
  have work := h.tickWork
  have twin := (twin_of_beyondEngine hk).trans h.twin
  have samples := (samples_of_beyondEngine hk).trans h.access.1
  have clk := of_beyondEngine (fun s => s.clk) (fun _ => rfl) hk
  have sup := of_beyondEngine (fun s => (s.sup.line, s.sup.crash)) (fun _ => rfl) hk
  have due := of_beyondEngine accessDue (fun _ => rfl) hk
  have odp := of_beyondEngine (fun s => s.odp) (fun _ => rfl) hk
  have host := of_beyondEngine (fun s => s.hostQ) (fun _ => rfl) hk
  have pending := of_beyondEngine (fun s => s.pending) (fun _ => rfl) hk
  have run := of_beyondEngine Machine.running (fun _ => rfl) hk
  generalize runTick s = e at *
  obtain ⟨line, crash⟩ := Prod.ext_iff.mp sup
  dsimp only at line crash
  have quiet : NextTickQuiet e :=
    { cycle := by
        obtain ⟨-, -, -, -, -, cycle⟩ := h.line
        rw [line, clk]
        exact cycle
      lock := by
        rw [crash]
        exact h.lock
      access := by
        rw [clk, due]
        exact h.access.2
      job := by
        rw [odp]
        exact h.job }
  have passes := unrouted_passTick_idle (endTick_alike hr h.twin work twin) (congrArg Clock.time clk) samples quiet (run.trans hr)
    (host.trans h.host)
  rw [passes, clk]
  have empty : e.pending = [] := pending.trans h.pending
  rw [← empty]
  rfl

/-- The same with the state that the statement names. -/
theorem step_passes (h : ProgramTick s) {u : State} (hk : beyondEngine (runTick s) = beyondEngine s)
    (hu : unrouted (runTick s) = unrouted u) :
    ∃ t, step s = .next t ∧ unrouted t = unrouted { u with clk := { s.clk with time := s.clk.time + 1 } } := by
  obtain ⟨t, ht, left⟩ := h.step_next hk
  have timed : ∀ x : State, unrouted { x with clk := { s.clk with time := s.clk.time + 1 } } =
      { unrouted x with clk := { s.clk with time := s.clk.time + 1 } } := fun _ => rfl
  exact ⟨t, ht, by rw [left, timed, timed, hu]⟩

theorem canExecute (h : ProgramTick s) (hin : inRegion s.eng s.eng.pc = true) (hskid : s.eng.skid = none) :
    Machine.canExecute s := ⟨h.runs, h.rows, hin, hskid, h.irq⟩

end ProgramTick

/-! ## The program's share of a tick (R318, R321) -/

/-- The ticks of the instruction at the PC, with those that the port adds. -/
def ticksHere (s : State) (i : Instr) : Nat := ticksOf s.eng i + if storeAccess i then portDelay s else 0

theorem runTick_first {s : State} {i : Instr} (hc : current s = i) (hb : s.eng.busy = 0) (hn : 1 < ticksHere s i) :
    runTick s = modEng (if storeAccess i then (if portDelay s = 0 then portAccess s i else contendHost s) else s)
      fun e => { e with busy := ticksHere s i - 1 } := by
  unfold runTick
  rw [hc, hb]
  exact if_neg (Nat.not_le.mpr hn)

theorem runTick_only {s : State} {i : Instr} (hc : current s = i) (hb : s.eng.busy = 0) (hn : ticksHere s i ≤ 1) :
    runTick s = endInstr s i := by
  unfold runTick
  rw [hc, hb]
  exact if_pos hn

theorem runTick_last {s : State} {i : Instr} (hc : current s = i) (hb : s.eng.busy = 1) : runTick s = endInstr s i := by
  unfold runTick
  rw [hc, hb]

theorem runTick_more {s : State} {i : Instr} {n : Nat} (hc : current s = i) (hb : s.eng.busy = n + 2) :
    runTick s = modEng (if storeAccess i then occEng (if n = 0 then portAccess s i else s) 4 1 else s)
      fun e => { e with busy := n + 1 } := by
  unfold runTick
  rw [hc, hb]

theorem endInstr_other {s : State} {i : Instr} (h : storeAccess i = false) : endInstr s i = runInstr s i := by
  unfold endInstr
  split
  · cases h
  · cases h
  · rfl

/-! ## Accesses of the program -/

@[simp] theorem beyondEngine_served (s : State) (r : Requester) : beyondEngine (served s r) = beyondEngine s := by
  have count : beyondEngine (occDict s 3 1) = beyondEngine s := beyondEngine_occ ..
  unfold served
  split
  · exact count
  · exact count

@[simp] theorem beyondEngine_modReq (s : State) (f : ReqState → ReqState) : beyondEngine (modReq s .eng f) = beyondEngine s := rfl

@[simp] theorem beyondEngine_violation (s : State) : beyondEngine (violation s) = beyondEngine s := beyondEngine_occ ..

/-- An access that finds HOSTIF at the port only counts. -/
theorem contendHost_counts (s : State) : unrouted (contendHost s) = unrouted s ∧ beyondEngine (contendHost s) = beyondEngine s := by
  unfold contendHost contend occDict
  split
  · split
    · exact ⟨rfl, rfl⟩
    · exact ⟨(unrouted_occ ..).trans rfl, (beyondEngine_occ ..).trans rfl⟩
  · exact ⟨rfl, rfl⟩

theorem noteSample_other {idx : Nat} (h : ∀ c, objOf idx ≠ some (.counter c)) (s : State) (sub : Nat) (place : SamplePlace) :
    noteSample s idx sub place = s := by
  unfold noteSample
  split
  · next k hk => exact absurd hk (h k)
  · rfl

/-- A read by the engine, but of a counter, changes its requester's registers alone, and counts. -/
theorem readCore_engine {idx : Nat} (h : ∀ c, objOf idx ≠ some (.counter c)) (s : State) (fp : Bool) (sub k : Nat) :
    let x := (readCore s .eng fp idx sub k).1
    x.eng = s.eng ∧ beyondEngine x = beyondEngine s := by
  have counts : (violation s).eng = s.eng := by
    obtain ⟨c, w, hv⟩ := occ_eq s 28 1 1 1
    rw [violation, hv]
  have field : (readField s .eng fp idx sub).1.eng = s.eng ∧ beyondEngine (readField s .eng fp idx sub).1 = beyondEngine s := by
    unfold readField
    dsimp only
    simp only [noteSample_other h]
    repeat' split
    all_goals exact ⟨rfl, rfl⟩
  unfold readCore
  split
  · split
    · exact ⟨counts, beyondEngine_violation s⟩
    · split
      · exact field
      · split
        · split <;> exact ⟨rfl, rfl⟩
        · exact ⟨rfl, rfl⟩
  · exact ⟨counts, beyondEngine_violation s⟩

/-- The access of a DRD: the word that it reads (R321). -/
theorem portAccess_drd {s : State} {rd ra : Fin 16} {imm : Word} (hin : inRegion s.eng s.eng.pc = true)
    (h : ∀ c, objOf imm.toNat ≠ some (.counter c)) :
    let x := readCore (served s .eng) .eng s.eng.field imm.toNat ((reg s.eng ra).toNat / 256) ((reg s.eng ra).toNat % 256)
    portAccess s (.drd rd ra imm) = { x.1 with eng := { s.eng with read := some (x.2 % 65536) } } ∧
      beyondEngine (portAccess s (.drd rd ra imm)) = beyondEngine s := by
  intro x
  obtain ⟨eng, left⟩ := readCore_engine h (served s .eng) s.eng.field ((reg s.eng ra).toNat / 256) ((reg s.eng ra).toNat % 256)
  have served_eng : (served s .eng).eng = s.eng := by
    obtain ⟨c, w, hs⟩ := served_eq s .eng
    rw [hs]
  have notes : ∀ u place, drdNote u ra imm place = u := by
    intro u place
    unfold drdNote noteRead
    dsimp only
    split
    · split
      · split
        · exact noteSample_other h ..
        · rfl
      · rfl
    · rfl
  have reads : drdRead s ra imm = x := rfl
  have whole : portAccess s (.drd rd ra imm) = modEng x.1 fun e => { e with read := some (x.2 % 65536) } := by
    unfold portAccess
    rw [if_pos hin]
    dsimp only
    rw [notes, reads]
  rw [whole]
  refine ⟨?_, (beyondEngine_modEng _ _).trans (left.trans (beyondEngine_served ..))⟩
  unfold modEng
  rw [show x.1.eng = s.eng from eng.trans served_eng]

end Sys2Proof.Machine
end

section
/-!
SUPPORT. The last tick of a store access (R318, R321): a DRD brings its word into its register, and a DWR is accepted.
-/
namespace Sys2Proof.Machine

/-- A publish map stands at 0x1C10 and above. -/
def publishFamily (o : Obj) (idx : Nat) : Prop :=
  match o with
  | .publish _ => 0x1C10 ≤ idx
  | _ => True

theorem publishFamily_of_objOf {idx : Nat} {o : Obj} : objOf idx = some o → publishFamily o idx := by
  unfold objOf
  repeat refine of_ite_some (p := (publishFamily · idx)) (by simp +contextual [publishFamily]) ?_
  exact nofun

/-- Below the publish maps the buffer takes the written value. -/
theorem stagedValue_below {idx : Nat} {o : Obj} (ho : objOf idx = some o) (h : idx < 0x1C10) (sub v : Nat) :
    stagedValue o sub v = v := by
  have family := publishFamily_of_objOf ho
  cases o <;> try rfl
  exact absurd family (Nat.not_le.mpr h)

/-- The engine's write of an RWS field below the publish maps, with an empty buffer (R58, R59). -/
theorem writeField_stages {s : State} {idx sub v : Nat} {f : Field} (hf : fieldOf idx sub = some f) (hacc : f.acc = .rws)
    (ha : admits s .eng idx sub v = true) (hidx : idx < 0x1C10) (ho : s.reqE.overflow = false) (hs : s.reqE.staged = []) :
    writeField s .eng s.eng.field idx sub v =
      modReq (afterWrite s .eng) .eng fun q => { q with staged := [(idx * 256 + sub, v)] } := by
  obtain ⟨o, -, hobj, -, -⟩ := admits_field ha
  have effect := writeField_admits ha hobj hf
  rw [writeEffect_rws _ _ _ v hobj hf hacc, stagedValue_below hobj hidx] at effect
  have empty : (req (afterWrite s .eng) .eng).staged = [] := hs
  have clear : (req (afterWrite s .eng) .eng).overflow = false := ho
  rw [stage_new v (by rw [empty]; exact nofun) (by rw [empty]; decide)] at effect
  refine Eq.trans (b := writeField s .eng (!isHost Requester.eng && s.eng.field) idx sub v) rfl (effect.trans ?_)
  unfold buffered
  rw [empty, clear]
  show setReq (afterWrite s .eng) .eng { req (afterWrite s .eng) .eng with
    staged := [(idx * 256 + sub, v)], overflow := false } = _
  rw [← clear]
  rfl

theorem endInstr_store (s : State) (rd ra : Fin 16) (imm : Word) :
    endInstr s (.drd rd ra imm) = instrEffect s (drdEnd rd (s.eng.read.getD 0)) ∧
    endInstr s (.dwr rd ra imm) = instrEffect s (dwrEnd rd ra imm) := ⟨rfl, rfl⟩

/-- The last tick of a DRD that has read a word. -/
theorem endInstr_drd {s : State} (h : canExecute s) (rd ra : Fin 16) (imm : Word) {v : Nat} (hv : v < 65536)
    (hread : s.eng.read = some v) : unrouted (endInstr s (.drd rd ra imm)) = unrouted (engineAt s (s.eng.pc + 1) fun e =>
      setReg (withFlags e (v == 0) (decide (32768 ≤ v)) e.c e.v) rd (BitVec.ofNat 16 v)) ∧
    beyondEngine (endInstr s (.drd rd ra imm)) = beyondEngine s := by
  have ends : endInstr s (.drd rd ra imm) = drdEnd rd v (idle s) := by
    have value : s.eng.read.getD 0 = v := by rw [hread]; rfl
    rw [(endInstr_store s rd ra imm).1, instrEffect_of_canExecute h, value]
  rw [ends]
  have left : unrouted (idle s) = unrouted (engineAt s s.eng.pc id) := rfl
  refine ⟨?_, ?_⟩
  · rw [unrouted_drdEnd left rd hv]
    unfold drdRegs
    rfl
  · unfold drdEnd occEng
    rw [beyondEngine_occ, beyondEngine_next]
    rfl

/-- The last tick of a DWR that is staged. -/
theorem endInstr_dwr {s : State} (h : canExecute s) {rd ra : Fin 16} {imm : Word} {sub : Nat} {f : Field}
    (hsub : (reg s.eng ra).toNat / 256 = sub) (hk : (reg s.eng ra).toNat % 256 = 0) (hf : fieldOf imm.toNat sub = some f)
    (hacc : f.acc = .rws) (hw : f.words = 1) (ha : admits s .eng imm.toNat sub (reg s.eng rd).toNat = true)
    (hidx : imm.toNat < 0x1C10) (ho : s.reqE.overflow = false) (hs : s.reqE.staged = []) :
    unrouted (endInstr s (.dwr rd ra imm)) = unrouted (engineAt (modReq (afterWrite s .eng) .eng fun q => { q with
      staged := [(imm.toNat * 256 + sub, (reg s.eng rd).toNat)] }) (s.eng.pc + 1) id) ∧
    beyondEngine (endInstr s (.dwr rd ra imm)) = beyondEngine s := by
  have one : widthNow (idle s) imm.toNat sub = 1 := by
    unfold widthNow widthOf
    rw [hf]
    dsimp only
    rw [hw]
    split
    · exact ite_self _
    · rfl
  have written := writeField_stages (s := idle s) hf hacc (v := (reg s.eng rd).toNat) ha hidx ho hs
  have ends : endInstr s (.dwr rd ra imm) = occEng (next (writeCore (idle s) .eng s.eng.field imm.toNat
      ((reg s.eng ra).toNat / 256) ((reg s.eng ra).toNat % 256) (reg s.eng rd).toNat) id) 3 1 := by
    rw [(endInstr_store s rd ra imm).2, instrEffect_of_canExecute h]
    rfl
  rw [hsub, hk, writeCore_one one, show s.eng.field = (idle s).eng.field from rfl, written] at ends
  rw [ends]
  have left : unrouted (modReq (afterWrite (idle s) .eng) .eng fun q => { q with
        staged := [(imm.toNat * 256 + sub, (reg s.eng rd).toNat)] }) =
      unrouted (engineAt (modReq (afterWrite s .eng) .eng fun q => { q with
        staged := [(imm.toNat * 256 + sub, (reg s.eng rd).toNat)] }) s.eng.pc id) := rfl
  refine ⟨?_, ?_⟩
  · rw [unrouted_seq left]
    rfl
  · unfold occEng afterWrite
    rw [beyondEngine_occ, beyondEngine_next, beyondEngine_modReq, beyondEngine_modReq]
    rfl

/-! ## Ticks of the program -/

theorem unrouted_modEng_of {s t : State} (h : unrouted s = unrouted t) (f : Eng → Eng)
    (hf : ∀ e : Eng, { f e with pend := 0 } = { f { e with pend := 0 } with pend := 0 }) :
    unrouted (modEng s f) = unrouted (modEng t f) := by
  have eng : ∀ u : State, unrouted (modEng u f) = { unrouted u with eng := { f (unrouted u).eng with pend := 0 } } := by
    intro u
    rw [unrouted_modEng, hf]
    rfl
  rw [eng, eng, h]

/-- An instruction of one tick makes no store access. -/
theorem storeAccess_of_ticks {e : Eng} {i : Instr} (h : ticksOf e i ≤ 1) : storeAccess i = false := by
  have two : ∀ d a v, ticksOf e (.drd d a v) = 2 ∧ ticksOf e (.dwr d a v) = 2 := fun _ _ _ => ⟨rfl, rfl⟩
  unfold storeAccess
  split
  · next d a v =>
    have := (two d a v).1
    omega
  · next d a v =>
    have := (two d a v).2
    omega
  · rfl

/-- The tick of a store access: the first, where HOSTIF leaves the port free, or the last but one. -/
theorem runTick_accesses {s : State} {i : Instr} (hc : current s = i) (hs : storeAccess i = true) (hn : ticksOf s.eng i = 2)
    (hf : s.now.fired = false) (hat : s.eng.busy = 0 ∧ s.now.hostPort = false ∨ s.eng.busy = 2) :
    unrouted (runTick s) = unrouted (modEng (portAccess s i) fun e => { e with busy := 1 }) ∧
      beyondEngine (runTick s) = beyondEngine (portAccess s i) := by
  obtain ⟨hb, host⟩ | hb := hat
  · have delay : portDelay s = 0 := by simp [portDelay, flg, host, hf]
    have two : ticksHere s i = 2 := by rw [ticksHere, hn, delay, hs]; rfl
    rw [runTick_first hc hb (by omega), two, if_pos hs, if_pos delay]
    exact ⟨rfl, beyondEngine_modEng _ _⟩
  · rw [runTick_more hc hb, if_pos hs, if_pos rfl]
    exact ⟨unrouted_modEng_of (unrouted_occEng ..) _ fun _ => rfl, (beyondEngine_modEng _ _).trans (beyondEngine_occ ..)⟩

/-- The access of a DWR only counts. -/
theorem portAccess_dwr (s : State) (rd ra : Fin 16) (imm : Word) : unrouted (portAccess s (.dwr rd ra imm)) = unrouted s ∧
    beyondEngine (portAccess s (.dwr rd ra imm)) = beyondEngine s := by
  unfold portAccess
  split
  · exact ⟨unrouted_served .., beyondEngine_served ..⟩
  · exact ⟨rfl, rfl⟩

/-- Settles O14: the tick is the program's share of it (`ProgramTick`), and an instruction without a store access changes the engine
alone (`runInstr_exec`). -/
theorem ticksRunTheProgram : Obligations.TicksRunTheProgram := by
  unfold Obligations.TicksRunTheProgram
  intro s rd ra imm h1 h2 h3 h4 h5 h6 h7 h8 h9 h10 h11 h12 h13 h14 h15 i e ticks idx sub passes accessTick
  have h : ProgramTick s := ⟨h1, h2, h3, h4, h5, h6, h7, h8, h9, h10, h11, h12, h13, h14, h15⟩
  have cur : current s = i := rfl
  have delay : portDelay s = if s.now.hostPort = true then 1 else 0 := by
    unfold portDelay flg
    rw [h12]
    simp
  have here : ticksHere s i = ticks := by
    unfold ticksHere
    rw [delay]
    show _ = ticksOf s.eng i + _
    cases storeAccess i <;> simp
  clear_value i
  refine ⟨?_, ?_, ?_, ?_, ?_, ?_⟩
  · intro hb hn hs
    have run := runTick_first cur hb (here ▸ hn)
    have held : unrouted (runTick s) = unrouted { s with eng := { e with busy := ticks - 1 } } ∧
        beyondEngine (runTick s) = beyondEngine s := by
      obtain ⟨counts, beyond⟩ := contendHost_counts s
      rw [run, here]
      cases store : storeAccess i
      · exact ⟨rfl, rfl⟩
      · have host : s.now.hostPort = true := hs.resolve_left (by simp [store])
        rw [if_pos rfl, delay, if_pos host, if_neg Nat.one_ne_zero]
        exact ⟨unrouted_modEng_of counts _ fun _ => rfl, (beyondEngine_modEng _ _).trans beyond⟩
    exact h.step_passes held.2 held.1
  · intro hb hs
    obtain ⟨n, hn⟩ : ∃ n, s.eng.busy = n + 2 := ⟨s.eng.busy - 2, by have : 2 ≤ s.eng.busy := hb; omega⟩
    have run := runTick_more cur hn
    have less : s.eng.busy - 1 = n + 1 := by omega
    have held : unrouted (runTick s) = unrouted { s with eng := { e with busy := e.busy - 1 } } ∧
        beyondEngine (runTick s) = beyondEngine s := by
      show _ = unrouted { s with eng := { s.eng with busy := s.eng.busy - 1 } } ∧ _
      rw [run, less]
      cases store : storeAccess i
      · exact ⟨rfl, rfl⟩
      · have later : s.eng.busy ≠ 2 := hs.resolve_left (by simp [store])
        rw [if_pos rfl, if_neg (by omega)]
        exact ⟨unrouted_modEng_of (unrouted_occEng ..) _ fun _ => rfl, (beyondEngine_modEng _ _).trans (beyondEngine_occ ..)⟩
    exact h.step_passes held.2 held.1
  · rintro hat rfl hin hc
    obtain ⟨reads, beyond⟩ := portAccess_drd (rd := rd) (ra := ra) hin hc
    have run := runTick_accesses cur rfl rfl h12 hat
    exact h.step_passes (run.2.trans beyond) (run.1.trans (by rw [reads]; rfl))
  · rintro hat rfl
    have run := runTick_accesses cur rfl rfl h12 hat
    obtain ⟨left, beyond⟩ := portAccess_dwr s rd ra imm
    exact h.step_passes (run.2.trans beyond) (run.1.trans (unrouted_modEng_of left _ fun _ => rfl))
  · intro hat
    have store : storeAccess i = false := by
      obtain ⟨-, one⟩ | ⟨-, hs⟩ := hat
      · refine storeAccess_of_ticks (e := s.eng) ?_
        have whole : ticksHere s i = 1 := here.trans one
        unfold ticksHere at whole
        omega
      · exact hs
    have run : runTick s = runInstr s i := by
      rw [← endInstr_other store]
      obtain ⟨hb, one⟩ | ⟨hb, -⟩ := hat
      · exact runTick_only cur hb (by omega)
      · exact runTick_last cur hb
    have program : programInstr i = true := by
      rw [← cur]
      exact programInstr_instrOf _
    obtain ⟨u, hu, same, beyond⟩ := runInstr_exec h.twin program store
    rw [← run] at same
    obtain ⟨t, ht, left⟩ := h.step_next (by rw [same]; exact beyond)
    have clk : u.clk = s.clk := of_beyondEngine (fun s => s.clk) (fun _ => rfl) beyond
    rw [same, ← clk] at left
    exact ⟨u, t, hu, ht, left⟩
  · rintro hb hin hskid
    have hexec := h.canExecute hin hskid
    have run := runTick_last cur hb
    refine ⟨?_, ?_⟩
    · rintro rfl v hv hread
      obtain ⟨left, beyond⟩ := endInstr_drd hexec rd ra imm hv hread
      rw [← run] at left beyond
      exact h.step_passes beyond left
    · rintro rfl f hf hacc hw hk ha hidx ho hs
      obtain ⟨left, beyond⟩ := endInstr_dwr hexec rfl hk hf hacc hw ha hidx ho hs
      rw [← run] at left beyond
      exact h.step_passes beyond left

end Sys2Proof.Machine
end

section
/-!
SUPPORT. What the router does to the engine's pending bits (R327, R463), and a conversion whose results are shown in a tick that has
raised an event.
-/
namespace Sys2Proof.Machine

/-! ## The engine's pending bits -/

/-- What the router takes from the state, and hands to the engine: the events that wait, the engine's pending bits and its mask. -/
def atRouter (s : State) : List Nat × Nat × Nat := (s.evq, s.eng.pend, engMask s)

theorem atRouter_bump (s : State) (k code n : Nat) : atRouter (bump s k code n) = atRouter s := by
  unfold bump
  split <;> rfl

theorem atRouter_occ (s : State) (lo n code times : Nat) : atRouter (occ s lo n code times) = atRouter s :=
  each_keep atRouter _ (fun s _ => atRouter_bump s _ _ _) _ _

theorem atRouter_record (s : State) (r : List Byte) : atRouter (record s r) = atRouter s := by
  unfold record
  split
  · rfl
  · split <;> rfl

theorem atRouter_markEngine (s : State) (e : Nat) : atRouter (markEngine s e) =
    (s.evq, if bit (engMask s) e then setBit s.eng.pend e else s.eng.pend, engMask s) := by
  unfold markEngine
  split <;> rfl

/-- Of the routes of an event only the engine's own changes what the engine has. -/
theorem atRouter_routeEvent (s : State) (e : Nat) : atRouter (routeEvent s e) =
    (s.evq, if bit (engMask s) e then setBit s.eng.pend e else s.eng.pend, engMask s) := by
  have husk : ∀ t : State, atRouter (routeHusk t e) = atRouter t := fun t => by unfold routeHusk; split <;> rfl
  have evo : ∀ (t : State) (k : Nat), atRouter (routeEvo e t k) = atRouter t := fun t k => by unfold routeEvo; split <;> rfl
  have port : ∀ (t : State) (p : Port) (b : Nat), atRouter (routePort t p b e) = atRouter t := fun t p b => by
    unfold routePort
    split <;> cases p <;> rfl
  have stream : ∀ t : State, atRouter (routeStream t e) = atRouter t := fun t => by
    unfold routeStream
    split
    · exact atRouter_record _ _
    · rfl
  simp only [routeEvent, stream, each_keep atRouter (routeEvo e) evo, husk, port, atRouter_markEngine]
  rfl

theorem atRouter_offer (s : State) (e : Nat) : atRouter (offer s e) = atRouter s := by
  simp only [offer, atRouter_bump]

theorem atRouter_captureTick (s : State) : atRouter (captureTick s) = atRouter s := by
  unfold captureTick
  split
  · split <;> rfl
  · rfl

/-- The router sets the engine's pending bits of the events that the mask admits, and no other (R327, R463). -/
theorem pend_route (l : List Nat) (s : State) (i : Nat) : (route l s).eng.pend.testBit i = true ↔
    s.eng.pend.testBit i = true ∨ i ∈ l ∧ bit (engMask s) i = true := by
  unfold route
  induction l generalizing s with
  | nil => simp
  | cons e r ih =>
    have routed := (atRouter_offer (routeEvent s e) e).trans (atRouter_routeEvent s e)
    simp only [atRouter, Prod.mk.injEq] at routed
    obtain ⟨-, hpend, hmask⟩ := routed
    rw [List.foldl_cons, ih, hpend, hmask]
    by_cases h : i = e
    · subst h
      split
      · next admitted => simp [testBit_setBit, admitted]
      · next barred => simp [barred]
    · split <;> simp [testBit_setBit, h, Ne.symm h]

/-- The end of a command gives the engine the events raised in it that its mask admits (R327, R463). -/
theorem done_pends {s v : State} {f : State → State} (h : done s f = .next v) (i : Nat) : v.eng.pend.testBit i = true ↔
    (f s).eng.pend.testBit i = true ∨ i ∈ (f s).evq ∧ bit (engMask (f s)) i = true := by
  injection h with h
  obtain ⟨w, hw⟩ := bothCopies_eq s f
  have ended := atRouter_captureTick (route (sortEv (bothCopies s f).evq) { bothCopies s f with evq := [] })
  simp only [atRouter, Prod.mk.injEq] at ended
  have pend : v.eng.pend = (route (sortEv (bothCopies s f).evq) { bothCopies s f with evq := [] }).eng.pend := by
    rw [← ended.2.1, ← h]
    rfl
  rw [pend, pend_route, mem_sortEv, hw]
  rfl

/-! ## Conversions -/

/-- A conversion leaves the events that wait, and the engine, alone. -/
theorem atRouter_convert (s : State) (k g raw : Nat) : atRouter (convert s k g raw) = atRouter s := by
  have set : ∀ (t : State) (v : Conv), atRouter (setConv t g v) = atRouter t := fun _ _ => rfl
  have displaced : ∀ t : State, atRouter (displace t g k) = atRouter t := fun t => by
    unfold displace
    dsimp only
    repeat' split
    all_goals simp only [occConv_occ, atRouter_occ, set]
  have urgent : ∀ (t : State) (u : Urgent), atRouter (urgentResult t g k u raw) = atRouter t := fun t u => by
    have margin : ∀ (t : State) (c : Nat) (f : Margin → Margin), atRouter (modMargin t c f) = atRouter t := fun _ _ _ => rfl
    unfold urgentResult
    dsimp only
    split <;> split <;> simp only [margin, occConv_occ, atRouter_occ, set]
  have scheduled : ∀ (t : State) (e : Nat), atRouter (scheduledResult t g k e raw) = atRouter t := fun t e => by
    have chan : ∀ (t : State) (c : Nat) (f : Chan → Chan), atRouter (modChan t c f) = atRouter t := fun _ _ _ => rfl
    unfold scheduledResult modConv
    dsimp only
    repeat' split
    all_goals simp only [chan, occConv_occ, atRouter_occ, set]
  unfold convert
  dsimp only
  split
  · exact (urgent _ _).trans (displaced s)
  · split
    · exact scheduled _ _
    · rfl

/-- What a conversion command does whose samples are taken in the state p and shown in the state u: it leaves the router what has
come to it by then. -/
theorem conversion_effect {s p u : State} {k : Nat} {pins : Pins} (raws : List Nat) (hr : running s = true)
    (hc : converting s = true)
    (hp : p = { advance s (inFrame s (32 * k + 10)) with pins := { (advance s (inFrame s (32 * k + 10))).pins with level := pins } })
    (hu : u = advance p (inFrame p (32 * k + 28))) (hcp : converting p = true) (hcu : converting u = true) :
    ∃ f, exec (.conversion k raws pins) s = done s f ∧ atRouter (f s) = atRouter u := by
  subst hp hu
  refine ⟨_, rfl, ?_⟩
  rw [whenRunning_running hr]
  simp only [hc, hcp, hcu, if_true]
  exact each_keep atRouter _ (fun _ _ => atRouter_convert ..) _ _

/-! ## The counterexample -/

/-- A device in tick 27 of slot 0, with channel 0 analog and EVENT_MASK_ENGINE admitting event 29. A host's URGENT_REQ of converter 7
awaits the store port, which serves it in tick 28, and finds both places and the pending register taken (R80, R107). -/
def overrunWaits : State :=
  { Tests.at' 27 (Tests.withCfg [(0x0302, 1, 2 ^ 29)] (modConv (Tests.sampling Tests.stby) 7 fun v => { v with
      places := [(3, Tests.urgent 0), (4, Tests.urgent 1)], pend := some (Tests.urgent 2) })) with
    hostQ := [{ req := .canb, op := .write 0x1507 2 5, words := 1 }] }

/-- The tick in which the results of slot 0 are shown. -/
def overrunShown : State := advance { overrunWaits with pins := { overrunWaits.pins with level := 0 } } 28

/-- No event awaits the router in the state before, and each hypothesis of the statement about slot 0 of converter 0 holds. -/
theorem overrunWaits_meets : quiet overrunWaits ∧ running overrunWaits = true ∧ converting overrunWaits = true ∧
    converting overrunShown = true ∧ (∀ s ∈ [overrunWaits, overrunShown], (conv s 0).places = [] ∧ (chan s 0).kindEff = 1) ∧
    0 < chanCfg overrunShown 0 4 :=
  ⟨⟨rfl, rfl, rfl⟩, by decide⟩

/-- In that tick the write has raised event 29, which the router has not handled. -/
theorem atRouter_overrunShown : atRouter overrunShown = ([29], 0, 2 ^ 29) := by decide

/-- Refutes O25: the statement asks that the engine stand behind the command as in tick 28 of the slot, but an event of that tick,
here the overrun of another converter's urgent request, reaches the engine's pending bits only as the command ends (R327, R463). -/
theorem not_conversionsFillTheirRegisters : ¬ Obligations.ConversionsFillTheirRegisters := by
  unfold Obligations.ConversionsFillTheirRegisters
  intro h
  obtain ⟨-, hr, hc, hshown, hfree, hden⟩ := overrunWaits_meets
  obtain ⟨before, analog⟩ := hfree overrunWaits (by simp)
  obtain ⟨after, analog'⟩ := hfree overrunShown (by simp)
  have empty {s : State} (h : (conv s 0).places = []) : ∀ e ∈ (conv s 0).places, e.1 ≠ 0 := by simp [h]
  obtain ⟨t, ht, ⟨-, -, -, -, -, -, heng⟩, -⟩ := (h overrunWaits 0 0 (List.replicate 8 0) 0 hr hc (by decide) rfl hc hshown).1
    (by decide) (by decide) (empty before) (empty after) (.inl analog) (.inl analog') hden
  have same : t.eng = overrunShown.eng := heng
  obtain ⟨f, hexec, keeps⟩ := conversion_effect (k := 0) (pins := 0) (List.replicate 8 0) hr hc rfl rfl hc hshown
  have router : atRouter (f overrunWaits) = ([29], 0, 2 ^ 29) := keeps.trans atRouter_overrunShown
  have clear := atRouter_overrunShown
  simp only [atRouter, Prod.mk.injEq] at router clear
  have set := (done_pends (hexec.symm.trans ht) 29).mpr (.inr (by rw [router.1, router.2.2]; decide))
  rw [same, clear.2.1] at set
  exact absurd set (by decide)

end Sys2Proof.Machine
end

section
/-!
SUPPORT. Urgent requests and edges of TRIG: which place a request takes, and what becomes of one that finds none (R104 to R107,
R115, R116).
-/
namespace Sys2Proof.Machine

/-! ## Writes to one converter -/

theorem del_of_ne {α : Type} {m : Map α} {k : Nat} (h : ∀ e ∈ m, e.1 ≠ k) : del m k = m :=
  List.filter_eq_self.mpr fun e he => by simpa using h e he

theorem del_ins {α : Type} {k : Nat} (v : α) {m : Map α} (h : ∀ e ∈ m, e.1 ≠ k) : del (ins m k v) k = m := by
  induction m with
  | nil => simp [ins, del]
  | cons e r ih =>
    obtain ⟨i, w⟩ := e
    have rest := ih fun e he => h e (List.mem_cons_of_mem _ he)
    have head : i ≠ k := h (i, w) List.mem_cons_self
    unfold ins
    split
    · exact (List.filter_cons_of_neg (by simp)).trans (del_of_ne h)
    · exact (List.filter_cons_of_pos (by simpa using head)).trans (congrArg _ rest)

/-- Of two writes of one key the later one stands. -/
theorem put_put {α : Type} [DecidableEq α] (m : Map α) (d : α) (k : Nat) (v w : α) : put (put m d k v) d k w = put m d k w := by
  have once : del (put m d k v) k = del m k := by
    unfold put
    split
    · exact del_of_ne (del_ne m k)
    · exact del_ins v (del_ne m k)
  simp only [put.eq_def (put m d k v), once, put.eq_def m d k w]

theorem setConv_setConv (s : State) (g : Nat) (v w : Conv) : setConv (setConv s g v) g w = setConv s g w := by
  simp only [setConv, put_put]

theorem conv_setConv (s : State) (g : Nat) (v : Conv) : conv (setConv s g v) g = v := get_put_same ..

/-! ## The order of the requests of one tick (R106) -/

/-- A request that comes before none of those that have places takes over no place. -/
theorem takeOver_last {u : Urgent} {l : List (Nat × Urgent)} (h : ∀ x ∈ l, urgentBefore u x.2 = false) : takeOver l u = (l, u) := by
  induction l with
  | nil => rfl
  | cons x r ih => simp [takeOver, h x List.mem_cons_self, ih fun y hy => h y (List.mem_cons_of_mem _ hy)]

/-- A request that comes before none of those that its converter holds is the one to be handled. -/
theorem recognise_last {s : State} {g : Nat} {u : Urgent} (hplaces : ∀ x ∈ (conv s g).places, urgentBefore u x.2 = false)
    (hpend : ∀ x, (conv s g).pend = some x → urgentBefore u x = false) (k : Nat) : recognise s g k u = assign s g k u := by
  have order : reorder s g u = (s, u) := by
    unfold reorder
    cases hp : (conv s g).pend with
    | none => simp [takeOver_last hplaces, hp]
    | some x => simp [takeOver_last hplaces, hp, hpend x hp]
  rw [recognise, order]

/-- An edge takes over the one place of its converter from a request that it comes before, and that request takes the next one
(R106). -/
theorem recognise_takesOver {s : State} {g k c n : Nat} {u x : Urgent} (hu : u.src = .trig) (hb : urgentBefore u x = true)
    (hplaces : (conv s g).places = [(c, x)]) (hpend : (conv s g).pend = none) (hn : max (k + 1) (c + 1) = n) (hlast : n ≤ 15) :
    recognise s g k u = urgentStat (setConv s g { conv s g with places := [(c, u), (n, x)] }) g x.src 1 := by
  have ne : u ≠ x := by
    rintro rfl
    simp [urgentBefore] at hb
  have order : reorder s g u = (setConv s g { conv s g with places := [(c, u)] }, x) := by
    simp [reorder, hplaces, hpend, takeOver, hb, ne, urgentStat, hu]
  simp only [recognise, order, assign, conv_setConv, afterLast, List.getLast?_singleton, hn, setConv_setConv]
  exact if_pos ⟨by simp, hlast⟩

/-! ## What a request finds (R106, R107, R116) -/

/-- The next place that a request of the present tick can have. -/
def nextPlace (s : State) (g : Nat) : Nat := max (slotOf s.clk.time + 1) (afterLast (conv s g))

theorem unrouted_urgentStat_occ (s : State) (lo n code times g : Nat) (src : UrgentSrc) (c : Nat) :
    unrouted (urgentStat (occ s lo n code times) g src c) = unrouted (urgentStat s g src c) := by
  obtain ⟨k, w, h⟩ := occ_eq s lo n code times
  rw [h]
  cases src with
  | trig | servo => rfl
  | port r => cases r <;> rfl

theorem urgentStat_raise (s : State) (e g : Nat) (src : UrgentSrc) (c : Nat) :
    urgentStat (raise s e) g src c = raise (urgentStat s g src c) e := by
  cases src with
  | trig | servo => rfl
  | port r => cases r <;> rfl

/-- What a command answers that is the recognition of a request behind those that its converter holds: the request takes the next
place, the pending register, or nothing. `after` gives what a converter and a code of URGENT_STAT leave. -/
theorem request_takes {s w x : State} {f : State → State} {g : Nat} {u : Urgent} {after : Conv → Nat → State}
    (hf : f s = recognise x g (slotOf w.clk.time) u) (hconv : conv x g = conv w g)
    (hafter : ∀ v code, unrouted (urgentStat (setConv x g v) g u.src code) = unrouted (after v code)) :
    let v := conv w g
    let free : Prop := v.places.length < 2 ∧ nextPlace w g ≤ 15
    let answers (v : Conv) (code : Nat) (also : State → Prop) : Prop := ∃ t, done s f = .next t ∧ also t ∧
      unrouted t = unrouted { after v code with pending := s.pending }
    (∀ y ∈ v.places, urgentBefore u y.2 = false) → (∀ y, v.pend = some y → urgentBefore u y = false) →
    (free → answers { v with places := v.places ++ [(nextPlace w g, u)] } 1 fun _ => True) ∧
    (¬ free → v.pend = none → answers { v with pend := some u } 2 fun _ => True) ∧
    (¬ free → v.pend.isSome = true → answers { v with overruns := min (v.overruns + 1) 0xFFFF } 3 fun t => shows t 29) := by
  intro v free answers hplaces hpend
  have effect : f s = assign x g (slotOf w.clk.time) u := hf.trans (recognise_last (by rwa [hconv]) (by rwa [hconv]) _)
  have answer : ∀ {v : Conv} {code : Nat} {also : State → Prop},
      unrouted (f s) = unrouted (urgentStat (setConv x g v) g u.src code) → (∀ t, done s f = .next t → also t) →
      answers v code also := by
    intro v code also h halso
    refine ⟨_, rfl, halso _ rfl, ?_⟩
    rw [unrouted_done rfl, h, hafter]
    rfl
  unfold assign at effect
  rw [hconv] at effect
  refine ⟨fun hfree => ?_, fun hfull hnone => ?_, fun hfull hsome => ?_⟩
  · exact answer (congrArg unrouted (effect.trans (if_pos hfree))) fun _ _ => trivial
  · have pends : f s = _ := effect.trans ((if_neg hfull).trans (if_pos (Option.isNone_iff_eq_none.mpr hnone)))
    exact answer (by rw [pends]; exact unrouted_urgentStat_occ ..) fun _ _ => trivial
  · have dropped : f s = _ := effect.trans ((if_neg hfull).trans (if_neg (by simpa [← Option.isSome_iff_ne_none] using hsome)))
    rw [urgentStat_raise] at dropped
    have counted : incSat v.overruns 0xFFFF = min (v.overruns + 1) 0xFFFF := by
      unfold incSat
      split <;> omega
    refine answer ?_ fun t ht => (done_shows ht 29).mpr (.inr (by simp [dropped]))
    rw [dropped, unrouted_raise, ← counted]
    exact unrouted_urgentStat_occ ..

/-! ## The requests of hosts and of the engine (R104, R105, R179) -/

/-- The state after a write, as the converters and the action queue see it, is the one before. -/
theorem afterWrite_reads (w : State) (r : Requester) :
    (∀ g, conv (afterWrite w r) g = conv w g) ∧ (afterWrite w r).clk = w.clk ∧
    aqAdmits (afterWrite w r) = decide (aqReserved w < 96 - aqHeld w) := by
  cases r <;> exact ⟨fun _ => rfl, rfl, rfl⟩

/-- What a write of URGENT_REQ does (R179). -/
theorem urgentReq_effect {s : State} {r : Requester} {g e : Nat} (hg : g < 8) (h : canWrite s r (0x1500 + g) 2 e = true) :
    let w := served s r
    ∃ f, exec (.urgentReq r g e) s = done s f ∧ f s = if aqReserved w < 96 - aqHeld w
      then recognise (afterWrite w r) g (slotOf w.clk.time) { src := .port r, entry := e, time := w.clk.time }
      else occPod (urgentStat (afterWrite w r) g (.port r) 4) 8 := by
  intro w
  have hadmits := h
  simp only [canWrite, Bool.and_eq_true] at hadmits
  obtain ⟨o, f, -, hf, -⟩ := admits_field hadmits.2
  obtain ⟨-, hclk, hroom⟩ := afterWrite_reads w r
  refine ⟨_, rfl, (if_pos hg).trans ((present_canWrite h (objOf_conv hg) hf).trans ?_)⟩
  show urgentWrite (afterWrite w r) r g e = _
  simp only [urgentWrite, hroom, hclk, decide_eq_true_eq]

/-! ## Edges of TRIG (R104, R115) -/

/-- CTRL selects the edge (R115). -/
theorem edgeWanted_iff (v : Nat) (rising : Bool) : edgeWanted (fld v 5 2) rising = true ↔
    v / 32 % 4 = 2 ∨ v / 32 % 4 = 0 ∧ rising = true ∨ v / 32 % 4 = 1 ∧ rising = false := by
  have field : fld v 5 2 = v / 32 % 4 := by simp [fld, Nat.shiftRight_eq_div_pow]
  have below : v / 32 % 4 < 4 := Nat.mod_lt _ (by decide)
  rw [field]
  generalize v / 32 % 4 = sel at below
  interval_cases sel <;> simp [edgeWanted]

/-- What an edge of TRIG g does on the pin that supplies it: it sets the level and, where CTRL selects it, asks for TRIG_ENTRY. -/
theorem trigEdge_effect {s : State} {g n : Nat} {rising : Bool} (hr : running s = true) (hc : converting s = true)
    (hn : trigSupplier s g = some n) (hb : bankGood s n = true) (he : edgeless s (16 + g) = false) :
    let ctrl := convCfg s g 1
    ∃ f, exec (.trigEdge g rising) s = done s f ∧
      f s = if ctrl.testBit 7 = true ∧ edgeWanted (fld ctrl 5 2) rising = true
        then recognise (occConv (setLevel s n rising) g 8 1) g (slotOf s.clk.time)
          { src := .trig, entry := ctrl % 16, time := s.clk.time }
        else setLevel s n rising := by
  intro ctrl
  refine ⟨_, rfl, (whenRunning_running hr _).trans ?_⟩
  have level : converting (setLevel s n rising) = true ∧ convCfg (setLevel s n rising) g 1 = ctrl := ⟨hc, rfl⟩
  simp only [hn, hb, he, level, bit, Bool.not_false, Bool.and_true, Bool.true_and, Bool.and_eq_true]
  rfl

/-! ## The obligation -/

/-- Settles O26: a write of URGENT_REQ and an edge that CTRL selects are recognitions of a request, and an edge comes before a host's
or the engine's request of its tick. -/
theorem urgentRequestsTakePlaces : Obligations.UrgentRequestsTakePlaces := by
  unfold Obligations.UrgentRequestsTakePlaces
  intro s r g e n rising cand takes
  refine ⟨fun hg hw => ?_, fun hr hc hn hb he => ?_⟩
  · intro w stat
    obtain ⟨f, hexec, effect⟩ := urgentReq_effect hg hw
    refine ⟨fun hroom => ?_, fun hfull => ?_⟩
    · rw [if_pos hroom] at effect
      simp only [takes, hexec]
      exact request_takes (after := fun v code => setConv (stat code) g v) effect ((afterWrite_reads w r).1 g) fun v code => by
        cases r <;> rfl
    · rw [if_neg (Nat.not_lt.mpr hfull)] at effect
      refine ⟨_, hexec.trans rfl, ?_⟩
      rw [unrouted_done rfl, effect, unrouted_occPod]
      rfl
  · intro ctrl after u wanted
    obtain ⟨f, hexec, effect⟩ := trigEdge_effect (rising := rising) hr hc hn hb he
    simp only [edgeWanted_iff] at effect
    refine ⟨fun hno => ?_, fun htrig hwanted => ?_⟩
    · rw [if_neg fun h => hno.elim (by simp [ctrl, h.1]) (absurd h.2)] at effect
      rw [hexec]
      exact done_effect effect rfl
    · rw [if_pos ⟨htrig, hwanted⟩] at effect
      obtain ⟨c, m, counted⟩ := occ_eq after (2 * g) 2 8 1
      rw [occConv_occ, show setLevel s n rising = after from rfl, counted] at effect
      refine ⟨?_, fun p k hplaces hpend hcand => ?_⟩
      · simp only [takes, hexec]
        exact request_takes (after := fun v _ => setConv after g v) effect rfl fun _ _ => rfl
      · have first : urgentBefore u { src := .port p, entry := e, time := s.clk.time } = true := by
          cases p <;> simp [u, urgentBefore, urgentRank, reserved]
        have next : cand s = max (slotOf s.clk.time + 1) (k + 1) := by
          simp only [cand, hplaces, List.getLast?_singleton, slotOf]
        have took : f s = _ := effect.trans
          (recognise_takesOver (s := { after with ctrs := c, now := m }) rfl first hplaces hpend next.symm hcand)
        rw [hexec]
        refine done_next s _ f ((congrArg unrouted took).trans ?_) ?_
        · cases p <;> rfl
        · cases p <;> rfl

end Sys2Proof.Machine
end

section
/-!
SUPPORT. The decisions of a slot as a command shows them, and three channels of which two name the third as their partner
(R88, R89, R97, R133, R135).
-/
namespace Sys2Proof.Machine

/-! ## The decisions of a slot -/

/-- What JUDGE_SAMPLE does whose decisions fall due in the state u. -/
theorem judgeSample_effect {s u : State} {k : Nat} (hr : running s = true) (hc : converting s = true)
    (hu : u = advance s (inFrame s (32 * k + 30))) (hcu : converting u = true) :
    ∃ f, exec (.judgeSample k) s = done s f ∧ f s = judgeSlot u k := by
  subst hu
  refine ⟨_, rfl, ?_⟩
  rw [whenRunning_running hr]
  simp only [hc, hcu, if_true]

/-- The end of a command leaves the channels as its effect has made them. -/
theorem chan_done {s t : State} {f : State → State} (h : done s f = .next t) (c : Nat) : chan t c = chan (f s) c :=
  of_unrouted (chan · c) (fun _ => rfl) (t := { f s with pending := s.pending }) (unrouted_done h)

/-- Where every sample of a slot finds its channel as it leaves it, and no reference check is decided, only pairs are compared. -/
theorem judgeSlot_steady {s : State} {k : Nat} (hm : s.sup.mode ≠ .boot) (hrefs : refChecks s k = (s, []))
    (steady : ∀ c ∈ judgedIn s k, judgeSample { state := s, ovs := [], uvs := [] } c = { state := s, ovs := [], uvs := [] }) :
    judgeSlot s k = crash (comparePairs s k).1 (comparePairs s k).2 := by
  have judged : (judgedIn s k).foldl judgeSample { state := s, ovs := [], uvs := [] } = { state := s, ovs := [], uvs := [] } := by
    generalize judgedIn s k = l at steady
    induction l with
    | nil => rfl
    | cons c r ih =>
      rw [List.foldl_cons, steady c List.mem_cons_self]
      exact ih fun x hx => steady x (List.mem_cons_of_mem c hx)
  simp only [judgeSlot, hrefs, hm, if_false, List.foldl_nil, judged, List.nil_append]

/-! ## The counterexample -/

/-- A RUNNING analog paired channel in the middle of its windows, as its judge has left it, with a scaled value. -/
def steadyHalf (v : Int) : Chan := { Chan.reset with
  raw := 30000, kindEff := 3, st := .running, pg := true, wasRunning := true, scaled := v }

/-- A device in RUN at the decisions of slot 0, of whose channels 0 and 12 each names channel 24 as its partner. The samples of 0 and
24 agree, and that of 12 is one above them. -/
def partnerNamedTwice : State :=
  let s := Tests.at' 30 (Tests.inMode .run)
  { s with
    latched := [(keyOf 0x1000 2, 24), (keyOf 0x100C 2, 24)]
    sup := { s.sup with chans := [(0, steadyHalf 0), (12, steadyHalf 1), (24, steadyHalf 0)] } }

/-- Each hypothesis of the statement about the pair of channels 0 and 24 holds. -/
theorem partnerNamedTwice_meets :
    let s := partnerNamedTwice
    running s = true ∧ converting s = true ∧ s.sup.mode ≠ .boot ∧ ranIn (conv s 0) 0 = some 0 ∧ ranIn (conv s 2) 0 = some 0 ∧
    partner s 0 = some 24 ∧ (chan s 24).kindEff = 3 ∧ (chan s 0).st = .running ∧ (chan s 24).st = .running ∧
    (chan s 0).pairErr = false ∧ (chan s 0).pairCnt ≤ 16 ∧ (chan s 0).scaled - (chan s 24).scaled = 0 := by decide

theorem judgeSample_partnerNamedTwice {c : Nat} (h : c ∈ judgedIn partnerNamedTwice 0) :
    judgeSample { state := partnerNamedTwice, ovs := [], uvs := [] } c = { state := partnerNamedTwice, ovs := [], uvs := [] } := by
  rw [show judgedIn partnerNamedTwice 0 = [0, 12, 24] from rfl] at h
  simp only [List.mem_cons, List.not_mem_nil, or_false] at h
  obtain rfl | rfl | rfl := h <;> rfl

/-- Channel 24 is compared with 0 and then with 12, and keeps the difference to 12. -/
theorem pairDiff_partnerNamedTwice : (chan (judgeSlot partnerNamedTwice 0) 24).pairDiff = 1 := by
  rw [judgeSlot_steady (by decide) rfl fun _ => judgeSample_partnerNamedTwice]
  decide

/-- Refutes O27: of a pair the statement asks that the lower half name the upper one, and not that no third channel name it too. R89
treats a channel as unpaired that its partner does not name, but the statement says nothing of it, and where a third channel stands
between the halves, its comparison comes later in the slot and leaves its own difference in the upper half. -/
theorem not_judgesFilterFaults : ¬ Obligations.JudgesFilterFaults := by
  unfold Obligations.JudgesFilterFaults
  intro h
  obtain ⟨hr, hc, hmode, hran, hran', hpartner, hkind, hst, hst', herr, hcnt, hd⟩ := partnerNamedTwice_meets
  obtain ⟨-, pairs, -⟩ := h partnerNamedTwice 0 0 hr hc (by decide) hc
  obtain ⟨t, ht, halves, -⟩ := pairs 2 (by decide) (by decide) (by decide) hmode hran hran' hpartner hkind hst hst' herr hcnt
  obtain ⟨-, hdiff, -⟩ := halves 24 (.inr rfl)
  obtain ⟨f, hexec, effect⟩ := judgeSample_effect (u := partnerNamedTwice) (k := 0) hr hc rfl hc
  rw [chan_done (hexec.symm.trans ht), effect, pairDiff_partnerNamedTwice] at hdiff
  exact absurd (hdiff.trans hd) (by decide)

end Sys2Proof.Machine
end

section
/-!
SUPPORT. A place that counts as run in the tick of its request, and an edge of TRIG that takes it over (R104, R106, R178).
-/
namespace Sys2Proof.Machine

/-- The request for entry 5 that a host makes in the present tick. -/
def hostRequest (s : State) : Urgent := { src := .port .cana, entry := 5, time := s.clk.time }

/-- A device whose timed actions fill the action queue, in STANDBY, with TRIG 0 on pin 16. The one place of converter 0 is a host's of
the present tick and counts as run, so that it holds no entry. -/
def runPlaceOnFullQueue : State :=
  let s := Tests.withEng (fun e => { e with tacts := List.replicate 96 Tests.fullTact }) Tests.triggered
  modConv s 0 fun v => { v with places := [(1, hostRequest s)], urgentRun := 1 }

theorem runPlaceOnFullQueue_kept : queueKept runPlaceOnFullQueue := by
  obtain ⟨-, ⟨-, pods, -, -, ents⟩, -⟩ := Tests.wit_kept
  exact ⟨by decide, pods, .cons nofun .nil, .nil, ents⟩

/-- An edge of TRIG 0 takes the place over, and the host's request takes the next one, whose conversion is to come. -/
theorem runPlaceOnFullQueue_edge :
    ∃ t, exec (.trigEdge 0 true) runPlaceOnFullQueue = .next t ∧ aqHeld t = 97 := by
  have requests := urgentRequestsTakePlaces
  unfold Obligations.UrgentRequestsTakePlaces at requests
  obtain ⟨-, edges⟩ := requests runPlaceOnFullQueue .eng 0 5 16 true
  obtain ⟨-, wanted⟩ := edges (by decide) (by decide) (by decide) (by decide) (by decide)
  obtain ⟨-, takesOver⟩ := wanted (by decide) (by decide)
  obtain ⟨t, ht, reads⟩ := takesOver .cana 1 rfl rfl (by decide)
  exact ⟨t, ht, (of_unrouted aqHeld (fun _ => rfl) reads).trans (by decide)⟩

/-- Refutes O5: an edge of TRIG takes over the place of a host's request of its tick and is not asked for an entry, and the host's
request holds one in its new place. Where the old place counts as run the queue then holds one entry more, and nothing in the
hypothesis excludes a place that has run in the tick of its request. -/
theorem not_stepsKeepTheActionQueue : ¬ Obligations.StepsKeepTheActionQueue := by
  unfold Obligations.StepsKeepTheActionQueue
  intro h
  obtain ⟨t, ht, held⟩ := runPlaceOnFullQueue_edge
  obtain ⟨atMost, -⟩ := h { runPlaceOnFullQueue with pending := [.trigEdge 0 true] } t runPlaceOnFullQueue_kept ht
  rw [held] at atMost
  exact absurd atMost (by decide)

end Sys2Proof.Machine
end

section
/-!
SUPPORT. A rise beside flights that wait for the action queue in pods that are not in use (R179, R200).
-/
namespace Sys2Proof.Machine

/-- The entries of a flight that all wait for the action queue. -/
def waitingFlight : Map EntrySt := (List.range 32).map fun k => (k, { EntrySt.reset with wantsQ := true })

/-- A device in STANDBY, in tick 511, of whose pods 0 alone is in use: a host has asked it to rise. The flights of pods 1, 2 and 3,
which are not in use, wait for the action queue, which is empty. -/
def risesBesideWaitingFlights : State :=
  each [1, 2, 3] (Tests.asked .standby [.rise 0] [] id) fun s p => modPod s p fun q => { q with ents := waitingFlight }

theorem risesBesideWaitingFlights_lastTick :
    lastTick risesBesideWaitingFlights risesBesideWaitingFlights.pins.level = risesBesideWaitingFlights := by
  have rests : tickRests risesBesideWaitingFlights := by
    unfold tickRests accessRests lineRests
    decide
  exact Tests.lastTick_rests _ rfl rests

theorem risesBesideWaitingFlights_singlePod : singlePod risesBesideWaitingFlights Tests.quickEntry := by
  refine ⟨⟨rfl, rfl, rfl, rfl, fun r => by cases r <;> rfl, rfl, rfl, rfl, fun _ => rfl⟩, rfl, rfl, rfl, fun _ => ⟨rfl, rfl⟩,
    by decide, fun p => ?_, rfl, rfl, rfl, rfl, fun _ => rfl, by decide, by decide, rfl⟩
  match p with
  | 0 | 1 | 2 | 3 => rfl
  | _ + 4 => rfl

set_option maxRecDepth 10000 in
/-- The flights that wait ask for the whole queue, and the rail of pod 0 is not enabled. -/
theorem risesBesideWaitingFlights_boundary :
    let s := risesBesideWaitingFlights
    aqWaiting s = 96 ∧ podMayTake s = false ∧ (chan (boundary s s.pins.level) 95).enable = false := by decide

/-- Refutes O58: a rise reaches an entry only where the action queue has room behind every entry that waits for it (R179, R200). The
statement asks that the queue hold fewer than 96 entries, and says nothing of entries that wait in pods that are not in use. -/
theorem not_podRequestsRisesAndFalls : ¬ Obligations.PodRequestsRisesAndFalls := by
  unfold Obligations.PodRequestsRisesAndFalls
  intro h
  have still := risesBesideWaitingFlights_lastTick
  have requests := h risesBesideWaitingFlights risesBesideWaitingFlights.pins.level Tests.quickEntry rfl
  simp only [still] at requests
  obtain ⟨ask, -⟩ := requests rfl risesBesideWaitingFlights_singlePod rfl rfl nofun
  obtain ⟨rise, -⟩ := ask .canb 4000 rfl fun _ => rfl
  obtain ⟨-, -, admitted⟩ := rise rfl
  obtain ⟨fromOff, -⟩ := admitted (by decide) rfl nofun nofun
  obtain ⟨t, ht, -, -, -, -, -, -, -, -, enabled, -⟩ :=
    fromOff (.inl rfl) (by decide) (by decide) (by decide) (by decide)
  obtain ⟨-, -, disabled⟩ := risesBesideWaitingFlights_boundary
  obtain ⟨t', ht', reads, -⟩ := done_reads (s := risesBesideWaitingFlights) (f := fun s => whenRunning s fun s =>
    boundary s risesBesideWaitingFlights.pins.level) (whenRunning_running rfl _)
  have same : t' = t := Host.Outcome.next.inj (ht'.symm.trans ht)
  have atEnd := reads (fun s => (chan s 95).enable) fun _ _ => rfl
  rw [same, disabled] at atEnd
  exact absurd (enabled.symm.trans atEnd) (by decide)

end Sys2Proof.Machine
end

section
/-!
SUPPORT. What edges on pod request pins and event lines do, and the end of a pulse (R153, R343, R458, R466).
-/
namespace Sys2Proof.Machine

/-! ## Requests by pin (R153, R343) -/

/-- Requests that are accepted one after the other stand in that order behind those that stood before, all with the present time. -/
theorem each_accept (ask : Nat → Ask) (src : Source) (l : List Nat) (s : State) :
    each l s (fun s p => accept s (ask p) src) =
      { s with accepted := s.accepted ++ l.map fun p => { ask := ask p, src := src, time := s.clk.time } } := by
  induction l generalizing s with
  | nil => simp [each]
  | cons p l ih =>
    show each l (accept s (ask p) src) _ = _
    rw [ih]
    simp [accept]

/-- What an edge on a pod request pin does where the pin's bank is good and the edge counts as one. -/
theorem podreqEdge_effect {s : State} {k pin : Nat} {rising : Bool} (hr : running s = true) (hpin : podSupplier s k = some pin)
    (hb : bankGood s pin = true) (he : edgeless s k = false) (hm : serviceable s.sup.mode = true) :
    ∃ f, exec (.podreqEdge k rising) s = done s f ∧ f s = { setLevel s pin rising with
      accepted := if s.sup.mode = .service then s.accepted else s.accepted ++ (podNums.filter (podListens s k)).map fun p =>
        { ask := if rising then .rise p else .fall p, src := .pin, time := s.clk.time } } := by
  refine ⟨_, rfl, (whenRunning_running hr _).trans ?_⟩
  have mode : (setLevel s pin rising).sup.mode = s.sup.mode := rfl
  simp only [hpin, hb, he, mode, hm, Bool.not_false, Bool.and_true, Bool.true_and, Bool.not_eq_true', decide_eq_false_iff_not]
  by_cases service : s.sup.mode = .service
  · simp only [service, not_true_eq_false, if_false, if_true]
    rfl
  · simp only [service, not_false_eq_true, if_true, if_false]
    exact each_accept (fun p => if rising then .rise p else .fall p) .pin _ (setLevel s pin rising)

/-! ## Event lines (R458, R459, R461) -/

/-- What an edge on a live event line does: the level, a count, and where the line is not debounced its accepted level and, for
the edge that EDGE selects, its event. -/
theorem pinEventEdge_effect {s : State} {n : Nat} {rising : Bool} (hr : running s = true) (hl : pevLive s n = true) :
    ∃ f c w, exec (.pinEventEdge n rising) s = done s f ∧
      let u : State := { setLevel s (pevPin s n) rising with ctrs := c, now := w }
      let line := setPev u n { level := rising, cnt := 0 }
      f s = if pevDeb s n = 0 then if pevWants s n rising then raise line (52 + n) else line else u := by
  obtain ⟨c, w, counted⟩ : ∃ c w, (if pevWants s n rising then occPins (setLevel s (pevPin s n) rising) (1 + n)
      else setLevel s (pevPin s n) rising) = { setLevel s (pevPin s n) rising with ctrs := c, now := w } := by
    split
    · exact occ_eq ..
    · exact ⟨_, _, rfl⟩
  refine ⟨_, c, w, rfl, (whenRunning_running hr _).trans ((if_pos hl).trans ?_)⟩
  have wants : pevWants (setLevel s (pevPin s n) rising) n rising = pevWants s n rising := rfl
  simp only [wants, counted]
  rfl

/-! ## EVO pulses (R466) -/

theorem pins_captureTick (s : State) : (captureTick s).pins = s.pins := by
  unfold captureTick
  split
  · split <;> rfl
  · rfl

/-- A command that raises no event leaves the pulses as its effect has made them. -/
theorem pins_done {s t : State} {f : State → State} (h : done s f = .next t) (hq : (f s).evq = []) : t.pins = (f s).pins := by
  obtain ⟨v, hv⟩ := bothCopies_eq s f
  injection h with h
  rw [← h, hv]
  simp only [flush, hq, pins_captureTick]
  rfl

/-- The end of a pulse that is due, four cycles of CLK_BUS after its latest raise. -/
theorem evoPulseEnd_effect {s : State} {k b : Nat} (hr : running s = true) (hb : get s.pins.evoPulse 0 k = b + 1)
    (hf : (b + 16) / 512 ≤ s.clk.time / 512) (hru : running (advance s (b + 16)) = true)
    (hbu : get (advance s (b + 16)).pins.evoPulse 0 k = b + 1) :
    ∃ f, exec (.evoPulseEnd k) s = done s f ∧ f s = { advance s (b + 16) with
      pins := { (advance s (b + 16)).pins with evoPulse := put (advance s (b + 16)).pins.evoPulse 0 k 0 } } := by
  refine ⟨_, rfl, (whenRunning_running hr _).trans ?_⟩
  exact atInstant_due (by simp [evoUntil, hb]) hf hru (by simp [evoUntil, hbu]) _

/-! ## The obligation -/

/-- Settles O52: an edge on a pod request pin, an edge on an event line, the end of a pulse. -/
theorem pinEdgesAndPulses : Obligations.PinEdgesAndPulses := by
  unfold Obligations.PinEdgesAndPulses
  intro s k n rising hr
  refine ⟨fun pin hpin hb he hm => ?_, fun hl => ?_, ?_⟩
  · obtain ⟨f, hexec, effect⟩ := podreqEdge_effect (rising := rising) hr hpin hb he hm
    rw [hexec]
    exact done_effect effect rfl
  · obtain ⟨f, c, w, hexec, effect⟩ := pinEventEdge_effect (rising := rising) hr hl
    dsimp only at effect
    rw [hexec]
    refine ⟨fun hd => ?_, fun hd => ?_⟩
    · rw [if_pos hd] at effect
      obtain ⟨t, ht, reads⟩ := done_next s (setPev (setLevel s (pevPin s n) rising) n { level := rising, cnt := 0 }) f
        (by rw [effect]; split <;> rfl) rfl
      refine ⟨t, ht, fun hw => (done_shows ht _).mpr (.inr ?_), reads⟩
      rw [effect, if_pos hw]
      simp
    · rw [if_neg hd] at effect
      exact done_next s _ f (by rw [effect]; rfl) rfl
  · intro b hb hf u hru hq hbu
    obtain ⟨f, hexec, effect⟩ := evoPulseEnd_effect hr hb hf hru hbu
    obtain ⟨t, ht⟩ : ∃ t, done s f = .next t := ⟨_, rfl⟩
    have pulses : t.pins.evoPulse = put u.pins.evoPulse 0 k 0 := by
      rw [pins_done ht (by rw [effect]; exact hq), effect]
    refine ⟨t, hexec.trans ht, ?_, fun j hj => ?_, ?_⟩
    · rw [pulses, get_put_same]
    · rw [pulses, get_put_other _ _ _ hj]
    · rw [unrouted_done ht, effect]
      rfl

end Sys2Proof.Machine
end

section
/-!
SUPPORT. Falls and low periods of the fault line as a command shows them (R229 to R235, R238, R239, R243).
-/
namespace Sys2Proof.Machine

/-! ## What a command of the receiver answers -/

/-- What a command answers, where its effect reads as another state does: that state, with the queue it was given. -/
theorem done_reads_as {s w : State} {f : State → State} (h : unrouted (f s) = unrouted w) :
    ∃ t, done s f = .next t ∧ unrouted t = unrouted { w with pending := s.pending } := by
  refine ⟨_, rfl, ?_⟩
  rw [unrouted_done rfl, h]
  rfl

theorem unrouted_modLine_occLine (s : State) (code : Nat) (f : Line → Line) :
    unrouted (modLine (occLine s code) f) = unrouted (modLine s f) := by
  obtain ⟨c, w, h⟩ := occ_eq s 40 2 code 1
  rw [occLine, h]
  rfl

/-- The other devices release the line. -/
def othersRelease (s : State) : State := modLine s fun l => { l with others := false }

/-- What the device itself drives does not rest on what the others do. -/
theorem fltLow_othersRelease (s : State) : fltLow (othersRelease s) = fltLow s := by
  cases h : s.twin <;> simp only [fltLow, other, secondCopy, othersRelease, modLine, h] <;> rfl

/-- The taken level has gone high. -/
def rises (s : State) : State := modLine s fun l => { l with others := false, low := false, wait := 0, rise := s.clk.time }

/-- What a fall does that comes while the others leave the line alone. -/
theorem fltFall_effect {s : State} {tick : Nat} (hr : running s = true) (ho : s.sup.line.others = false) (ht : tick < 512)
    (hru : running (advance s (s.clk.time / 512 * 512 + tick)) = true) :
    let u := advance s (s.clk.time / 512 * 512 + tick)
    ∃ f, exec (.fltFall tick) s = done s f ∧ f s = modLine u fun l => if l.low = true then { l with others := true } else { l with
      others := true, low := true, wait := 0, fall := u.clk.time, fault := false
      arb := match l.arb with
        | .gap h => if u.clk.time < h + 800 then .broken else .gap h
        | a => a } := by
  intro u
  refine ⟨_, rfl, (whenRunning_running hr _).trans ((if_neg (by simp [ho, ht])).trans ((if_pos hru).trans ?_))⟩
  show (if u.sup.line.low = true then modLine u fun l => { l with others := true }
    else falls (modLine u fun l => { l with others := true })) = _
  cases hl : u.sup.line.low <;> simp only [modLine, falls, hl] <;> rfl

/-- What the end of a pulse does: the others release the line, and where the device does not hold it the taken level goes high. -/
theorem fltPulseEnd_effect {s : State} {len : Nat} (hr : running s = true) (hl : s.sup.line.low = true)
    (hf : (s.sup.line.fall + len) / 512 ≤ s.clk.time / 512) (hru : running (advance s (s.sup.line.fall + len)) = true) :
    let u := advance s (s.sup.line.fall + len)
    ∃ f, exec (.fltPulseEnd len) s = done s f ∧
      f s = if u.sup.line.low = true ∧ fltLow u = false then lowEnds (othersRelease u) len else othersRelease u := by
  intro u
  refine ⟨_, rfl, (whenRunning_running hr _).trans ((if_pos ?_).trans ((if_pos hru).trans ?_))⟩
  · simp only [hl, Bool.true_and, decide_eq_true_eq]
    exact hf
  · show (if u.sup.line.low && !fltLow (othersRelease u) then lowEnds (othersRelease u) len else othersRelease u) = _
    simp only [fltLow_othersRelease, Bool.and_eq_true, Bool.not_eq_true']

/-- The end of a low period that is no FAULT: a short pulse, a sync pulse, or nothing (R230, R231). -/
theorem lowEnds_pulse {u : State} {len : Nat} (hf : u.sup.line.fault = false) (hn : len < 128) :
    unrouted (lowEnds (othersRelease u) len) = unrouted
      (if 16 ≤ len ∧ len ≤ 48 then shortPulse (rises u) u.sup.line.fall
      else if 52 ≤ len ∧ len ≤ 96 then syncPulse (rises u) u.sup.line.fall
      else rises u) := by
  have noFault : ((rises u).sup.line.fault || decide (128 ≤ len)) = false := by
    simp only [Bool.or_eq_false_iff, decide_eq_false_iff_not]
    exact ⟨hf, Nat.not_le.mpr hn⟩
  have ends : lowEnds (othersRelease u) len =
      if ((rises u).sup.line.fault || decide (128 ≤ len)) = true then faultEnds (rises u) (rises u).clk.time
      else if 16 ≤ len ∧ len ≤ 48 then shortPulse (rises u) u.sup.line.fall
      else if 52 ≤ len ∧ len ≤ 96 then syncPulse (rises u) u.sup.line.fall
      else if 49 ≤ len then occLine (rises u) 4 else rises u := rfl
  rw [ends, noFault, if_neg Bool.false_ne_true]
  split
  · rfl
  · split
    · rfl
    · split
      · exact unrouted_occLine ..
      · rfl

/-- What the end of a low period reads as that is no FAULT, where the device itself does not hold the line. -/
theorem fltPulseEnd_pulse {s u : State} {f : State → State} {len : Nat}
    (effect : f s = if u.sup.line.low = true ∧ fltLow u = false then lowEnds (othersRelease u) len else othersRelease u)
    (hlow : u.sup.line.low = true) (hdrive : fltLow u = false) (hfault : u.sup.line.fault = false) (hn : len < 128) :
    (16 ≤ len ∧ len ≤ 48 → unrouted (f s) = unrouted (shortPulse (rises u) u.sup.line.fall)) ∧
    (52 ≤ len ∧ len ≤ 96 → unrouted (f s) = unrouted (syncPulse (rises u) u.sup.line.fall)) ∧
    (¬ (52 ≤ len ∧ len ≤ 96) → ¬ (16 ≤ len ∧ len ≤ 48) → unrouted (f s) = unrouted (rises u)) := by
  have pulse := (congrArg unrouted (effect.trans (if_pos ⟨hlow, hdrive⟩))).trans (lowEnds_pulse hfault hn)
  refine ⟨fun h => by rwa [if_pos h] at pulse, fun h => ?_, fun hs h => by rwa [if_neg h, if_neg hs] at pulse⟩
  rwa [if_neg (by omega), if_pos h] at pulse

/-! ## Sync pulses (R232, R233, R235) -/

theorem syncPulse_stopped {s : State} (h : s.sup.line.role = .stopped) (e : Nat) : syncPulse s e = s := by
  simp only [syncPulse, h]

/-- A sync pulse that a device takes: it aligns to it, and counts. -/
theorem align_reads (s : State) (e : Nat) : unrouted (align s e) = unrouted (modLine s fun l =>
    if l.role = .listening then
      { l with role := .synced, base := e - 44, sendFrom := l.cycle + 1, syncSeen := true, seen := 0, judged := 0, hist := [] }
    else { l with base := e - 44, syncSeen := true }) := by
  obtain ⟨c, w, h⟩ := occ_eq s 40 2 5 1
  simp only [align, occLine, h]
  cases hr : s.sup.line.role <;> simp only [modLine, hr] <;> rfl

theorem syncPulse_listening {s : State} (h : s.sup.line.role = .listening) (e : Nat) :
    unrouted (syncPulse s e) = unrouted (modLine s fun l => { l with
      role := .synced, base := e - 44, sendFrom := l.cycle + 1, syncSeen := true, seen := 0, judged := 0, hist := [] }) := by
  simp only [syncPulse, h, align_reads, modLine, if_true]

theorem syncPulse_synced {s : State} (h : s.sup.line.role = .synced) (e : Nat) :
    unrouted (syncPulse s e) = unrouted (if s.sup.line.base + 20 ≤ e ∧ e ≤ s.sup.line.base + 70
      then modLine s fun l => { l with base := e - 44, syncSeen := true } else s) := by
  simp only [syncPulse, h]
  split
  · simp only [align_reads, modLine, h]
    rfl
  · exact unrouted_occLine ..

theorem syncPulse_timekeeper {s : State} (h : s.sup.line.role = .timekeeper) (e : Nat) :
    let l := s.sup.line
    unrouted (syncPulse s e) = unrouted (if l.syncDrive = some l.cycle ∧ l.base + 40 ≤ e ∧ e ≤ l.base + 52
      then modLine s fun l => { l with syncSeen := true }
      else modLine s fun l => { l with
        role := .listening, listenAt := s.clk.time, hist := [], syncSeen := false
        syncDrive := none, hbDrive := none, cmdDrive := none, firstPulse := none }) := by
  intro l
  simp only [syncPulse, h]
  split
  · exact unrouted_occLine ..
  · unfold relisten
    rw [unrouted_modLine_occLine]
    obtain ⟨c, w, hc⟩ := occ_eq s 40 2 (if s.sup.line.base + 20 ≤ e ∧ e ≤ s.sup.line.base + 70 then 5 else 3) 1
    rw [occLine, hc]
    rfl

/-! ## Short pulses (R231, R238, R239, R243) -/

theorem isSynced_iff (l : Line) : isSynced l = true ↔ l.role = .synced ∨ l.role = .timekeeper := decide_eq_true_iff

theorem shortPulse_unsynced {s : State} (h : isSynced s.sup.line = false) (e : Nat) : shortPulse s e = s := by
  simp [shortPulse, h]

/-- A short pulse in one of the slots of the heartbeats. -/
theorem shortPulse_heartbeat {s : State} {e i : Nat} (h : isSynced s.sup.line = true) (hi : i < 15)
    (hlow : s.sup.line.base + 200 * i ≤ e) (hhigh : e < s.sup.line.base + 200 * i + 200) :
    shortPulse s e = if s.sup.line.base + 200 * i + 100 ≤ e ∧ e ≤ s.sup.line.base + 200 * i + 160
      then heartbeat s i else occLine s 3 := by
  have after : s.sup.line.base ≤ e := by omega
  have slot : (e - s.sup.line.base) / 200 = i := by omega
  have other : i ≠ 15 := by omega
  simp only [shortPulse, h, Bool.not_true, if_false, after, if_true, slot, other, hi, true_and, Bool.false_eq_true]
  congr 1
  simp only [eq_iff_iff]
  omega

/-- The length of the gap behind the first pulse of a line command. -/
theorem shortPulse_command {s : State} {e : Nat} (h : isSynced s.sup.line = true)
    (hlow : s.sup.line.base + 3000 ≤ e) (hhigh : e < s.sup.line.base + 3200) :
    (s.sup.line.firstPulse = none → shortPulse s e =
      if s.sup.line.base + 3020 ≤ e ∧ e ≤ s.sup.line.base + 3070 then modLine s fun l => { l with firstPulse := some e }
      else occLine s 3) ∧
    ∀ f up, s.sup.line.firstPulse = some f → (up = true ∧ f + 50 ≤ e ∧ e ≤ f + 70 ∨ up = false ∧ f + 90 ≤ e ∧ e ≤ f + 110) →
      shortPulse s e = lineCommand (modLine s fun l => { l with firstPulse := none }) up := by
  have after : s.sup.line.base ≤ e := by omega
  have slot : (e - s.sup.line.base) / 200 = 15 := by omega
  simp only [shortPulse, h, Bool.not_true, if_false, after, if_true, slot, Bool.false_eq_true]
  refine ⟨fun hn => ?_, fun f up hf hgap => ?_⟩
  · simp only [hn]
    rw [if_neg (by omega), if_neg (by omega)]
    congr 1
    simp only [eq_iff_iff]
    omega
  · simp only [hf]
    obtain ⟨rfl, hgap⟩ | ⟨rfl, hgap⟩ := hgap
    · exact if_pos (by omega)
    · rw [if_neg (by omega)]
      exact if_pos (by omega)

/-- A heartbeat taken, as the line unit notes it. -/
theorem heartbeat_reads (s : State) (i : Nat) : unrouted (heartbeat s i) = unrouted (modLine s fun l =>
    let l := { l with seen := setBit l.seen i }
    if isPartner s i then { l with
      joined := setBit l.joined i, absent := clrBit l.absent i, lost := clrBit l.lost i, misses := put l.misses 0 i 0 }
    else l) := by
  obtain ⟨c, w, h⟩ := occ_eq (modLine s fun l => { l with seen := setBit l.seen i }) 40 2 1 1
  have same : isPartner { modLine s fun l => { l with seen := setBit l.seen i } with ctrs := c, now := w } i = isPartner s i := rfl
  simp only [heartbeat, occLine, h, same]
  cases isPartner s i <;> rfl

/-! ## Line commands (R154, R163, R243) -/

/-- A landing that a START releases. -/
def landsAtStart (s : State) (up : Bool) (p : Nat) : Bool :=
  up && (pod s p).held && decide (entRel (entryOf s p (pod s p).k) = 3)

/-- The request of a line command to a pod. -/
def lineRequest (s : State) (up : Bool) (p : Nat) : Request :=
  { ask := if up then .rise p else .fall p, src := .line, time := s.clk.time }

/-- What a line command does with a pod: it asks it, and START releases a landing that waits for it. -/
def lineAsk (up : Bool) (s : State) (p : Nat) : State :=
  let s := { s with accepted := s.accepted ++ [lineRequest s up p] }
  if landsAtStart s up p then modPod s p fun q => { q with relLine := true } else s

theorem lineCommand_asks {s : State} (h : s.sup.mode ∈ [.standby, .ascend, .run, .descend]) (up : Bool) :
    lineCommand s up = each (podsInUse s) s (lineAsk up) := by
  simp only [List.mem_cons, List.not_mem_nil, or_false] at h
  obtain h | h | h | h := h <;> simp only [lineCommand, h] <;> rfl

theorem lineCommand_ignored {s : State} (h : s.sup.mode = .service ∨ s.sup.mode = .crash) (up : Bool) : lineCommand s up = s := by
  obtain h | h := h <;> simp only [lineCommand, h]

theorem pod_lineAsk (up : Bool) (s : State) (p j : Nat) :
    pod (lineAsk up s p) j = if j = p ∧ landsAtStart s up p = true then { pod s j with relLine := true } else pod s j := by
  have same : landsAtStart { s with accepted := s.accepted ++ [lineRequest s up p] } up p = landsAtStart s up p := rfl
  unfold lineAsk
  simp only [same]
  cases landsAtStart s up p
  · simp only [Bool.false_eq_true, and_false, if_false]
    rfl
  · simp only [and_true, if_true, pod_modPod]
    split
    · next h => rw [h]; rfl
    · rfl

/-- A line command changes nothing but the pods and the requests. -/
theorem lineAsk_eq (up : Bool) (s : State) (p : Nat) : ∃ m, lineAsk up s p = { s with
    sup := { s.sup with pods := m }, accepted := s.accepted ++ [lineRequest s up p] } := by
  unfold lineAsk
  dsimp only
  split
  · exact ⟨_, rfl⟩
  · exact ⟨s.sup.pods, rfl⟩

/-- A line command to a list of pods: each of them is asked once, in their order, and the landings among them that wait for
START are released. -/
theorem each_lineAsk (up : Bool) (l : List Nat) (s : State) : ∃ m,
    let t : State := { s with sup := { s.sup with pods := m }, accepted := s.accepted ++ l.map (lineRequest s up) }
    each l s (lineAsk up) = t ∧
    ∀ j, pod t j = if j ∈ l ∧ landsAtStart s up j = true then { pod s j with relLine := true } else pod s j := by
  induction l generalizing s with
  | nil => exact ⟨s.sup.pods, by simp [each], fun j => by simp [pod]⟩
  | cons p l ih =>
    have asked := pod_lineAsk up s p
    obtain ⟨m, hm⟩ := lineAsk_eq up s p
    obtain ⟨m', rest, pods⟩ := ih (lineAsk up s p)
    have landing : ∀ j, landsAtStart (lineAsk up s p) up j = landsAtStart s up j := fun j => by
      have entry : ∀ k, entryOf (lineAsk up s p) j k = entryOf s j k := fun k => by rw [hm]; rfl
      unfold landsAtStart
      rw [asked j]
      split <;> simp only [entry]
    refine ⟨m', ?_, fun j => ?_⟩
    · show each l (lineAsk up s p) (lineAsk up) = _
      rw [rest, hm]
      simp [lineRequest]
    · refine (pods j).trans ?_
      rw [landing j, asked j]
      by_cases hj : j = p
      · subst hj
        cases landsAtStart s up j <;> simp
      · simp [hj]

/-- What a command answers that is a line command. -/
theorem lineCommand_answers {s v : State} {f : State → State} {up : Bool} (h : unrouted (f s) = unrouted (lineCommand v up))
    (hm : v.sup.mode ∈ [.standby, .ascend, .run, .descend]) :
    ∃ t, done s f = .next t ∧
      (∀ p, pod t p = if (pod v p).inUse = true ∧ p < 48 ∧ up = true ∧ (pod v p).held = true ∧
        entRel (entryOf v p (pod v p).k) = 3 then { pod v p with relLine := true } else pod v p) ∧
      unrouted t = unrouted { v with
        sup := { v.sup with pods := t.sup.pods }
        accepted := v.accepted ++ (podsInUse v).map (lineRequest v up)
        pending := s.pending } := by
  obtain ⟨m, asked, pods⟩ := each_lineAsk up (podsInUse v) v
  rw [lineCommand_asks hm, asked] at h
  obtain ⟨t, ht, reads⟩ := done_reads_as h
  have same : t.sup.pods = m := of_unrouted (fun s => s.sup.pods) (fun _ => rfl) reads
  refine ⟨t, ht, fun p => ?_, by rw [same]; exact reads⟩
  rw [show pod t p = _ from of_unrouted (fun s => pod s p) (fun _ => rfl) reads]
  refine (pods p).trans (if_congr ?_ rfl rfl)
  simp only [mem_podsInUse_iff, landsAtStart, Bool.and_eq_true, decide_eq_true_eq]
  exact ⟨fun ⟨⟨h1, h2⟩, ⟨h3, h4⟩, h5⟩ => ⟨h2, h1, h3, h4, h5⟩, fun ⟨h2, h1, h3, h4, h5⟩ => ⟨⟨h1, h2⟩, ⟨h3, h4⟩, h5⟩⟩

/-- A change of the line unit leaves what a line command looks at. -/
theorem modLine_reads (u : State) (g : Line → Line) : (∀ p, pod (modLine u g) p = pod u p) ∧
    (∀ p k, entryOf (modLine u g) p k = entryOf u p k) ∧ podsInUse (modLine u g) = podsInUse u ∧
    (∀ up, lineRequest (modLine u g) up = lineRequest u up) := by
  have pods : ∀ p, pod (modLine u g) p = pod u p := fun _ => rfl
  exact ⟨pods, fun _ _ => rfl, by simp only [podsInUse, pods], fun _ => rfl⟩

/-- What a command answers that is a line command behind a change of the line unit. -/
theorem lineCommand_modLine_answers {s u : State} {f : State → State} {g : Line → Line} {up : Bool}
    (h : unrouted (f s) = unrouted (lineCommand (modLine u g) up)) (hm : u.sup.mode ∈ [.standby, .ascend, .run, .descend]) :
    ∃ t, done s f = .next t ∧
      (∀ p, pod t p = if (pod u p).inUse = true ∧ p < 48 ∧ up = true ∧ (pod u p).held = true ∧
        entRel (entryOf u p (pod u p).k) = 3 then { pod u p with relLine := true } else pod u p) ∧
      unrouted t = unrouted { modLine u g with
        sup := { (modLine u g).sup with pods := t.sup.pods }
        accepted := u.accepted ++ (podsInUse u).map (lineRequest u up)
        pending := s.pending } := by
  obtain ⟨pods, entries, inUse, request⟩ := modLine_reads u g
  have answered := lineCommand_answers h hm
  simp only [pods, entries, inUse, request] at answered
  exact answered

/-! ## The obligation -/

/-- Settles O30: a fall, and the end of a low period by its length, the role and the slot. -/
theorem pulsesSynchroniseAndJoin : Obligations.PulsesSynchroniseAndJoin := by
  unfold Obligations.PulsesSynchroniseAndJoin
  intro s tick len i hr
  refine ⟨?_, fun ho => ?_, ?_⟩
  · intro ho ht u hru
    obtain ⟨f, hexec, effect⟩ := fltFall_effect hr ho ht hru
    rw [hexec]
    exact done_reads_as (congrArg unrouted effect)
  · exact done_effect ((whenRunning_running hr _).trans (if_pos (Or.inl ho))) rfl
  intro hl hn hf u l e after ends answers synced sync short hru
  obtain ⟨f, hexec, effect⟩ := fltPulseEnd_effect hr hl hf hru
  change f s = if u.sup.line.low = true ∧ fltLow u = false then lowEnds (othersRelease u) len else othersRelease u at effect
  clear_value u
  have answer : ∀ g : Line → Line, unrouted (f s) = unrouted (modLine (rises u) g) → answers (ends g) := fun g hg => by
    obtain ⟨t, ht, reads⟩ := done_reads_as hg
    exact ⟨t, hexec.trans ht, reads⟩
  have stays : unrouted (f s) = unrouted (rises u) → answers (ends id) := answer id
  refine ⟨fun h => ?_, fun hlow hdrive hfault => ?_⟩
  · have stands : ¬ (u.sup.line.low = true ∧ fltLow u = false) := fun both =>
      h.elim (fun hlow => absurd (hlow.symm.trans both.1) nofun) fun hdrive => absurd (hdrive.symm.trans both.2) nofun
    obtain ⟨t, ht, reads⟩ := done_reads_as (w := othersRelease u) (congrArg unrouted (effect.trans (if_neg stands)))
    exact ⟨t, hexec.trans ht, reads⟩
  obtain ⟨shortEnds, syncEnds, noPulse⟩ := fltPulseEnd_pulse effect hlow hdrive hfault hn
  have neither : ¬ sync → ¬ short → answers (ends id) := fun hs hsh => stays (noPulse hs hsh)
  have ignored : isSynced l = false → short → answers (ends id) := fun h hsh =>
    stays ((shortEnds hsh).trans (congrArg unrouted (shortPulse_unsynced (s := rises u) h e)))
  refine ⟨neither, fun hrole => ?_, fun hrole => ⟨ignored (by simp [isSynced, hrole]), fun hs => ?_⟩, fun hrole hs => ⟨fun h => ?_,
    fun h => ?_⟩, fun hrole hs => ?_, fun hsy hsh hi => ?_, fun hsy hsh h1 h2 => ?_⟩
  · by_cases hsh : short
    · exact ignored (by simp [isSynced, hrole]) hsh
    by_cases hs : sync
    · exact stays ((syncEnds hs).trans (congrArg unrouted (syncPulse_stopped (s := rises u) hrole e)))
    · exact neither hs hsh
  · exact answer _ ((syncEnds hs).trans (syncPulse_listening (s := rises u) hrole e))
  · exact answer _ ((syncEnds hs).trans ((syncPulse_synced (s := rises u) hrole e).trans (congrArg unrouted (if_pos h))))
  · exact stays ((syncEnds hs).trans ((syncPulse_synced (s := rises u) hrole e).trans (congrArg unrouted (if_neg fun inside =>
      h.elim (Nat.not_lt.mpr inside.1) (Nat.not_lt.mpr inside.2)))))
  · have taken := (syncEnds hs).trans (syncPulse_timekeeper (s := rises u) hrole e)
    intro own
    exact ⟨fun h => answer _ (taken.trans (congrArg unrouted (if_pos h))),
      fun h => answer _ (taken.trans (congrArg unrouted (if_neg h)))⟩
  · have inSlot := fun h1 h2 => (shortEnds hsh).trans (congrArg unrouted (shortPulse_heartbeat (s := rises u) (e := e)
      ((isSynced_iff l).mpr hsy) hi h1 h2))
    have base : (rises u).sup.line.base = l.base := rfl
    rw [base] at inSlot
    refine ⟨fun h1 h2 => ?_, fun h => ?_⟩
    · have taken := inSlot (by omega) (by omega)
      rw [if_pos ⟨h1, h2⟩] at taken
      exact answer _ (taken.trans (heartbeat_reads (rises u) i))
    · have outside := inSlot (by omega) (by omega)
      rw [if_neg (by omega)] at outside
      exact stays (outside.trans (unrouted_occLine ..))
  · obtain ⟨first, second⟩ := shortPulse_command (s := rises u) (e := e) ((isSynced_iff l).mpr hsy) h1 h2
    refine ⟨fun hnone => ⟨fun h3 h4 => ?_, fun h => ?_⟩, fun g up hg hgap => ?_⟩
    · exact answer _ ((shortEnds hsh).trans (congrArg unrouted ((first hnone).trans (if_pos ⟨h3, h4⟩))))
    · refine stays ((shortEnds hsh).trans ((congrArg unrouted ((first hnone).trans (if_neg ?_))).trans (unrouted_occLine ..)))
      exact fun inside => h.elim (Nat.not_lt.mpr inside.1) (Nat.not_lt.mpr inside.2)
    · intro taken
      have command : unrouted (f s) = unrouted (lineCommand (modLine u fun l => { l with
          others := false, low := false, wait := 0, rise := u.clk.time, firstPulse := none }) up) :=
        (shortEnds hsh).trans (congrArg unrouted (second g up hg hgap))
      refine ⟨fun hm => ?_, fun hm => ?_⟩
      · obtain ⟨t, ht, pods, reads⟩ := lineCommand_modLine_answers command hm
        exact ⟨t, hexec.trans ht, pods, reads⟩
      · exact answer (fun l => { l with firstPulse := none })
          (command.trans (congrArg unrouted (lineCommand_ignored (s := modLine u _) hm up)))

end Sys2Proof.Machine
end

section

/-! SUPPORT. O57: step 5 of a device with one pod of one entry. While it goes on, such a device shows the pod unit a pod, a mode,
channels and causes (Scene, Solo): each update of the pod unit is given as what it does to them; the deadlines, the handling of
the one failure and the end of step 5 follow. -/

namespace Sys2Proof.Machine

/-! ## A device with one pod in step 5 -/

/-- What the pod unit of a device with one pod shows while a boundary goes on: that pod, the mode, the channels and the crash causes
found. -/
structure Scene where
  pod : Pod
  mode : Mode
  chans : Map Chan
  causes : List (Nat × Nat)

/-- The same with the pod changed. -/
def Scene.withPod (x : Scene) (q : Pod) : Scene := { x with pod := q }

@[simp] theorem Scene.withPod_pod (x : Scene) (q : Pod) : (x.withPod q).pod = q := rfl

/-- What the pod unit reads beside its pods. -/
def sceneView (s : State) :=
  (s.sup.mode, s.sup.chans, s.causes, s.latched, s.clk.time, s.sup.dis, s.sup.disOut, s.sup.margins)

/-- Pod 0 is the one pod in use, and no discharge watch, no discharge output and no margin is active. Settings and time are those
of the state u. -/
structure Solo (u : State) (x : Scene) (s : State) : Prop where
  pod : Machine.pod s 0 = x.pod
  others : ∀ p, p ≠ 0 → (Machine.pod s p).inUse = false
  inUse : x.pod.inUse = true
  parent : x.pod.parent = none
  view : sceneView s = (x.mode, x.chans, x.causes, u.latched, u.clk.time, [], [], [])

/-- The flight of pod 0 has one entry, and no rail of the device has its discharge supervised by an output. -/
structure OneEntry (u : State) (entry : Nat) : Prop where
  count : flightCount u 0 = 1
  entry : entryOf u 0 0 = entry
  noDis : ∀ c, c < 96 → disEn (disCfg u c) = false

namespace Solo

variable {u s t : State} {x : Scene} {entry : Nat}

/-! ### Readings -/

theorem reads (h : Solo u x s) : s.sup.mode = x.mode ∧ s.sup.chans = x.chans ∧ s.causes = x.causes ∧ s.latched = u.latched ∧
    s.clk.time = u.clk.time ∧ s.sup.dis = [] ∧ s.sup.disOut = [] ∧ s.sup.margins = [] := by
  simpa only [sceneView, Prod.mk.injEq] using h.view

theorem cfg (h : Solo u x s) (i j : Nat) : Machine.cfg s i j = Machine.cfg u i j := by
  obtain ⟨-, -, -, latched, -⟩ := h.reads
  rw [Machine.cfg, latched, Machine.cfg]

theorem frame (h : Solo u x s) : Machine.frame s = Machine.frame u := by
  obtain ⟨-, -, -, -, time, -⟩ := h.reads
  rw [Machine.frame, time, Machine.frame]

theorem podCfg (h : Solo u x s) (p i : Nat) : Machine.podCfg s p i = Machine.podCfg u p i := h.cfg _ _

theorem podUnit (h : Solo u x s) (p : Nat) : Machine.podUnit s p = Machine.podUnit u p := by
  rw [Machine.podUnit, h.podCfg, Machine.podUnit]

theorem flightCount (h : Solo u x s) (e : OneEntry u entry) : Machine.flightCount s 0 = 1 := (h.cfg _ _).trans e.count
theorem entryOf (h : Solo u x s) (e : OneEntry u entry) : Machine.entryOf s 0 0 = entry := (h.cfg _ _).trans e.entry

theorem entries (h : Solo u x s) (e : OneEntry u entry) : Machine.entries s 0 = [(0, entry)] := by
  simp [Machine.entries, h.flightCount e, h.entryOf e, List.range_succ]

theorem disEn (h : Solo u x s) (e : OneEntry u entry) {c : Nat} (hc : c < 96) : Machine.disEn (disCfg s c) = false :=
  (congrArg Machine.disEn (h.cfg _ _)).trans (e.noDis c hc)

theorem podsInUse (h : Solo u x s) : Machine.podsInUse s = [0] := by
  have first : (Machine.pod s 0).inUse = true := by rw [h.pod, h.inUse]
  have rest : (List.map Nat.succ (List.range 47)).filter (fun p => (Machine.pod s p).inUse) = [] := by
    rw [List.filter_eq_nil_iff]
    intro p hp
    obtain ⟨k, -, rfl⟩ := List.mem_map.mp hp
    simp [h.others (k + 1) (by omega)]
  exact (List.filter_cons_of_pos (p := fun p => (Machine.pod s p).inUse) first).trans (congrArg (0 :: ·) rest)

theorem chain (h : Solo u x s) : Machine.chain s 0 = [0] := by
  have parent : (Machine.pod s 0).parent = none := by rw [h.pod, h.parent]
  simp [Machine.chain, chainN, parent]

theorem below (h : Solo u x s) : Machine.below s 0 = [] := by simp [Machine.below, h.podsInUse]

theorem scopeOf (h : Solo u x s) : Machine.scopeOf s 0 = 0 := by
  simp only [Machine.scopeOf, h.chain]
  cases hr : retryEn s 0 <;> simp [List.find?, hr]

theorem deepFirst (h : Solo u x s) : Machine.deepFirst s (Machine.podsInUse s) = [0] := by rw [h.podsInUse]; rfl

theorem disOnly (h : Solo u x s) (e : OneEntry u entry) : Machine.disOnly s 0 = [] := by
  rw [Machine.disOnly, List.filter_eq_nil_iff]
  intro c hc
  simp [h.disEn e (List.mem_range.mp hc)]

/-! ### What the updates leave -/

/-- What changes nothing that the pod unit reads. -/
theorem keeps (h : Solo u x s) (hp : t.sup.pods = s.sup.pods) (hv : sceneView t = sceneView s) : Solo u x t := by
  have pods : ∀ p, Machine.pod t p = Machine.pod s p := fun p => by rw [Machine.pod, hp, Machine.pod]
  exact { h with
    pod := (pods 0).trans h.pod
    others := fun p hp => by rw [pods, h.others p hp]
    view := hv.trans h.view }

theorem modPod (h : Solo u x s) (f : Pod → Pod) (hi : (f x.pod).inUse = x.pod.inUse) (hp : (f x.pod).parent = x.pod.parent) :
    Solo u (x.withPod (f x.pod)) (Machine.modPod s 0 f) where
  pod := by rw [pod_modPod, if_pos rfl, h.pod, Scene.withPod_pod]
  others := fun p hp => by rw [pod_modPod, if_neg hp, h.others p hp]
  inUse := hi.trans h.inUse
  parent := hp.trans h.parent
  view := h.view

/-- The pod with an entry changed. -/
def onEntry (k : Nat) (f : EntrySt → EntrySt) (q : Pod) : Pod :=
  { q with ents := put q.ents EntrySt.reset k (f (get q.ents EntrySt.reset k)) }

theorem modEnt (h : Solo u x s) (k : Nat) (f : EntrySt → EntrySt) :
    Solo u (x.withPod (onEntry k f x.pod)) (Machine.modEnt s 0 k f) :=
  h.modPod (onEntry k f) rfl rfl

theorem occPod (h : Solo u x s) (code : Nat) : Solo u x (Machine.occPod s code) := by
  obtain ⟨k, w, hc⟩ := occ_eq s 20 4 code 1
  rw [Machine.occPod, hc]
  exact h.keeps rfl rfl

theorem raise (h : Solo u x s) (e : Nat) : Solo u x (Machine.raise s e) := h.keeps rfl rfl

theorem candidate (h : Solo u x s) (kind cause source f d0 d1 : Nat) :
    Solo u x (Machine.candidate s kind cause source f d0 d1) := by
  obtain ⟨r, k, q, w, hc⟩ := candidate_eq s kind cause source f d0 d1
  rw [hc]
  exact h.keeps rfl rfl

theorem setMode (h : Solo u x s) (m : Mode) : Solo u { x with mode := m } (Machine.setMode s m) := by
  have view := h.view
  simp only [sceneView, Prod.mk.injEq] at view
  obtain ⟨mode, rest⟩ := view
  by_cases hm : s.sup.mode = m
  · rw [show Machine.setMode s m = s from if_pos hm]
    exact { h with view := by simp only [sceneView, Prod.mk.injEq]; exact ⟨hm, rest⟩ }
  · obtain ⟨_, _, _, _, _, _, _, _, _, hs⟩ := setMode_eq hm
    rw [hs]
    exact { h with view := by simp only [sceneView, Prod.mk.injEq]; exact ⟨trivial, rest⟩ }

/-- The pod in another state. -/
def inState (st : PodSt) (q : Pod) : Pod := { q with st := st }

theorem setPodSt (h : Solo u x s) (st : PodSt) : Solo u (x.withPod (inState st x.pod)) (Machine.setPodSt s 0 st) := by
  unfold Machine.setPodSt
  split
  · next hst =>
    have same : inState st x.pod = x.pod := by rw [← hst, h.pod]; rfl
    rw [same]
    exact h
  · exact ((h.modPod (inState st) rfl rfl).raise 24).occPod 1

/-- The major mode that pod 0 sets. -/
def modeOf (st : PodSt) (retry : Bool) (m : Mode) : Mode :=
  match st with
  | .rising => .ascend
  | .on => .run
  | .falling => if retry then .ascend else .descend
  | .off => .standby
  | .failed | .crashed => m

theorem movePod (h : Solo u x s) (st : PodSt) :
    Solo u { x with pod := inState st x.pod, mode := modeOf st x.pod.retryActive x.mode } (Machine.movePod s 0 st) := by
  have moved := h.setPodSt st
  have retry : (Machine.pod (Machine.setPodSt s 0 st) 0).retryActive = x.pod.retryActive := by rw [moved.pod]; rfl
  unfold Machine.movePod
  simp only [if_true, retry]
  cases st
  case failed | crashed => exact moved
  case falling =>
    show Solo u { x with pod := _, mode := if x.pod.retryActive = true then _ else _ } (if x.pod.retryActive = true then _ else _)
    split <;> exact moved.setMode _
  all_goals exact moved.setMode _

/-! ### Rails, failures and waits -/

theorem releaseRail_eq (s : State) (c : Nat) : ∃ m, Machine.releaseRail s c = { s with sup := { s.sup with chans := m } } := by
  unfold Machine.releaseRail
  dsimp only
  split
  · split <;> exact ⟨_, rfl⟩
  · exact ⟨s.sup.chans, rfl⟩

theorem releaseRail (h : Solo u x s) (c : Nat) :
    Solo u { x with chans := (Machine.releaseRail s c).sup.chans } (Machine.releaseRail s c) := by
  obtain ⟨m, hm⟩ := releaseRail_eq s c
  have view := h.view
  simp only [sceneView, Prod.mk.injEq] at view
  obtain ⟨mode, -, rest⟩ := view
  rw [hm]
  exact { h with view := by simp only [sceneView, Prod.mk.injEq]; exact ⟨mode, trivial, rest⟩ }

/-- No output is owned by a pod, so that a start releases none. -/
theorem releaseOwned (h : Solo u x s) (p : Nat) : Machine.releaseOwned s p = s := by
  obtain ⟨-, -, -, -, -, -, disOut, -⟩ := h.reads
  refine each_still fun n _ => if_neg ?_
  have idle : (Machine.disOut s n).owner = none := by rw [Machine.disOut, disOut]; rfl
  simp [idle]

/-- An entry whose wait has ended as failed. -/
def endedEntry (e : EntrySt) : EntrySt := { e with waiting := false, queued := false, good := false }

/-- A pod whose entry has failed. -/
def failedPod (cause : FailCause) (f : Nat) (q : Pod) : Pod :=
  { onEntry 0 endedEntry q with failPend := true, failCause := some cause, failEntry := 0, failFrame := f }

theorem failEntry (h : Solo u x s) (cause : FailCause) (f : Nat) :
    Solo u (x.withPod (failedPod cause f x.pod)) (Machine.failEntry s 0 0 cause f) := by
  have pending := (h.modEnt 0 endedEntry).modPod (fun q => { q with failPend := true }) rfl rfl
  have noted := pending.modPod (fun q => { q with failCause := some cause, failEntry := 0, failFrame := f }) rfl rfl
  unfold Machine.failEntry noteFailure
  exact (noted.occPod 7).candidate _ _ _ _ _ _

theorem ent (h : Solo u x s) (k : Nat) : Machine.ent s 0 k = get x.pod.ents EntrySt.reset k := by rw [Machine.ent, h.pod]

theorem checkWaits (h : Solo u x s) (e : OneEntry u entry) : Machine.checkWaits s 0 = checkWait s 0 0 := by
  rw [Machine.checkWaits, h.flightCount e]
  rfl

/-- A rail that has not become good when its deadline passes fails (R165). -/
theorem checkWait_late (h : Solo u x s) (e : OneEntry u entry) (rail : entType entry = 1)
    (waits : (get x.pod.ents EntrySt.reset 0).waiting = true) (chat : (Machine.chan s (entArg entry)).chatFail = none)
    (good : (Machine.chan s (entArg entry)).good = none) (limit : entDl entry ≠ 0)
    (late : (get x.pod.ents EntrySt.reset 0).start + entDl entry * Machine.podUnit u 0 ≤ Machine.frame u) :
    checkWait s 0 0 = Machine.failEntry s 0 0 .deadline
      ((get x.pod.ents EntrySt.reset 0).start + entDl entry * Machine.podUnit u 0 - 1) := by
  have due : deadlineDue s 0 0 (Machine.frame s) = true := by
    simp only [deadlineDue, h.entryOf e, h.ent, h.podUnit, h.frame]
    simp [limit, late]
  simp only [checkWait, h.entryOf e, rail, h.ent, waits, chat, good, due, h.podUnit]
  rfl

/-- An entry that waits for nothing is not tested (R165). -/
theorem checkWait_idle (h : Solo u x s) (e : OneEntry u entry) (waits : (get x.pod.ents EntrySt.reset 0).waiting = false)
    (good : entType entry = 1 ∨ (get x.pod.ents EntrySt.reset 0).good = false) : checkWait s 0 0 = s := by
  simp only [checkWait, h.entryOf e, h.ent, waits]
  obtain rail | good := good
  · simp [rail]
  · simp only [good]
    split
    · rfl
    · split <;> rfl

/-! ### The rise -/

/-- No further entry of the flight is due. -/
theorem reach_stays {go : State → PodOp → State} {ons : List Nat} {p n : Nat}
    (h : ¬ ((Machine.pod s p).k < Machine.flightCount s p ∧ entOn (Machine.entryOf s p (Machine.pod s p).k) * Machine.podUnit s p ≤
      (Machine.pod s p).fc)) : reach go ons p n s = s := by
  cases n with
  | zero => rfl
  | succ n => exact if_neg h

/-- A flight that is not complete goes on after its waits have been tested. -/
theorem riseEnd_goes_on (h : Solo u x (Machine.checkWaits s 0)) (e : OneEntry u entry)
    (open' : x.pod.k ≠ 1 ∨ entType entry ≠ 3 ∧ (get x.pod.ents EntrySt.reset 0).good = false) :
    riseEnd s 0 = Machine.checkWaits s 0 := by
  refine if_neg ?_
  simp only [h.pod, h.flightCount e, allGood, h.entries e, h.ent]
  obtain hk | ⟨rail, bad⟩ := open'
  · simp [hk]
  · simp [rail, bad]

/-- A step of the rise that reaches no entry. -/
theorem podOp_rise (ons : List Nat) (n : Nat) (first : Bool) (hheld : first = true ∨ (Machine.pod s 0).held = false) :
    podOp ons (n + 1) s (.rise 0 first) = riseEnd (reach (podOp ons n) ons 0 33
      (Machine.modPod (if first || (Machine.pod s 0).queueWait then s else Machine.modPod s 0 fun q => { q with fc := q.fc + 1 }) 0
        fun q => { q with queueWait := false })) 0 := by
  refine if_neg ?_
  obtain rfl | held := hheld
  · simp
  · simp [held]

/-! ### The descent -/

theorem members_rail (h : Solo u x s) (e : OneEntry u entry) (rail : entType entry = 1) :
    members s 0 = [.rail 0 (entArg entry)] := by
  simp [members, h.entries e, h.disOnly e, rail, insertMember]

theorem members_landing (h : Solo u x s) (e : OneEntry u entry) (landing : entType entry = 3) : members s 0 = [] := by
  simp [members, h.entries e, h.disOnly e, landing]

/-- A pod whose descent begins. -/
def descentPod (f : Nat) (retry : Bool) (q : Pod) : Pod := { q with
  ents := q.ents.map fun x => (x.1, { x.2 with waiting := false, queued := false })
  held := false, hf := 0, queueWait := false, frozen := false, descFrame := f
  retryActive := retry, exhausted := q.exhausted && retry }

theorem beginDescent (h : Solo u x s) (retry : Bool) :
    Solo u { x with
        pod := inState .falling (descentPod (Machine.frame u) retry x.pod), mode := if retry then .ascend else .descend }
      (Machine.beginDescent s 0 retry) := by
  have begun := (h.modPod (descentPod (Machine.frame s) retry) rfl rfl).movePod .falling
  rw [h.frame] at begun
  unfold Machine.beginDescent
  rw [h.frame]
  exact begun

/-- A pod without what the steps of a descent change. -/
def offDescent (q : Pod) : Pod := { q with ents := [], dc := 0, timeout := false, descFault := false, disFault := false, gate := 0 }

theorem offDescent_onEntry (k : Nat) (f : EntrySt → EntrySt) (q : Pod) : offDescent (onEntry k f q) = offDescent q := by
  unfold onEntry
  generalize put q.ents EntrySt.reset k (f (get q.ents EntrySt.reset k)) = m
  rfl

theorem railOff_of_chans {c : Nat} (hc : t.sup.chans = s.sup.chans) (h : railOff c s) : railOff c t := by
  simpa only [railOff, chan, hc] using h

/-- A rail without a discharge output is switched off. -/
theorem switchOff (h : Solo u x s) (e : OneEntry u entry) {c : Nat} (hc : c < 96) :
    railOff c (Machine.switchOff s 0 (.rail 0 c)) ∧
    ∃ y, Solo u y (Machine.switchOff s 0 (.rail 0 c)) ∧ y.mode = x.mode ∧ y.causes = x.causes ∧
      offDescent y.pod = offDescent x.pod := by
  have released := (h.releaseRail c).occPod 4
  have off : railOff c (Machine.occPod (Machine.releaseRail s c) 4) := by
    refine railOff_of_chans ?_ (railOff_releaseRail (s := s) (.inl rfl))
    obtain ⟨-, chans, -⟩ := released.reads
    exact chans
  unfold Machine.switchOff
  dsimp only
  generalize Machine.occPod (Machine.releaseRail s c) 4 = v at released off
  rw [if_neg (by rw [(released.modEnt 0 _).disEn e hc]; exact Bool.false_ne_true)]
  exact ⟨off, _, released.modEnt 0 _, rfl, rfl, offDescent_onEntry _ _ _⟩

/-- A pod at the first step of its descent, at a later one, and at its limit; and its entry at the first step. -/
def fallingPod (q : Pod) : Pod := { q with dc := 0, timeout := false, descFault := false, disFault := false }
def agedPod (q : Pod) : Pod := { q with dc := q.dc + 1 }
def timedOutPod (q : Pod) : Pod := { q with timeout := true }
def fallingEntry (e : EntrySt) : EntrySt := { e with swOff := false, disd := false, wantsQ := false }

/-- One step of a descent. -/
theorem podOp_fall {s₁ s₂ : State} (ons : List Nat) (n : Nat) (first : Bool)
    (h₁ : (if first then each (members s 0) (Machine.modPod s 0 fallingPod) fun s m => memberStart s 0 m
      else Machine.modPod s 0 agedPod) = s₁)
    (h₂ : (each (members s₁ 0) s₁ fun s m => memberReached s 0 m) = s₂) :
    podOp ons (n + 1) s (.fall 0 first) =
      if (members s₂ 0).all (memberDone s₂ 0) then podOp ons n s₂ (.fallen 0)
      else if !first && decide (Machine.podCfg s₂ 0 8 * Machine.podUnit s₂ 0 ≤ (Machine.pod s₂ 0).dc) then
        if timeoutCrash s₂ 0 then { Machine.raise s₂ 4 with causes := s₂.causes ++ [(7, 0x80)] }
        else
          let low := Machine.deepFirst s₂ (Machine.below s₂ 0)
          podOp ons n (Machine.raise (Machine.modPod (each low (each (low ++ [0]) s₂ fun s q => forceMembers s 0 q) forceBelow) 0
            timedOutPod) 4) (.fallen 0)
      else
        let v := switchAll (podOp ons n) 0 (gateDelay s₂ 0) (members s₂ 0) s₂
        if (Machine.pod v 0).st = .falling then Machine.modPod v 0 fun q => { q with gate := gateOf v 0 } else v := by
  subst h₁ h₂
  rfl

/-- The descent of a rail that was reached and has no off-delay switches it off at once (R185, R186, R190). -/
theorem fall_switchesOff (h : Solo u x s) (e : OneEntry u entry) (rail : entType entry = 1) (hc : entArg entry < 96)
    (noDelay : entOff entry = 0) (falls : x.pod.st = .falling) (reached : (get x.pod.ents EntrySt.reset 0).reached = true)
    (ons : List Nat) (n : Nat) :
    railOff (entArg entry) (podOp ons (n + 1) s (.fall 0 true)) ∧ ∃ y, Solo u y (podOp ons (n + 1) s (.fall 0 true)) ∧
      y.mode = x.mode ∧ y.causes = x.causes ∧ offDescent y.pod = offDescent x.pod := by
  have begun := h.modPod fallingPod rfl rfl
  have started := begun.modEnt 0 fallingEntry
  have h₁ : (if true then each (members s 0) (Machine.modPod s 0 fallingPod) fun s m => memberStart s 0 m
      else Machine.modPod s 0 agedPod) = Machine.modEnt (Machine.modPod s 0 fallingPod) 0 0 fallingEntry := by
    rw [if_pos rfl, h.members_rail e rail]
    exact if_pos (by rw [begun.ent]; exact reached)
  have entry0 : Machine.ent _ 0 0 = fallingEntry _ := (started.ent 0).trans (get_put_same ..)
  have same : offDescent (onEntry 0 fallingEntry (fallingPod x.pod)) = offDescent x.pod := offDescent_onEntry _ _ _
  generalize Machine.modEnt (Machine.modPod s 0 fallingPod) 0 0 fallingEntry = s₁ at h₁ started entry0
  have list := started.members_rail e rail
  have h₂ : (each (members s₁ 0) s₁ fun s m => memberReached s 0 m) = s₁ := by
    rw [list]
    exact if_neg (by simp [entry0, fallingEntry])
  have delay : memberOff s₁ 0 (.rail 0 (entArg entry)) = 0 := by rw [memberOff, started.entryOf e, noDelay]
  have waits : memberDone s₁ 0 (.rail 0 (entArg entry)) = false := by simp [memberDone, entry0, fallingEntry]
  have due : memberSwOff s₁ 0 (.rail 0 (entArg entry)) = false := by simp [memberSwOff, entry0, fallingEntry]
  have gate : gateDelay s₁ 0 = some 0 := by simp [gateDelay, list, waits, delay]
  have switched : switchAll (podOp ons n) 0 (some 0) [.rail 0 (entArg entry)] s₁ = Machine.switchOff s₁ 0 (.rail 0 (entArg entry)) := by
    simp [switchAll, delay, due]
  obtain ⟨off, y, hy, mode, causes, kept⟩ := started.switchOff e hc
  rw [podOp_fall ons n true h₁ h₂, if_neg (by simp [list, waits]), if_neg (by simp), gate, list, switched]
  generalize Machine.switchOff s₁ 0 (.rail 0 (entArg entry)) = v at off hy
  have still : (Machine.pod v 0).st = .falling := by
    rw [hy.pod]
    exact (congrArg Pod.st (kept.trans same)).trans falls
  dsimp only
  rw [if_pos still]
  exact ⟨off, _, hy.modPod _ rfl rfl, mode, causes, kept.trans same⟩

theorem event_setPodSt {st : PodSt} (h : (Machine.pod s 0).st ≠ st) : 24 ∈ (Machine.setPodSt s 0 st).evq := by
  rw [show Machine.setPodSt s 0 st = _ from if_neg h]
  exact (keepsEvent 24).toKeptAtStep5.occPod 1 (by simp [Machine.raise])

/-- A pod when its descent has ended, and what then becomes of the retry that the descent was to serve. -/
def fallenPod (q : Pod) : Pod := { q with ents := [], gate := 0xFF, frozen := false }
def retriedPod (q : Pod) : Pod := { q with exhausted := false }
def restingPod (q : Pod) : Pod := { q with retryActive := false }
def failedLastPod (q : Pod) : Pod := { q with failedLast := true }

/-- The end of a descent that no retry and no latched rise follows. -/
theorem podOp_fallen_off (ons : List Nat) (n : Nat) (exhausted : (Machine.pod s 0).exhausted = false)
    (retries : (Machine.pod s 0).retryActive = false) (latched : (Machine.pod s 0).latched = false) :
    podOp ons (n + 1) s (.fallen 0) = Machine.movePod (Machine.modPod (Machine.modPod s 0 fallenPod) 0 restingPod) 0 .off :=
  (if_neg (by simp [exhausted])).trans ((if_neg (by simp [retries])).trans (if_neg (by simp [latched])))

/-- The end of a descent that had no retry left. -/
theorem podOp_fallen_failed {s₂ : State} (ons : List Nat) (n : Nat) (exhausted : (Machine.pod s 0).exhausted = true)
    (latched : (Machine.pod s 0).latched = false)
    (h₂ : Machine.raise (Machine.modPod (Machine.modPod s 0 fallenPod) 0 retriedPod) 2 = s₂) (stays : failCrash s₂ 0 = false) :
    podOp ons (n + 1) s (.fallen 0) =
      Machine.movePod (Machine.modPod (Machine.movePod (Machine.modPod s₂ 0 restingPod) 0 .failed) 0 failedLastPod) 0 .off := by
  subst h₂
  exact (if_pos exhausted).trans ((if_neg (ne_true_of_eq_false stays)).trans
    ((if_neg (by simp [latched])).trans (if_pos rfl)))

/-- A descent that no retry follows ends OFF (R172, R191). -/
theorem fallen_off (h : Solo u x s) (retries : x.pod.retryActive = false) (exhausted : x.pod.exhausted = false)
    (latched : x.pod.latched = false) (ons : List Nat) (n : Nat) :
    Solo u { x with pod := inState .off (restingPod (fallenPod x.pod)), mode := .standby } (podOp ons (n + 1) s (.fallen 0)) := by
  have moved := ((h.modPod fallenPod rfl rfl).modPod restingPod rfl rfl).movePod .off
  rw [podOp_fallen_off ons n (by rw [h.pod, exhausted]) (by rw [h.pod, retries]) (by rw [h.pod, latched])]
  exact moved

/-- The descent of a flight that has no retry left ends FAILED, for pod 0 OFF with FAILED_LAST, with events 2 and 24 (R149, R171,
R172). -/
theorem fallen_failed (h : Solo u x s) (exhausted : x.pod.exhausted = true) (latched : x.pod.latched = false)
    (stays : failCrash u 0 = false) (ons : List Nat) (n : Nat) :
    2 ∈ (podOp ons (n + 1) s (.fallen 0)).evq ∧ 24 ∈ (podOp ons (n + 1) s (.fallen 0)).evq ∧
    Solo u { x with
      pod := inState .off (failedLastPod (inState .failed (restingPod (retriedPod (fallenPod x.pod))))), mode := .standby }
      (podOp ons (n + 1) s (.fallen 0)) := by
  have ended := ((h.modPod fallenPod rfl rfl).modPod retriedPod rfl rfl).raise 2
  have raised : 2 ∈ (Machine.raise (Machine.modPod (Machine.modPod s 0 fallenPod) 0 retriedPod) 2).evq := by simp [Machine.raise]
  have fails := podOp_fallen_failed (s := s) ons n (by rw [h.pod, exhausted]) (by rw [h.pod, latched]) rfl
    (by rw [failCrash, podCtrl, ended.podCfg]; exact stays)
  rw [fails]
  generalize Machine.raise (Machine.modPod (Machine.modPod s 0 fallenPod) 0 retriedPod) 2 = v at ended raised
  have failed := (ended.modPod restingPod rfl rfl).movePod .failed
  have kept := (keepsEvent 2).toKeptAtStep5.movePod 0 .failed ((keepsEvent 2).toKeptAtStep5.pod 0 restingPod raised)
  generalize Machine.movePod (Machine.modPod v 0 restingPod) 0 .failed = w at failed kept
  have marked := failed.modPod failedLastPod rfl rfl
  have moves : (Machine.pod (Machine.modPod w 0 failedLastPod) 0).st ≠ .off := by
    rw [marked.pod]
    exact nofun
  exact ⟨(keepsEvent 2).toKeptAtStep5.movePod 0 .off ((keepsEvent 2).toKeptAtStep5.pod 0 failedLastPod kept),
    (keepsEvent 24).toKeptAtStep5.setMode (m := .standby) rfl (event_setPodSt moves), marked.movePod .off⟩

/-- The descent of a flight without a rail ends at once. -/
theorem fall_landing (h : Solo u x s) (e : OneEntry u entry) (landing : entType entry = 3) (ons : List Nat) (n : Nat) :
    podOp ons (n + 1) s (.fall 0 true) = podOp ons n (Machine.modPod s 0 fallingPod) (.fallen 0) := by
  have begun := h.modPod fallingPod rfl rfl
  have none := begun.members_landing e landing
  have h₁ : (if true then each (members s 0) (Machine.modPod s 0 fallingPod) fun s m => memberStart s 0 m
      else Machine.modPod s 0 agedPod) = Machine.modPod s 0 fallingPod := by
    rw [if_pos rfl, h.members_landing e landing]
    rfl
  have h₂ : (each (members (Machine.modPod s 0 fallingPod) 0) (Machine.modPod s 0 fallingPod) fun s m => memberReached s 0 m) =
      Machine.modPod s 0 fallingPod := by rw [none]; rfl
  rw [podOp_fall ons n true h₁ h₂, if_pos (by rw [none]; rfl)]

/-! ### The descent limit -/

theorem timeoutCrash (h : Solo u x s) : Machine.timeoutCrash s 0 = Machine.timeoutCrash u 0 := congrArg (bit · 0) (h.podCfg 0 9)

/-- A step of a descent whose rail has not discharged when the limit passes. -/
theorem fall_late (h : Solo u x s) (e : OneEntry u entry) (rail : entType entry = 1)
    (disd : (get x.pod.ents EntrySt.reset 0).disd = false) (disch : (chan s (entArg entry)).disch = false)
    (late : Machine.podCfg u 0 8 * Machine.podUnit u 0 ≤ x.pod.dc + 1) (ons : List Nat) (n : Nat) :
    podOp ons (n + 1) s (.fall 0 false) =
      if Machine.timeoutCrash u 0 = true
      then { Machine.raise (Machine.modPod s 0 agedPod) 4 with causes := (Machine.modPod s 0 agedPod).causes ++ [(7, 0x80)] }
      else podOp ons n (Machine.raise (Machine.modPod (forceMembers (Machine.modPod s 0 agedPod) 0 0) 0 timedOutPod) 4) (.fallen 0) := by
  have aged := h.modPod agedPod rfl rfl
  have entry0 : Machine.ent (Machine.modPod s 0 agedPod) 0 0 = get x.pod.ents EntrySt.reset 0 := aged.ent 0
  have charged : (chan (Machine.modPod s 0 agedPod) (entArg entry)).disch = false := disch
  obtain ⟨s₁, hs⟩ : ∃ v, v = Machine.modPod s 0 agedPod := ⟨_, rfl⟩
  have h₁ : (if false = true then each (members s 0) (Machine.modPod s 0 fallingPod) fun s m => memberStart s 0 m
      else Machine.modPod s 0 agedPod) = s₁ := (if_neg Bool.false_ne_true).trans hs.symm
  rw [← hs] at aged entry0 charged ⊢
  have list := aged.members_rail e rail
  have h₂ : (each (members s₁ 0) s₁ fun s m => memberReached s 0 m) = s₁ := by
    rw [list]
    exact if_neg (by simp [charged])
  have waits : memberDone s₁ 0 (.rail 0 (entArg entry)) = false := by simp [memberDone, entry0, disd]
  have due : (!false && decide (Machine.podCfg s₁ 0 8 * Machine.podUnit s₁ 0 ≤ (Machine.pod s₁ 0).dc)) = true := by
    rw [aged.podCfg, aged.podUnit, aged.pod, Bool.not_false, Bool.true_and, decide_eq_true_eq]
    exact late
  rw [podOp_fall ons n false h₁ h₂, if_neg (by simp [list, waits]), if_pos due, aged.timeoutCrash, aged.below]
  rfl

/-- The limit of a descent switches off its rail (R192). -/
theorem forceMembers (h : Solo u x s) (e : OneEntry u entry) (rail : entType entry = 1) (hc : entArg entry < 96) :
    Machine.forceMembers s 0 0 = Machine.releaseRail s (entArg entry) := by
  have rails : railEntries s 0 = [(0, entArg entry)] := by simp [railEntries, h.entries e, rail]
  have released := h.releaseRail (entArg entry)
  have rails' : railEntries (Machine.releaseRail s (entArg entry)) 0 = [(0, entArg entry)] := by
    simp [railEntries, released.entries e, rail]
  have live : (decide ((0 : Nat) = 0) || !decide ((Machine.pod s 0).st = .off)) = true := rfl
  have forced : Machine.forceMembers s 0 0 = each ((railEntries (Machine.releaseRail s (entArg entry)) 0).map (·.2) ++
      Machine.disOnly (Machine.releaseRail s (entArg entry)) 0) (Machine.releaseRail s (entArg entry)) fun s c =>
        if Machine.disEn (disCfg s c) then assertDisNew s c (Machine.frame s) else s := by
    unfold Machine.forceMembers
    rw [live, rails]
    rfl
  rw [forced, rails', released.disOnly e]
  exact if_neg (ne_true_of_eq_false (released.disEn e hc))

/-- A descent limit that does not crash forces the pod OFF (R192). -/
theorem fall_forced (h : Solo u x s) (e : OneEntry u entry) (rail : entType entry = 1) (hc : entArg entry < 96)
    (disd : (get x.pod.ents EntrySt.reset 0).disd = false) (disch : (chan s (entArg entry)).disch = false)
    (late : Machine.podCfg u 0 8 * Machine.podUnit u 0 ≤ x.pod.dc + 1) (stays : Machine.timeoutCrash u 0 = false)
    (retries : x.pod.retryActive = false) (exhausted : x.pod.exhausted = false) (latched : x.pod.latched = false)
    (ons : List Nat) (n : Nat) :
    4 ∈ (podOp ons (n + 2) s (.fall 0 false)).evq ∧ railOff (entArg entry) (podOp ons (n + 2) s (.fall 0 false)) ∧
    ∃ y, Solo u y (podOp ons (n + 2) s (.fall 0 false)) ∧ y.mode = .standby ∧ y.causes = x.causes ∧ y.pod.st = .off ∧
      y.pod.timeout = true ∧ y.pod.failPend = x.pod.failPend := by
  rw [h.fall_late e rail disd disch late, if_neg (ne_true_of_eq_false stays)]
  have aged := h.modPod agedPod rfl rfl
  rw [aged.forceMembers e rail hc]
  have released := aged.releaseRail (entArg entry)
  have off : railOff (entArg entry) (Machine.releaseRail (Machine.modPod s 0 agedPod) (entArg entry)) := railOff_releaseRail (.inl rfl)
  generalize Machine.releaseRail (Machine.modPod s 0 agedPod) (entArg entry) = v at released off
  have ended := (released.modPod timedOutPod rfl rfl).raise 4
  have raised : 4 ∈ (Machine.raise (Machine.modPod v 0 timedOutPod) 4).evq := by simp [Machine.raise]
  have fallen := ended.fallen_off retries exhausted latched ons n
  refine ⟨(keepsEvent 4).toKeptAtStep5.podOp ons _ _ _ raised, railOff_of_chans ?_ off, _, fallen, rfl, rfl, rfl, rfl, rfl⟩
  obtain ⟨-, chans, -⟩ := fallen.reads
  obtain ⟨-, chans', -⟩ := released.reads
  exact chans.trans chans'.symm

/-- A descent limit that crashes (R192, R217). -/
theorem fall_crashes (h : Solo u x s) (e : OneEntry u entry) (rail : entType entry = 1)
    (disd : (get x.pod.ents EntrySt.reset 0).disd = false) (disch : (chan s (entArg entry)).disch = false)
    (late : Machine.podCfg u 0 8 * Machine.podUnit u 0 ≤ x.pod.dc + 1) (crashes : Machine.timeoutCrash u 0 = true)
    (ons : List Nat) (n : Nat) :
    4 ∈ (podOp ons (n + 1) s (.fall 0 false)).evq ∧
    Solo u { x with pod := agedPod x.pod, causes := x.causes ++ [(7, 0x80)] } (podOp ons (n + 1) s (.fall 0 false)) := by
  rw [h.fall_late e rail disd disch late, if_pos crashes]
  have aged := h.modPod agedPod rfl rfl
  refine ⟨by simp [Machine.raise], ?_⟩
  have view := aged.view
  simp only [sceneView, Prod.mk.injEq] at view
  obtain ⟨mode, chans, causes, rest⟩ := view
  exact { aged with view := by simp only [sceneView, Prod.mk.injEq, causes]; exact ⟨mode, chans, rfl, rest⟩ }

/-! ### Failures -/

theorem waitingFailures (h : Solo u x s) : Machine.waitingFailures s = if x.pod.failPend then [0] else [] := by
  rw [Machine.waitingFailures, h.deepFirst]
  cases hp : x.pod.failPend <;> simp [List.filter, h.pod, hp]

theorem nextFailure (h : Solo u x s) (ons : List Nat) : Machine.nextFailure s ons = if x.pod.failPend then some 0 else none := by
  rw [Machine.nextFailure, h.waitingFailures]
  cases x.pod.failPend
  · rfl
  · have alone : bringsFirst s ons [0] 0 = false := by simp [bringsFirst]
    have around : aroundScope s 0 0 = false := by simp [aroundScope]
    simp [List.find?, alone, around]

theorem handleFailures_none (h : Solo u x s) (hp : x.pod.failPend = false) (ons : List Nat) (n : Nat) :
    handleFailures ons n s = s := by
  cases n with
  | zero => rfl
  | succ n => simp [handleFailures, h.nextFailure, hp]

/-- One failure, which brings about no other, is handled alone. -/
theorem handleFailures_one (h : Solo u x s) (hp : x.pod.failPend = true) {ons : List Nat} {y : Scene}
    (ht : Solo u y (takeFailure s ons 0)) (hy : y.pod.failPend = false) (n : Nat) :
    handleFailures ons (n + 1) s = takeFailure s ons 0 := by
  simp only [handleFailures, h.nextFailure, hp, if_true]
  exact ht.handleFailures_none hy ons n

/-- Without children no parent's entry fails. -/
theorem failParents (h : Solo u x s) (e : OneEntry u entry) (noChild : entType entry ≠ 2) : Machine.failParents s = s := by
  refine each_still fun p hp => ?_
  have mem := (List.mem_filter.mp hp).1
  rw [h.deepFirst, List.mem_singleton] at mem
  subst mem
  have none : childEntries s 0 = [] := by simp [childEntries, h.entries e, noChild]
  rw [none]
  rfl

/-- A pod whose retry descent has no retry left. -/
def exhaustedPod (q : Pod) : Pod := { q with retryActive := true, exhausted := true, cooldown := none }

/-- A failure of a flight without retries starts the descent that has no retry left (R168, R171). -/
theorem handleFailure_exhausted (h : Solo u x s) (rises : x.pod.st = .rising) (noRetry : retryEn u 0 = false) (ons : List Nat) :
    handleFailure s ons 0 = podOp ons podFuel (Machine.beginDescent (Machine.modPod s 0 exhaustedPod) 0 true) (.fall 0 true) := by
  have count : retryCount s 0 = 0 := by
    have en : retryEn s 0 = false := (congrArg (bit · 7) (h.podCfg 0 1)).trans noRetry
    simp [retryCount, en]
  have tried : Solo u _ (Machine.modPod s 0 exhaustedPod) := h.modPod exhaustedPod rfl rfl
  have start : handleFailure s ons 0 = startRetry s ons 0 := by
    simp [handleFailure, h.scopeOf, h.chain, h.pod, rises]
  have exhausted : (fun q : Pod => ({ q with
      retryActive := true, exhausted := !false, cooldown := none, retriesUsed := q.retriesUsed } : Pod)) = exhaustedPod := rfl
  rw [start]
  simp only [startRetry, count, Nat.not_lt_zero, decide_false, Nat.reduceEqDiff, Bool.or_self, Bool.false_eq_true, if_false, exhausted,
    tried.below]
  rfl

/-! ### Step 5 -/

/-- A pod without what step 5 clears at its end. -/
def unreleasedPod (q : Pod) : Pod := { q with relHost := false, relEng := false, relLine := false }
def spentPod (q : Pod) : Pod := { unreleasedPod q with ents := [] }

theorem spentPod_onEntry (k : Nat) (f : EntrySt → EntrySt) (q : Pod) : spentPod (onEntry k f q) = spentPod q := by
  unfold onEntry
  generalize put q.ents EntrySt.reset k (f (get q.ents EntrySt.reset k)) = m
  rfl

/-- An entry that has a place of the action queue. -/
def servedEntry (e : EntrySt) : EntrySt := { e with wantsQ := false, queued := true }

/-- Entries that waited for the action queue may have a place now. -/
theorem serveWaiting (h : Solo u x s) : ∃ q, Solo u (x.withPod q) (Machine.serveWaiting s) ∧ spentPod q = spentPod x.pod := by
  have serves : Machine.serveWaiting s = each (List.range 32) s fun s k =>
      if (Machine.ent s 0 k).wantsQ && decide (0 < aqFree s) then Machine.modEnt s 0 k servedEntry else s := by
    rw [Machine.serveWaiting, h.deepFirst, each, List.foldl_cons, List.foldl_nil]
    rfl
  rw [serves]
  refine each_holds (P := fun t => ∃ q, Solo u (x.withPod q) t ∧ spentPod q = spentPod x.pod) (fun t k ⟨q, ht, hq⟩ => ?_)
    (List.range 32) s ⟨x.pod, h, rfl⟩
  split
  · exact ⟨_, ht.modEnt k servedEntry, (spentPod_onEntry k servedEntry q).trans hq⟩
  · exact ⟨q, ht, hq⟩

/-- Where no entry waits for the action queue, none is served. -/
theorem serveWaiting_still (h : Solo u x s) (hw : ∀ k, (get x.pod.ents EntrySt.reset k).wantsQ = false) :
    Machine.serveWaiting s = s := by
  rw [Machine.serveWaiting, h.deepFirst]
  refine each_still fun p hp => each_still fun k _ => if_neg ?_
  rw [List.mem_singleton.mp hp, h.ent, hw]
  exact Bool.false_ne_true

/-- The end of step 5: the reports and releases of the closing frame count no longer. -/
def podsEnd (s : State) : State :=
  let s := Machine.serveWaiting s
  let s := each (listedChans s) s spendChan
  let s := each (Machine.podsInUse s) s spendPod
  let s := if (Machine.podsInUse s).any fun p => (Machine.pod s p).queueWait then Machine.occPod s 2 else s
  if (Machine.podsInUse s).any fun p => (Machine.pod s p).held then Machine.occPod s 5 else s

/-- Step 5 of a device with one pod: it is evaluated, and its failure handled. -/
theorem evalPods (h : Solo u x s) (hc : ∀ c, (chan s c).chatFail = none ∧ (chan s c).descFault = false)
    (hw : ∀ k, (get x.pod.ents EntrySt.reset k).wantsQ = false) :
    ∃ ons, Machine.evalPods s = podsEnd (handleFailures ons 100 (evalPod ons s 0)) := by
  have noFault : each (listedChans s) s releaseFaulted = s := each_still fun c _ => by simp [releaseFaulted, (hc c).2]
  have noChatter : each (listedChans s) s recordChatter = s := each_still fun c _ => by simp [recordChatter, (hc c).1]
  refine ⟨(Machine.podsInUse s).filter fun p => decide ((Machine.pod s p).st = .on), ?_⟩
  unfold Machine.evalPods
  simp only [noChatter, noFault, h.serveWaiting_still hw, h.deepFirst]
  rfl

/-- What the end of step 5 leaves. -/
theorem podsEnd_solo (h : Solo u x s) (c : Nat) : ∃ y, Solo u y (podsEnd s) ∧ y.mode = x.mode ∧ y.causes = x.causes ∧
    spentPod y.pod = spentPod x.pod ∧ (railOff c s → railOff c (podsEnd s)) := by
  obtain ⟨q, served, spent⟩ := h.serveWaiting
  have off : railOff c s → railOff c (Machine.serveWaiting s) := railOff_of_chans (served.reads.2.1.trans h.reads.2.1.symm)
  unfold podsEnd
  dsimp only
  generalize Machine.serveWaiting s = a at served off
  have reported : (∃ k, Solo u { x with pod := q, chans := k } (each (listedChans a) a spendChan)) ∧
      (railOff c s → railOff c (each (listedChans a) a spendChan)) := by
    refine each_holds (f := spendChan) (P := fun t => (∃ k, Solo u { x with pod := q, chans := k } t) ∧ (railOff c s → railOff c t))
      (fun t j ⟨⟨k, ht⟩, hoff⟩ => ⟨⟨(spendChan t j).sup.chans, ?_⟩, fun hs => ?_⟩) _ a ⟨⟨x.chans, served⟩, off⟩
    · have view := ht.view
      simp only [sceneView, Prod.mk.injEq] at view
      obtain ⟨mode, -, rest⟩ := view
      exact { ht with view := by simp only [sceneView, Prod.mk.injEq]; exact ⟨mode, trivial, rest⟩ }
    · exact railOff_modChan (f := fun ch => { ch with good := none, chatFail := none }) j (fun _ h => h) (hoff hs)
  generalize each (listedChans a) a spendChan = b at reported
  obtain ⟨⟨k, reported⟩, off⟩ := reported
  rw [reported.podsInUse]
  have released : Solo u _ (each [0] b spendPod) := reported.modPod unreleasedPod rfl rfl
  have off : railOff c s → railOff c (each [0] b spendPod) := off
  generalize each [0] b spendPod = d at released off
  have counted : ∀ {v : State} {b : Bool} {code : Nat} {y : Scene}, Solo u y v ∧ (railOff c s → railOff c v) →
      Solo u y (if b = true then Machine.occPod v code else v) ∧
        (railOff c s → railOff c (if b = true then Machine.occPod v code else v)) := by
    intro v b code y ⟨hv, hoff⟩
    split
    · exact ⟨hv.occPod code, fun hs => railOff_of_chans ((hv.occPod code).reads.2.1.trans hv.reads.2.1.symm) (hoff hs)⟩
    · exact ⟨hv, hoff⟩
  obtain ⟨ended, off⟩ := counted (code := 5) (counted (code := 2) ⟨released, off⟩)
  exact ⟨_, ended, rfl, rfl, spent, off⟩

/-- The end of step 5 discards no event. -/
theorem podsEnd_event {e : Nat} (h : e ∈ s.evq) : e ∈ (podsEnd s).evq := by
  have k := (keepsEvent e).toKeptAtStep5
  have spent : e ∈ (each (Machine.podsInUse (each (listedChans (Machine.serveWaiting s)) (Machine.serveWaiting s) spendChan))
      (each (listedChans (Machine.serveWaiting s)) (Machine.serveWaiting s) spendChan) spendPod).evq :=
    each_holds (P := fun s => e ∈ s.evq) (fun _ _ hs => k.pod _ _ hs) _ _
      (each_holds (P := fun s => e ∈ s.evq) (fun _ _ hs => k.chan _ _ hs) _ _ (k.serveWaiting h))
  unfold podsEnd
  dsimp only
  generalize each (Machine.podsInUse (each (listedChans (Machine.serveWaiting s)) (Machine.serveWaiting s) spendChan))
    (each (listedChans (Machine.serveWaiting s)) (Machine.serveWaiting s) spendChan) spendPod = v at spent
  have counted : ∀ {v : State} {b : Bool} {code : Nat}, e ∈ v.evq → e ∈ (if b = true then Machine.occPod v code else v).evq :=
    fun hv => KeptAtStep5.ite (P := fun s => e ∈ s.evq) (k.occPod _ hv) hv
  exact counted (counted spent)

/-! ### The deadlines of one pod -/

theorem evalPod_rising (h : Solo u x s) (rises : x.pod.st = .rising) (flies : x.pod.frozen = false) (warm : x.pod.cooldown = none)
    (later : x.pod.startFrame ≠ Machine.frame u) (ons : List Nat) :
    evalPod ons s 0 = podOp ons podFuel s (.rise 0 false) := by
  have first : decide (x.pod.startFrame = Machine.frame u) = false := decide_eq_false later
  simp only [evalPod, h.pod, rises, flies, warm, h.frame, first]
  rfl

/-- A pod whose rise has gone on for a frame. -/
def risenPod (q : Pod) : Pod := { q with fc := q.fc + 1 }
def admittedPod (q : Pod) : Pod := { q with queueWait := false }

/-- A pod of which no failure waits to be handled. -/
def handledPod (q : Pod) : Pod := { q with failPend := false }

/-- A rail that misses its deadline fails, at the latest frame f of its wait. -/
theorem rise_fails (h : Solo u x s) (e : OneEntry u entry) (rail : entType entry = 1)
    (held : x.pod.held = false) (admitted : x.pod.queueWait = false) (all : x.pod.k = 1)
    (waits : (get x.pod.ents EntrySt.reset 0).waiting = true) (chat : (chan s (entArg entry)).chatFail = none)
    (good : (chan s (entArg entry)).good = none) (limit : entDl entry ≠ 0)
    (late : (get x.pod.ents EntrySt.reset 0).start + entDl entry * Machine.podUnit u 0 ≤ Machine.frame u) {f : Nat}
    (hf : f = (get x.pod.ents EntrySt.reset 0).start + entDl entry * Machine.podUnit u 0 - 1) (ons : List Nat) (n : Nat) :
    Solo u (x.withPod (failedPod .deadline f (admittedPod (risenPod x.pod)))) (podOp ons (n + 1) s (.rise 0 false)) := by
  have risen : Solo u (x.withPod (admittedPod (risenPod x.pod))) (Machine.modPod (Machine.modPod s 0 risenPod) 0 admittedPod) :=
    (h.modPod risenPod rfl rfl).modPod admittedPod rfl rfl
  have chat : (chan (Machine.modPod (Machine.modPod s 0 risenPod) 0 admittedPod) (entArg entry)).chatFail = none := chat
  have good : (chan (Machine.modPod (Machine.modPod s 0 risenPod) 0 admittedPod) (entArg entry)).good = none := good
  have step : podOp ons (n + 1) s (.rise 0 false) =
      riseEnd (reach (podOp ons n) ons 0 33 (Machine.modPod (Machine.modPod s 0 risenPod) 0 admittedPod)) 0 := by
    rw [podOp_rise ons n false (.inr (by rw [h.pod, held])), if_neg (by rw [h.pod, admitted]; decide)]
    rfl
  rw [step]
  generalize Machine.modPod (Machine.modPod s 0 risenPod) 0 admittedPod = v at risen chat good
  have complete : ¬ ((Machine.pod v 0).k < Machine.flightCount v 0 ∧
      entOn (Machine.entryOf v 0 (Machine.pod v 0).k) * Machine.podUnit v 0 ≤ (Machine.pod v 0).fc) := fun due => by
    rw [risen.pod, risen.flightCount e] at due
    exact absurd (all ▸ due.1 : (1 : Nat) < 1) (Nat.lt_irrefl 1)
  have fails : Machine.checkWaits v 0 = Machine.failEntry v 0 0 .deadline f := by
    rw [risen.checkWaits e, hf]
    exact risen.checkWait_late e rail waits chat good limit late
  have failed : Solo u (x.withPod (failedPod .deadline f (admittedPod (risenPod x.pod)))) (Machine.checkWaits v 0) := by
    rw [fails]
    exact risen.failEntry .deadline f
  rw [reach_stays complete, failed.riseEnd_goes_on e (.inr ⟨by rw [rail]; decide, ?_⟩)]
  · exact failed
  · exact congrArg EntrySt.good (get_put_same ..)

/-- Reading a table whose values have been changed alike. -/
theorem get_mapValues {α : Type} (m : Map α) {d : α} {f : α → α} (hd : f d = d) (k : Nat) :
    get (m.map fun x => (x.1, f x.2)) d k = f (get m d k) := by
  induction m with
  | nil => exact hd.symm
  | cons x r ih =>
    simp only [List.map_cons, get]
    split
    · rfl
    · exact ih

theorem reached_descentPod (f : Nat) (retry : Bool) (q : Pod) :
    (get (descentPod f retry q).ents EntrySt.reset 0).reached = (get q.ents EntrySt.reset 0).reached := by
  have waitless := get_mapValues (d := EntrySt.reset) (f := fun e => { e with waiting := false, queued := false }) q.ents rfl 0
  exact (congrArg EntrySt.reached waitless :)

/-- The pod in its last descent, after a failure that no retry follows. -/
def lastDescentPod (f : Nat) (q : Pod) : Pod := inState .falling (descentPod f true (exhaustedPod (handledPod q)))

theorem takeFailure (h : Solo u x s) (rises : x.pod.st = .rising) (noRetry : retryEn u 0 = false) (ons : List Nat) :
    ∃ v, Solo u { x with pod := lastDescentPod (Machine.frame u) x.pod, mode := .ascend } v ∧
      Machine.takeFailure s ons 0 = Machine.failParents (podOp ons podFuel v (.fall 0 true)) := by
  have handled := h.modPod handledPod rfl rfl
  have begun := (handled.modPod exhaustedPod rfl rfl).beginDescent true
  refine ⟨_, begun, ?_⟩
  exact congrArg Machine.failParents (handled.handleFailure_exhausted rises noRetry ons)

/-- A rail that misses its deadline, without a retry: it is switched off in the descent that ends FAILED (R165, R168, R171). -/
theorem deadline (h : Solo u x s) (e : OneEntry u entry) (noRetry : retryEn u 0 = false) (rises : x.pod.st = .rising)
    (failed : x.pod.failPend = true) (rail : entType entry = 1) (hc : entArg entry < 96) (noDelay : entOff entry = 0)
    (reached : (get x.pod.ents EntrySt.reset 0).reached = true) (ons : List Nat) :
    railOff (entArg entry) (handleFailures ons 100 s) ∧ ∃ y, Solo u y (handleFailures ons 100 s) ∧ y.mode = .ascend ∧
      y.causes = x.causes ∧ offDescent y.pod = offDescent (lastDescentPod (Machine.frame u) x.pod) := by
  obtain ⟨v, begun, takes⟩ := h.takeFailure rises noRetry ons
  obtain ⟨off, y, hy, mode, causes, kept⟩ := begun.fall_switchesOff e rail hc noDelay rfl
    ((reached_descentPod (Machine.frame u) true (exhaustedPod (handledPod x.pod))).trans reached) ons 199
  have taken : Machine.takeFailure s ons 0 = podOp ons (199 + 1) v (.fall 0 true) := takes.trans (hy.failParents e (by rw [rail]; decide))
  have handled : y.pod.failPend = false := congrArg Pod.failPend kept
  rw [← taken] at hy off
  rw [h.handleFailures_one failed hy handled 99]
  exact ⟨off, y, hy, mode, causes, kept⟩

/-- A pod whose landing has waited for a frame. -/
def waitedPod (q : Pod) : Pod := { q with hf := q.hf + 1 }

theorem released_host (h : Solo u x s) (rel : entRel entry = 0) (hh : x.pod.relHost = false) (ons : List Nat) :
    released s ons 0 entry = false := by
  simp only [released, rel, h.pod, hh]

/-- A held landing that times out fails. -/
theorem landing_fails (h : Solo u x s) (e : OneEntry u entry) (held : x.pod.held = true)
    (first : x.pod.k = 0) (rel : entRel entry = 0) (hh : x.pod.relHost = false) (limit : entDl entry ≠ 0)
    (late : entDl entry * Machine.podUnit u 0 ≤ x.pod.hf + 1) (ons : List Nat) (n : Nat) :
    Solo u (x.withPod (failedPod .landingTimeout (Machine.frame u - 1) (waitedPod x.pod))) (podOp ons (n + 1) s (.rise 0 false)) := by
  have waited := h.modPod waitedPod rfl rfl
  have index : (Machine.pod s 0).k = 0 := by rw [h.pod, first]
  have waits : (!false && (Machine.pod s 0).held) = true := by rw [h.pod, held]; rfl
  have holds : ¬ released s ons 0 (Machine.entryOf s 0 (Machine.pod s 0).k) = true := by
    rw [index, h.entryOf e, h.released_host rel hh]
    exact Bool.false_ne_true
  have due : entDl (Machine.entryOf s 0 (Machine.pod s 0).k) ≠ 0 ∧ entDl (Machine.entryOf s 0 (Machine.pod s 0).k) *
      Machine.podUnit (Machine.modPod s 0 waitedPod) 0 ≤ (Machine.pod s 0).hf + 1 := by
    rw [index, h.entryOf e, waited.podUnit, h.pod]
    exact ⟨limit, late⟩
  have step : podOp ons (n + 1) s (.rise 0 false) = Machine.checkWaits (Machine.failEntry (Machine.modPod s 0 waitedPod) 0
      (Machine.pod s 0).k .landingTimeout (Machine.frame (Machine.modPod s 0 waitedPod) - 1)) 0 :=
    (if_pos waits).trans ((if_neg holds).trans (congrArg (Machine.checkWaits · 0) (if_pos due)))
  have failed := waited.failEntry .landingTimeout (Machine.frame u - 1)
  rw [step, index, waited.frame, failed.checkWaits e, failed.checkWait_idle e (congrArg EntrySt.waiting (get_put_same ..))
    (.inr (congrArg EntrySt.good (get_put_same ..)))]
  exact failed

/-- A landing that times out, without a retry: its flight ends FAILED at once (R163, R168, R171, R172). -/
theorem landingTimeout (h : Solo u x s) (e : OneEntry u entry) (noRetry : retryEn u 0 = false) (stays : failCrash u 0 = false)
    (rises : x.pod.st = .rising) (failed : x.pod.failPend = true) (latched : x.pod.latched = false) (landing : entType entry = 3)
    (ons : List Nat) :
    2 ∈ (handleFailures ons 100 s).evq ∧ 24 ∈ (handleFailures ons 100 s).evq ∧ ∃ y, Solo u y (handleFailures ons 100 s) ∧
      y.mode = .standby ∧ y.causes = x.causes ∧ y.pod.st = .off ∧ y.pod.failedLast = true ∧ y.pod.failCause = x.pod.failCause ∧
      y.pod.failFrame = x.pod.failFrame := by
  obtain ⟨v, begun, takes⟩ := h.takeFailure rises noRetry ons
  have ends := begun.fall_landing e landing ons 199
  obtain ⟨two, event, hy⟩ := (begun.modPod fallingPod rfl rfl).fallen_failed rfl latched stays ons 198
  have taken : Machine.takeFailure s ons 0 = podOp ons (198 + 1) (Machine.modPod v 0 fallingPod) (.fallen 0) :=
    (takes.trans (congrArg Machine.failParents ends)).trans (hy.failParents e (by rw [landing]; decide))
  rw [← taken] at hy two event
  rw [h.handleFailures_one failed hy rfl 99]
  exact ⟨two, event, _, hy, rfl, rfl, rfl, rfl, rfl, rfl⟩

/-- The pod at the start of a retry's rise. -/
def retryPod (f : Nat) (q : Pod) : Pod := { q with
  latched := false, cooldown := none, frozen := false, exhausted := false, queueWait := false, held := false
  hf := 0, fc := 0, k := 0, ents := [], startFrame := f, relHost := false, relEng := false, relLine := false
  failedLast := false, retryActive := true }

theorem commonStart_retry (h : Solo u x s) :
    Solo u { x with pod := inState .rising (retryPod (Machine.frame u) x.pod), mode := .ascend } (commonStart s 0 true) := by
  have started := h.modPod (retryPod (Machine.frame u)) rfl rfl
  have moved := started.movePod .rising
  rw [← started.releaseOwned 0, ← h.frame] at moved
  rw [← h.frame]
  exact moved

/-- A first step of a rise that reaches no entry. -/
theorem rise_waits (h : Solo u x s) (e : OneEntry u entry) (rail : entType entry = 1) (delay : 0 < entOn entry)
    (first : x.pod.k = 0) (count : x.pod.fc = 0) (fresh : x.pod.ents = []) (ons : List Nat) (n : Nat) :
    Solo u (x.withPod (admittedPod x.pod)) (podOp ons (n + 1) s (.rise 0 true)) := by
  have admitted := h.modPod admittedPod rfl rfl
  have step : podOp ons (n + 1) s (.rise 0 true) = riseEnd (reach (podOp ons n) ons 0 33 (Machine.modPod s 0 admittedPod)) 0 :=
    podOp_rise ons n true (.inl rfl)
  rw [step]
  generalize Machine.modPod s 0 admittedPod = v at admitted
  have early : ¬ ((Machine.pod v 0).k < Machine.flightCount v 0 ∧
      entOn (Machine.entryOf v 0 (Machine.pod v 0).k) * Machine.podUnit v 0 ≤ (Machine.pod v 0).fc) := fun due => by
    have index : (Machine.pod v 0).k = 0 ∧ (Machine.pod v 0).fc = 0 := by
      rw [admitted.pod]
      exact ⟨first, count⟩
    rw [index.1, index.2, admitted.entryOf e] at due
    have unit : 0 < Machine.podUnit v 0 := Nat.pow_pos (by decide)
    exact absurd due.2 (Nat.not_le.mpr (Nat.mul_pos delay unit))
  have entry0 : get (admittedPod x.pod).ents EntrySt.reset 0 = EntrySt.reset := congrArg (get · EntrySt.reset 0) fresh
  have waits : Machine.checkWaits v 0 = v := by
    rw [admitted.checkWaits e]
    exact admitted.checkWait_idle e (congrArg EntrySt.waiting entry0) (.inl rail)
  have tested := admitted
  rw [← waits] at tested
  rw [reach_stays early, tested.riseEnd_goes_on e (.inl (by rw [Scene.withPod_pod]; exact first ▸ Nat.zero_ne_one)), waits]
  exact admitted

/-- A retry cooldown that ends begins a new rise, which reaches no entry with an on-delay (R160, R170). -/
theorem cooldownEnds (h : Solo u x s) (e : OneEntry u entry) (rises : x.pod.st = .rising) (flies : x.pod.frozen = false)
    (handled : x.pod.failPend = false) {o : Nat} (cools : x.pod.cooldown = some o)
    (due : o + Machine.podCfg u 0 2 * Machine.podUnit u 0 ≤ Machine.frame u) (rail : entType entry = 1) (delay : 0 < entOn entry)
    (ons : List Nat) : Solo u
      { x with pod := admittedPod (inState .rising (retryPod (Machine.frame u) x.pod)), mode := .ascend }
      (handleFailures ons 100 (evalPod ons s 0)) := by
  have ready : cooldownDue s 0 = true := by
    simp only [cooldownDue, h.pod, cools, h.podCfg, h.podUnit, h.frame]
    exact decide_eq_true due
  have starts : evalPod ons s 0 = podOp ons (199 + 1) (commonStart s 0 true) (.rise 0 true) := by
    simp only [evalPod, h.pod, rises, flies, cools, ready, Bool.false_eq_true, if_false, Option.isSome_some, if_true, podFuel]
  have risen := h.commonStart_retry.rise_waits e rail delay rfl rfl rfl ons 199
  rw [starts, risen.handleFailures_none handled ons 100]
  exact risen

theorem evalPod_falling (h : Solo u x s) (falls : x.pod.st = .falling) (later : x.pod.descFrame ≠ Machine.frame u) (ons : List Nat) :
    evalPod ons s 0 = podOp ons podFuel s (.fall 0 false) := by
  have first : decide (x.pod.descFrame = Machine.frame u) = false := decide_eq_false later
  simp only [evalPod, h.pod, falls, h.frame, first]

/-! ### The boundary's evaluation -/

/-- Without watches no discharge limit passes. -/
theorem disBoundaries_still (h : Solo u x s) : (each channels s fun s c => disBoundary s c (Machine.frame s)) = s := by
  obtain ⟨-, -, -, -, -, dis, -⟩ := h.reads
  refine each_still fun c _ => if_neg ?_
  have unwatched : (Machine.dis s c).watch = none := by rw [Machine.dis, dis]; rfl
  simp [disLimitDue, unwatched]

theorem evalMargins_still (h : Solo u x s) : evalMargins s = s := Machine.evalMargins_still h.reads.2.2.2.2.2.2.2

/-- Step 5 where the pod unit finds no cause of a crash. -/
theorem evalStep_quiet (h : Solo u x (Machine.evalPods s)) (hc : x.causes = []) : evalStep s false = Machine.evalPods s := by
  obtain ⟨-, -, causes, -⟩ := h.reads
  rw [hc] at causes
  have none : podCauses (Machine.evalPods s) false = [] := by
    unfold podCauses
    rw [causes]
    rfl
  unfold evalStep
  simp only [h.disBoundaries_still, Bool.false_eq_true, if_false, withoutCauses causes, none]
  exact h.evalMargins_still

/-- A crash of a device without margins leaves none. -/
theorem margins_enterCrash {v : State} (hm : v.sup.mode ≠ .crash) (h : v.sup.margins = []) (code src : Nat) (later entry : Bool) :
    (enterCrash v code src later entry).sup.margins = [] := by
  obtain ⟨_, _, _, _, _, _, _, _, _, _, -, -, latched⟩ := latchCrash_eq hm code src later entry
  have atLatch : (latchCrash v code src later entry).sup.margins = [] := by
    rw [latched]
    exact h
  rw [enterCrash_stages]
  generalize latchCrash v code src later entry = w at atLatch
  obtain ⟨_, dropped⟩ := dropRails_eq w
  have atDrop : (dropRails w).sup.margins = [] := by
    rw [dropped]
    exact atLatch
  generalize dropRails w = d at atDrop
  have none : activeMargins d = [] := by simp [activeMargins, atDrop]
  have uncut : cutMargins d = d := by
    rw [cutMargins, none, each, List.foldl_nil]
  obtain ⟨-, atCrash, -⟩ := crashPods_frame d
  rw [uncut]
  generalize crashPods d = p at atCrash
  obtain ⟨_, _, flagged⟩ := assertFlagged_eq p
  have atFlag : (assertFlagged p).sup.margins = [] := by
    rw [flagged]
    exact atCrash.trans atDrop
  generalize assertFlagged p = q at atFlag
  exact atFlag

/-- A cause that the pod unit has found crashes the device. -/
theorem crash_one {v : State} (hm : v.sup.mode = .ascend ∨ v.sup.mode = .descend) (code src : Nat) :
    crash v [(code, src)] = enterCrash v code src false false := by
  obtain m | m := hm <;> simp only [crash, m] <;> rfl

/-- Step 5 where the pod unit finds one cause of a crash. -/
theorem evalStep_crashes (h : Solo u x (Machine.evalPods s)) {code src : Nat} (hc : x.causes = [(code, src)]) (h6 : code ≠ 6)
    (hm : x.mode = .ascend ∨ x.mode = .descend) :
    evalStep s false = enterCrash { Machine.evalPods s with causes := [] } code src false false := by
  obtain ⟨mode, -, causes, -, -, -, -, margins⟩ := h.reads
  have still := h.disBoundaries_still
  rw [hc] at causes
  unfold evalStep
  generalize Machine.evalPods s = v at mode causes margins still
  have one : podCauses v false = [(code, src)] := by
    unfold podCauses
    rw [causes]
    simp [h6]
  rw [← mode] at hm
  have alive : v.sup.mode ≠ .crash := by
    obtain m | m := hm <;> rw [m] <;> exact nofun
  simp only [still, Bool.false_eq_true, if_false, one]
  rw [crash_one (v := { v with causes := [] }) hm]
  exact Machine.evalMargins_still (margins_enterCrash (v := { v with causes := [] }) alive margins code src false false)

end Solo

end Sys2Proof.Machine

end

section

/-! SUPPORT. O57: the boundary of a device with one pod of one entry (LoneBoundary), and what its four commands show. -/

namespace Sys2Proof.Machine

/-! ## The boundary of a device with one pod -/

/-- What the opening of a frame leaves of the pod unit and its surroundings. -/
def openView (s : State) := (s.clk.time, s.sup.pods, s.sup.chans, s.sup.mode, s.sup.crash)

theorem openView_openFrame {s : State} (hs : serviceable s.sup.mode = true) (hp : portRests s) :
    openView (openFrame s) = openView s := by
  obtain ⟨hj, hq⟩ := Prod.mk.inj hp
  have converted : ∃ m a b t e k w, (if converting s then each converters s convFrameStart else s) = { s with
      sup := { s.sup with convs := m }, reqA := a, reqB := b, reqT := t, reqE := e, ctrs := k, now := w } := by
    split
    · exact (convFrameStarts_eq s).1
    · exact ⟨_, _, _, _, _, _, _, rfl⟩
  obtain ⟨m, a, b, t, e, k, w, hconv⟩ := converted
  unfold openFrame
  split
  · rw [hconv]
    dsimp only
    have opened : openView (modLine { s with
      sup := { s.sup with convs := m }, reqA := a, reqB := b, reqT := t, reqE := e, ctrs := k, now := w }
      fun l => { l with faultFrame := l.low && l.fault }) = openView s := rfl
    generalize hv : modLine { s with
      sup := { s.sup with convs := m }, reqA := a, reqB := b, reqT := t, reqE := e, ctrs := k, now := w }
      (fun l => { l with faultFrame := l.low && l.fault }) = v at opened
    have mode : v.sup.mode = s.sup.mode := by rw [← hv]; rfl
    have job : v.odp.job = none := by rw [← hv]; exact hj
    have words : v.hostQ = [] := by rw [← hv]; exact hq
    clear hv
    obtain ⟨x, hrun⟩ := startRun_eq v true
    have odpRests : odpWord { v with bist := x } = { v with bist := x } := by simp [odpWord, job]
    have hostRests : hostWord { v with bist := x } = { v with bist := x } := by simp [hostWord, words]
    obtain ⟨k', w', hw⟩ := countWait_eq { v with bist := x }
    rw [bootStep_serviceable (by rw [mode]; exact hs), hrun, odpRests, hostRests, hw]
    exact opened
  · rfl

/-- The device c at step 5 of the boundary of s, on which nothing but its one pod is on its way; u is the device at the last tick
of the closing frame. -/
structure LoneBoundary (s u c : State) (entry : Nat) : Prop where
  opens : ∃ v, boundary s s.pins.level = { openFrame (evalStep c false) with twin := v }
  rests : portRests c
  time : c.clk.time = (u.clk.time / 512 + 1) * 512
  latched : c.latched = u.latched
  one : OneEntry c entry
  solo : Solo c { pod := pod u 0, mode := u.sup.mode, chans := u.sup.chans, causes := [] } c

theorem lonePod.boundary {s u : State} {entry : Nat} (hu : u = lastTick s s.pins.level) (hr : running u = true)
    (hl : lonePod u entry) (hm : u.sup.mode = .ascend ∨ u.sup.mode = .descend) : ∃ c, LoneBoundary s u c entry := by
  subst hu
  obtain ⟨⟨awaits, margins, disOut, disWatch, -, noDis, inUse, parent, -, -, -, -, count, entry', -⟩, accepted, -⟩ := hl
  have awaits : nothingAwaits (lastTick s s.pins.level) := by
    obtain ⟨h1, h2, h3, -, h5, h6, h7, h8, h9⟩ := awaits
    exact ⟨h1, h2, h3, accepted, h5, h6, h7, h8, h9⟩
  obtain ⟨c, v, hb, hc, hj, hq, ht⟩ := boundary_open hr awaits
  have reads := closed_reads (fun s => (s.sup.pods, s.sup.mode, s.sup.chans, s.latched, s.sup.dis, s.sup.disOut, running s))
    (fun _ => rfl) (lastTick s s.pins.level)
  have lines := congrArg Prod.snd (lineView_closed (lastTick s s.pins.level))
  have unmargined : (closed (samplePodreq (lastTick s s.pins.level))).sup.margins = [] := closed_margins margins
  have causes := awaits.1
  rw [← hc] at reads lines unmargined
  clear hc
  generalize lastTick s s.pins.level = u at *
  simp only [Prod.mk.injEq] at reads
  obtain ⟨pods, mode, chans, latched, dis', disOut', run⟩ := reads
  obtain ⟨e, k, w, he⟩ := engineStep_eq c
  rw [he] at hb
  have evaluates : (running c && serviceable c.sup.mode) = true := by
    obtain m | m := hm <;> rw [run, hr, mode, m] <;> rfl
  have alive : c.sup.mode ≠ .crash := by
    obtain m | m := hm <;> rw [mode, m] <;> exact nofun
  rw [autoClear_still (by exact alive), evalNow, if_pos (by exact evaluates)] at hb
  have pod_eq : ∀ p, pod { c with eng := e, ctrs := k, now := w } p = pod u p := fun p => congrArg (get · Pod.reset p) pods
  have cfg_eq : ∀ i j, cfg { c with eng := e, ctrs := k, now := w } i j = cfg u i j := fun i j => by
    show get c.latched _ _ = get u.latched _ _
    rw [latched]
  exact ⟨{ c with eng := e, ctrs := k, now := w }, {
    opens := ⟨v, hb⟩
    rests := Prod.ext hj hq
    time := ht
    latched := latched
    one := {
      count := (cfg_eq _ _).trans count
      entry := (cfg_eq _ _).trans entry'
      noDis := fun n hn => (congrArg disEn (cfg_eq _ _)).trans (noDis n hn) }
    solo := {
      pod := pod_eq 0
      others := fun p hp => by rw [pod_eq, inUse, decide_eq_false hp]
      inUse := inUse 0
      parent := parent
      view := by
        simp only [sceneView, Prod.mk.injEq]
        exact ⟨mode, chans, lines.trans causes, trivial, trivial, dis'.trans disWatch, disOut'.trans disOut, unmargined⟩ } }⟩

namespace LoneBoundary

variable {s u c v : State} {y : Scene} {entry : Nat} {due : State → Bool}

theorem frame (b : LoneBoundary s u c entry) : Machine.frame c = u.clk.time / 512 + 1 := by
  rw [Machine.frame, b.time]
  exact Nat.mul_div_cancel _ (by decide)

theorem cfg (b : LoneBoundary s u c entry) (i j : Nat) : Machine.cfg c i j = Machine.cfg u i j := by
  rw [Machine.cfg, b.latched, Machine.cfg]

theorem chan (b : LoneBoundary s u c entry) (k : Nat) : Machine.chan c k = Machine.chan u k :=
  congrArg (get · Chan.reset k) b.solo.reads.2.1

theorem podUnit (b : LoneBoundary s u c entry) : Machine.podUnit c 0 = Machine.podUnit u 0 := by
  rw [Machine.podUnit, Machine.podCfg, b.cfg, Machine.podUnit, Machine.podCfg]

/-- A command whose effect is due at the boundary shows what step 5 has left. -/
theorem answers (b : LoneBoundary s u c entry) (hr : running s = true) (hd : due s = true)
    (hm : serviceable (evalStep c false).sup.mode = true) : ∃ t, atBoundary s due = .next t ∧
      openView t = openView (evalStep c false) ∧ ∀ e ∈ (evalStep c false).evq, shows t e := by
  have rests := keepsPortRests.toKeptAtStep5.evalStep false b.rests
  obtain ⟨v, hb⟩ := b.opens
  have opened := openView_openFrame hm rests
  have shown : ∀ e ∈ (evalStep c false).evq, e ∈ (openFrame (evalStep c false)).evq := fun e => (keepsEvent e).openFrame rests
  generalize openFrame (evalStep c false) = o at hb opened shown
  obtain ⟨t, ht, view, events⟩ := atBoundary_due hr hd hb
  have read : openView t = openView o := view openView fun _ _ => rfl
  exact ⟨t, ht, read.trans opened, fun e he => (events e).mpr (.inr (shown e he))⟩

/-- What is seen after a boundary that crashes nothing. -/
theorem answers_quiet (b : LoneBoundary s u c entry) (hr : running s = true) (hd : due s = true) (he : evalPods c = Solo.podsEnd v)
    (hv : Solo c y v) (hc : y.causes = []) (hm : serviceable y.mode = true) : ∃ t, atBoundary s due = .next t ∧
      t.clk.time = (u.clk.time / 512 + 1) * 512 ∧ t.sup.mode = y.mode ∧ Solo.spentPod (pod t 0) = Solo.spentPod y.pod ∧
      (∀ e ∈ v.evq, shows t e) ∧ ∀ k, railOff k v → railOff k t := by
  obtain ⟨z, hz, mode, causes, spent, -⟩ := hv.podsEnd_solo 0
  rw [← he] at hz
  have quiet := hz.evalStep_quiet (causes.trans hc)
  obtain ⟨zmode, -, -, -, time, -⟩ := hz.reads
  obtain ⟨t, ht, view, events⟩ := b.answers hr hd (by rw [quiet, zmode, mode]; exact hm)
  rw [quiet] at view events
  simp only [openView, Prod.mk.injEq] at view
  obtain ⟨vtime, vpods, vchans, vmode, -⟩ := view
  have pod_eq : pod t 0 = z.pod := (congrArg (get · Pod.reset 0) vpods).trans hz.pod
  refine ⟨t, ht, vtime.trans (time.trans b.time), vmode.trans (zmode.trans mode), by rw [pod_eq, spent],
    fun e hv => events e (by rw [he]; exact Solo.podsEnd_event hv), fun k hk => Solo.railOff_of_chans vchans ?_⟩
  obtain ⟨-, -, -, -, -, off⟩ := hv.podsEnd_solo k
  rw [he]
  exact off hk

end LoneBoundary

/-- The time of a boundary stands while its steps follow. -/
theorem timeStands (n : Nat) : KeptAtEntry fun s => s.clk.time = n :=
  SeenAtEntry.keptAtEntry (p := fun s => s.clk.time) ⟨⟨fun _ _ => rfl, fun _ _ _ _ _ _ _ _ => rfl, fun _ _ => rfl,
    fun _ _ _ _ _ => rfl, fun _ => rfl, fun _ _ => rfl⟩, fun _ _ _ => rfl, fun _ _ => rfl, fun _ _ => rfl, fun _ _ h => h,
    fun _ => rfl⟩ n

/-- A rail of the state u whose wait has reached its deadline at the next boundary (R165). -/
structure LateRail (u : State) (entry : Nat) : Prop where
  rises : (pod u 0).st = .rising
  warm : (pod u 0).cooldown = none
  held : (pod u 0).held = false
  admitted : (pod u 0).queueWait = false
  later : (pod u 0).startFrame ≠ u.clk.time / 512 + 1
  all : (pod u 0).k = 1
  rail : entType entry = 1
  channel : entArg entry < 96
  noDelay : entOff entry = 0
  limit : entDl entry ≠ 0
  reached : (ent u 0 0).reached = true
  waits : (ent u 0 0).waiting = true
  late : (ent u 0 0).start + entDl entry * podUnit u 0 ≤ u.clk.time / 512 + 1

/-- A held landing of the state u that times out at the next boundary (R163). -/
structure LateLanding (u : State) (entry : Nat) : Prop where
  rises : (pod u 0).st = .rising
  warm : (pod u 0).cooldown = none
  held : (pod u 0).held = true
  later : (pod u 0).startFrame ≠ u.clk.time / 512 + 1
  first : (pod u 0).k = 0
  landing : entType entry = 3
  rel : entRel entry = 0
  unreleased : (pod u 0).relHost = false
  limit : entDl entry ≠ 0
  late : entDl entry * podUnit u 0 ≤ (pod u 0).hf + 1

/-- A descent of the state u whose limit passes at the next boundary (R191). -/
structure LateDescent (u : State) (entry : Nat) : Prop where
  falls : (pod u 0).st = .falling
  later : (pod u 0).descFrame ≠ u.clk.time / 512 + 1
  rail : entType entry = 1
  channel : entArg entry < 96
  disd : (ent u 0 0).disd = false
  disch : (chan u (entArg entry)).disch = false
  late : podCfg u 0 8 * podUnit u 0 ≤ (pod u 0).dc + 1

/-- The crash of a descent limit that pod 0 passes, after step 5 has taken its cause. -/
theorem podLimit_crash {v : State} (alive : v.sup.mode ≠ .crash) :
    CrashEntry v (enterCrash { v with causes := [] } 7 0x80 false false) 7 0x80 v.clk.time ∧
    (∀ e ∈ v.evq, e ∈ (enterCrash { v with causes := [] } 7 0x80 false false).evq) ∧
    0 ∈ (enterCrash { v with causes := [] } 7 0x80 false false).evq := by
  have crashed := crashEntry_enterCrash (s := { v with causes := [] }) alive (code := 7) (by decide) 0x80 false false
  obtain ⟨q, queue⟩ := evq_enterCrash (s := { v with causes := [] }) alive 7 0x80 false false
  generalize enterCrash { v with causes := [] } 7 0x80 false false = w at crashed queue
  rw [queue]
  exact ⟨{ crashed with }, fun e he => by simp [he], by simp⟩

namespace LoneBoundary

variable {s u c : State} {entry : Nat} {due : State → Bool}

theorem retryEn (b : LoneBoundary s u c entry) : Machine.retryEn c 0 = Machine.retryEn u 0 := congrArg (bit · 7) (b.cfg _ _)
theorem failCrash (b : LoneBoundary s u c entry) : Machine.failCrash c 0 = Machine.failCrash u 0 := congrArg (bit · 6) (b.cfg _ _)
theorem timeoutCrash (b : LoneBoundary s u c entry) : Machine.timeoutCrash c 0 = Machine.timeoutCrash u 0 :=
  congrArg (bit · 0) (b.cfg _ _)

theorem evalPods (b : LoneBoundary s u c entry) (hl : lonePod u entry) :
    ∃ ons, Machine.evalPods c = Solo.podsEnd (handleFailures ons 100 (evalPod ons c 0)) := by
  obtain ⟨⟨-, -, -, -, unfaulted, -, -, -, -, -, -, unqueued, -⟩, -⟩ := hl
  exact b.solo.evalPods (fun k => by rw [b.chan]; exact unfaulted k) unqueued

/-- A rail that misses its deadline (R165, R168, R171). -/
theorem deadline_falls (b : LoneBoundary s u c entry) (hl : lonePod u entry) (hr : running s = true) (hd : due s = true)
    (noRetry : Machine.retryEn u 0 = false) (x : LateRail u entry) :
    ∃ t, atBoundary s due = .next t ∧ t.clk.time = (u.clk.time / 512 + 1) * 512 ∧ (pod t 0).st = .falling ∧
      (pod t 0).failCause = some .deadline ∧ (pod t 0).failEntry = 0 ∧
      (pod t 0).failFrame = (ent u 0 0).start + entDl entry * Machine.podUnit u 0 - 1 ∧ railOff (entArg entry) t := by
  obtain ⟨ons, evaluated⟩ := b.evalPods hl
  obtain ⟨⟨-, -, -, -, unfaulted, -, -, -, -, flies, -⟩, -, noGood⟩ := hl
  have fails := b.solo.rise_fails b.one x.rail x.held x.admitted x.all x.waits (by rw [b.chan]; exact (unfaulted _).1)
    (by rw [b.chan]; exact noGood _) x.limit (by rw [b.podUnit, b.frame]; exact x.late) rfl ons 199
  have rising : evalPod ons c 0 = podOp ons (199 + 1) c (.rise 0 false) :=
    b.solo.evalPod_rising x.rises flies x.warm (by rw [b.frame]; exact x.later) ons
  rw [← rising] at fails
  have stillReached : (get (Solo.onEntry 0 Solo.endedEntry (pod u 0)).ents EntrySt.reset 0).reached = true :=
    (congrArg EntrySt.reached (get_put_same ..)).trans x.reached
  obtain ⟨off, y, hy, mode, causes, kept⟩ := fails.deadline b.one (b.retryEn.trans noRetry) x.rises rfl x.rail x.channel
    x.noDelay stillReached ons
  obtain ⟨t, ht, time, -, spent, -, offs⟩ := b.answers_quiet hr hd evaluated hy causes (by rw [mode]; rfl)
  have read : ∀ {β : Type} (p : Pod → β), (∀ q, p (Solo.spentPod q) = p q) → (∀ q, p (Solo.offDescent q) = p q) →
      p (pod t 0) = p (Solo.lastDescentPod (Machine.frame c) (Solo.failedPod .deadline
        ((ent u 0 0).start + entDl entry * Machine.podUnit c 0 - 1) (Solo.admittedPod (Solo.risenPod (pod u 0))))) := by
    intro β p spends falls
    rw [← spends, spent, spends, ← falls, kept, falls]
    rfl
  refine ⟨t, ht, time, (read Pod.st (fun _ => rfl) fun _ => rfl).trans rfl,
    (read Pod.failCause (fun _ => rfl) fun _ => rfl).trans rfl, (read Pod.failEntry (fun _ => rfl) fun _ => rfl).trans rfl,
    (read Pod.failFrame (fun _ => rfl) fun _ => rfl).trans ?_, offs _ off⟩
  rw [← b.podUnit]
  rfl

/-- A landing that times out (R163, R168, R171, R172). -/
theorem landing_fails (b : LoneBoundary s u c entry) (hl : lonePod u entry) (hr : running s = true) (hd : due s = true)
    (noRetry : Machine.retryEn u 0 = false) (stays : Machine.failCrash u 0 = false) (x : LateLanding u entry) :
    ∃ t, atBoundary s due = .next t ∧ t.clk.time = (u.clk.time / 512 + 1) * 512 ∧ (pod t 0).st = .off ∧
      (pod t 0).failedLast = true ∧ (pod t 0).failCause = some .landingTimeout ∧ (pod t 0).failFrame = u.clk.time / 512 ∧
      t.sup.mode = .standby ∧ shows t 2 ∧ shows t 24 := by
  obtain ⟨ons, evaluated⟩ := b.evalPods hl
  obtain ⟨⟨-, -, -, -, -, -, -, -, -, flies, latched, -⟩, -⟩ := hl
  have fails := b.solo.landing_fails b.one x.held x.first x.rel x.unreleased x.limit (by rw [b.podUnit]; exact x.late) ons 199
  have rising : evalPod ons c 0 = podOp ons (199 + 1) c (.rise 0 false) :=
    b.solo.evalPod_rising x.rises flies x.warm (by rw [b.frame]; exact x.later) ons
  rw [← rising] at fails
  obtain ⟨failed, moved, y, hy, mode, causes, off, failedLast, failCause, failFrame⟩ :=
    fails.landingTimeout b.one (b.retryEn.trans noRetry) (b.failCrash.trans stays) x.rises rfl latched x.landing ons
  obtain ⟨t, ht, time, tmode, spent, shown, -⟩ := b.answers_quiet hr hd evaluated hy causes (by rw [mode]; rfl)
  have frames : (pod t 0).failFrame = Machine.frame c - 1 := (congrArg Pod.failFrame spent).trans failFrame
  rw [b.frame] at frames
  exact ⟨t, ht, time, (congrArg Pod.st spent).trans off, (congrArg Pod.failedLast spent).trans failedLast,
    (congrArg Pod.failCause spent).trans failCause, frames, tmode.trans mode, shown 2 failed, shown 24 moved⟩

/-- A retry cooldown that ends (R170). -/
theorem cooldown_ends (b : LoneBoundary s u c entry) (hl : lonePod u entry) (hr : running s = true) (hd : due s = true) {o : Nat}
    (rises : (pod u 0).st = .rising) (cools : (pod u 0).cooldown = some o)
    (ready : o + podCfg u 0 2 * Machine.podUnit u 0 ≤ u.clk.time / 512 + 1) (rail : entType entry = 1) (delay : 0 < entOn entry) :
    ∃ t, atBoundary s due = .next t ∧ t.clk.time = (u.clk.time / 512 + 1) * 512 ∧ (pod t 0).st = .rising ∧
      (pod t 0).cooldown = none ∧ (pod t 0).retryActive = true ∧ (pod t 0).startFrame = u.clk.time / 512 + 1 ∧
      (pod t 0).fc = 0 ∧ (pod t 0).k = 0 ∧ (pod t 0).retriesUsed = (pod u 0).retriesUsed := by
  obtain ⟨ons, evaluated⟩ := b.evalPods hl
  obtain ⟨⟨-, -, -, -, -, -, -, -, handled, flies, -⟩, -⟩ := hl
  have started := b.solo.cooldownEnds b.one rises flies handled cools
    (by rw [b.podUnit, b.frame, podCfg, b.cfg]; exact ready) rail delay ons
  obtain ⟨t, ht, time, -, spent, -⟩ := b.answers_quiet hr hd evaluated started rfl rfl
  have frames : (pod t 0).startFrame = Machine.frame c := congrArg Pod.startFrame spent
  rw [b.frame] at frames
  exact ⟨t, ht, time, congrArg Pod.st spent, congrArg Pod.cooldown spent, congrArg Pod.retryActive spent, frames,
    congrArg Pod.fc spent, congrArg Pod.k spent, (congrArg Pod.retriesUsed spent).trans rfl⟩

/-- A descent limit that forces the pod OFF (R192). -/
theorem descent_forced (b : LoneBoundary s u c entry) (hl : lonePod u entry) (hr : running s = true) (hd : due s = true)
    (x : LateDescent u entry) (retries : (pod u 0).retryActive = false) (exhausted : (pod u 0).exhausted = false)
    (stays : Machine.timeoutCrash u 0 = false) :
    ∃ t, atBoundary s due = .next t ∧ t.clk.time = (u.clk.time / 512 + 1) * 512 ∧ t.sup.mode = .standby ∧ (pod t 0).st = .off ∧
      (pod t 0).timeout = true ∧ (Machine.chan t (entArg entry)).enable = false ∧ (Machine.chan t (entArg entry)).st = .off ∧
      shows t 4 := by
  obtain ⟨ons, evaluated⟩ := b.evalPods hl
  obtain ⟨⟨-, -, -, -, -, -, -, -, handled, -, latched, -⟩, -⟩ := hl
  have falling : evalPod ons c 0 = podOp ons (198 + 2) c (.fall 0 false) :=
    b.solo.evalPod_falling x.falls (by rw [b.frame]; exact x.later) ons
  obtain ⟨raised, off, y, hy, mode, causes, st, timeout, none⟩ := b.solo.fall_forced b.one x.rail x.channel x.disd
    (by rw [b.chan]; exact x.disch) (by rw [b.podUnit, podCfg, b.cfg]; exact x.late) (b.timeoutCrash.trans stays) retries
    exhausted latched ons 198
  rw [falling, hy.handleFailures_none (none.trans handled)] at evaluated
  obtain ⟨t, ht, time, tmode, spent, shown, offs⟩ := b.answers_quiet hr hd evaluated hy causes (by rw [mode]; rfl)
  exact ⟨t, ht, time, tmode.trans mode, (congrArg Pod.st spent).trans st, (congrArg Pod.timeout spent).trans timeout, (offs _ off).1,
    (offs _ off).2, shown 4 raised⟩

/-- A descent limit that crashes the device (R192, R217). -/
theorem descent_crashes (b : LoneBoundary s u c entry) (hl : lonePod u entry) (hr : running s = true) (hd : due s = true)
    (x : LateDescent u entry) (hm : u.sup.mode = .descend) (crashes : Machine.timeoutCrash u 0 = true) :
    ∃ t, atBoundary s due = .next t ∧ t.clk.time = (u.clk.time / 512 + 1) * 512 ∧ t.sup.mode = .crash ∧ t.sup.crash.cause = 7 ∧
      t.sup.crash.source = 0x80 ∧ (pod t 0).st = .crashed ∧ shows t 4 ∧ shows t 0 := by
  obtain ⟨ons, evaluated⟩ := b.evalPods hl
  obtain ⟨⟨-, -, -, -, -, -, -, -, handled, -⟩, -⟩ := hl
  have falling : evalPod ons c 0 = podOp ons (199 + 1) c (.fall 0 false) :=
    b.solo.evalPod_falling x.falls (by rw [b.frame]; exact x.later) ons
  obtain ⟨raised, hy⟩ := b.solo.fall_crashes b.one x.rail x.disd (by rw [b.chan]; exact x.disch)
    (by rw [b.podUnit, podCfg, b.cfg]; exact x.late) (b.timeoutCrash.trans crashes) ons 199
  rw [falling, hy.handleFailures_none handled] at evaluated
  obtain ⟨z, hz, mode, causes, -⟩ := hy.podsEnd_solo 0
  have raised := Solo.podsEnd_event raised
  rw [← evaluated] at hz raised
  have crash := hz.evalStep_crashes (code := 7) (src := 0x80) causes (by decide) (.inr (mode.trans hm))
  have time : (evalStep c false).clk.time = c.clk.time := (timeStands c.clk.time).toKeptAtStep5.evalStep false rfl
  obtain ⟨zmode, -⟩ := hz.reads
  have inUse : (pod (Machine.evalPods c) 0).inUse = true := (congrArg Pod.inUse hz.pod).trans hz.inUse
  have alive : (Machine.evalPods c).sup.mode ≠ .crash := by
    rw [zmode, mode, hm]
    exact nofun
  obtain ⟨crashed, keeps, zero⟩ := podLimit_crash alive
  rw [← crash] at crashed keeps zero
  obtain ⟨t, ht, view, events⟩ := b.answers hr hd (by rw [crashed.mode]; rfl)
  simp only [openView, Prod.mk.injEq] at view
  obtain ⟨vtime, vpods, -, vmode, vcrash⟩ := view
  have st := crashed.pods 0 (by decide) inUse
  have pod_eq : pod t 0 = pod (evalStep c false) 0 := congrArg (get · Pod.reset 0) vpods
  exact ⟨t, ht, vtime.trans (time.trans b.time), vmode.trans crashed.mode, (congrArg Crash.cause vcrash).trans crashed.cause,
    (congrArg Crash.source vcrash).trans crashed.source, (congrArg Pod.st pod_eq).trans st,
    events 4 (keeps 4 raised), events 0 zero⟩

end LoneBoundary

/-! ### The dues of the four commands -/

/-- When RISE_DEADLINE_EXPIRY of entry 0, LANDING_TIMEOUT, RETRY_COOLDOWN_EXPIRY and DESCENT_LIMIT_EXPIRY of pod 0 act. -/
def deadlinePasses (s : State) : Bool :=
  decide ((pod s 0).st = .rising) && (ent s 0 0).waiting && deadlineDue s 0 0 (frame s + 1)

def landingPasses (s : State) : Bool :=
  (pod s 0).held && !decide (entDl (entryOf s 0 (pod s 0).k) = 0) &&
    decide (entDl (entryOf s 0 (pod s 0).k) * podUnit s 0 ≤ (pod s 0).hf + 1)

def cooldownPasses (s : State) : Bool := decide ((pod s 0).st = .rising) && cooldownDue (atNext s) 0

def descentPasses (s : State) : Bool :=
  decide ((pod s 0).st = .falling) && decide (podCfg s 0 8 * podUnit s 0 ≤ (pod s 0).dc + 1)

/-- Two states with the same pods, settings and frame. -/
structure SamePods (s u : State) : Prop where
  pods : u.sup.pods = s.sup.pods
  latched : u.latched = s.latched
  frame : u.clk.time / 512 = s.clk.time / 512

namespace SamePods

variable {s u : State} {entry : Nat}

theorem pod (h : SamePods s u) : Machine.pod s 0 = Machine.pod u 0 := congrArg (get · Pod.reset 0) h.pods.symm
theorem ent (h : SamePods s u) : Machine.ent s 0 0 = Machine.ent u 0 0 :=
  congrArg (fun q : Pod => get q.ents EntrySt.reset 0) h.pod
theorem cfg (h : SamePods s u) (i j : Nat) : Machine.cfg s i j = Machine.cfg u i j := by
  rw [Machine.cfg, ← h.latched, Machine.cfg]
theorem podUnit (h : SamePods s u) : Machine.podUnit s 0 = Machine.podUnit u 0 :=
  congrArg (fun v => unitLen (fld v 0 2)) (h.cfg _ _)
theorem next (h : SamePods s u) : Machine.frame s + 1 = u.clk.time / 512 + 1 := congrArg (· + 1) h.frame.symm

theorem deadline (h : SamePods s u) (first : entryOf u 0 0 = entry) (x : LateRail u entry) : deadlinePasses s = true := by
  have entry_eq : entryOf s 0 0 = entry := (h.cfg _ _).trans first
  simp [deadlinePasses, deadlineDue, h.pod, h.ent, entry_eq, h.podUnit, h.next, x.rises, x.waits, x.limit, x.late]

theorem landing (h : SamePods s u) (first : entryOf u 0 0 = entry) (x : LateLanding u entry) : landingPasses s = true := by
  have entry_eq : entryOf s 0 0 = entry := (h.cfg _ _).trans first
  simp [landingPasses, h.pod, x.first, entry_eq, h.podUnit, x.held, x.limit, x.late]

theorem cooldown (h : SamePods s u) {o : Nat} (rises : (Machine.pod u 0).st = .rising) (cools : (Machine.pod u 0).cooldown = some o)
    (ready : o + podCfg u 0 2 * Machine.podUnit u 0 ≤ u.clk.time / 512 + 1) : cooldownPasses s = true := by
  have opens : Machine.frame (atNext s) = Machine.frame s + 1 := by
    simp only [Machine.frame, atNext, inFrame, frameOf]
    omega
  have due : cooldownDue (atNext s) 0 = true := by
    have pod_eq : Machine.pod (atNext s) 0 = Machine.pod u 0 := h.pod
    simp only [cooldownDue, pod_eq, cools, opens, h.next]
    refine decide_eq_true ?_
    have wait_eq : podCfg (atNext s) 0 2 = podCfg u 0 2 := h.cfg _ _
    have unit_eq : Machine.podUnit (atNext s) 0 = Machine.podUnit u 0 := h.podUnit
    rw [wait_eq, unit_eq]
    exact ready
  simp [cooldownPasses, h.pod, rises, due]

theorem descent (h : SamePods s u) (x : LateDescent u entry) : descentPasses s = true := by
  have limit : podCfg s 0 8 = podCfg u 0 8 := h.cfg _ _
  simp [descentPasses, h.pod, limit, h.podUnit, x.falls, x.late]

end SamePods

/-- Settles O57: the boundary is that of a device on which nothing but its one pod is on its way, so that step 5 is the step of that
pod and the handling of its failure. -/
theorem podDeadlinesOfALonePod : Obligations.PodDeadlinesOfALonePod := by
  unfold Obligations.PodDeadlinesOfALonePod
  intro s entry hr u hu hl hm _ hframe hpods hlatched
  obtain ⟨c, b⟩ := lonePod.boundary rfl hu hl hm
  obtain ⟨-, -, -, -, -, -, -, -, -, -, -, -, -, first, -⟩ := hl.1
  have same : SamePods s u := ⟨hpods, hlatched, hframe⟩
  refine ⟨fun noRetry stays => ⟨?_, ?_⟩, ?_, ?_⟩
  · intro rises warm held admitted later all rail channel noDelay limit reached waits _ late _
    have x : LateRail u entry :=
      ⟨rises, warm, held, admitted, later, all, rail, channel, noDelay, limit, reached, waits, late⟩
    exact b.deadline_falls hl hr (same.deadline first x) noRetry x
  · intro rises warm held _ later index landing rel unreleased limit late _
    have x : LateLanding u entry := ⟨rises, warm, held, later, index, landing, rel, unreleased, limit, late⟩
    exact b.landing_fails hl hr (same.landing first x) noRetry stays x
  · intro o rises cools ready rail delay _
    exact b.cooldown_ends hl hr (same.cooldown rises cools ready) rises cools ready rail delay
  · intro falls later rail channel disd disch late retries exhausted mode
    have x : LateDescent u entry := ⟨falls, later, rail, channel, disd, disch, late⟩
    exact ⟨b.descent_crashes hl hr (same.descent x) x mode, b.descent_forced hl hr (same.descent x) x retries exhausted⟩

end Sys2Proof.Machine

end
